-- ==== Sys2Proof/Word.lean ====
section
/-! DEFINITION. The machine's words: the widths the manual uses, with the plainest arithmetic on them. -/

namespace Sys2Proof

/-- A 32-bit engine word (D and P registers, Table CE-1). -/
abbrev Word := BitVec 32

/-- One byte of engine memory or of the CSM. -/
abbrev Byte := BitVec 8

/-- A 40-bit accumulator (A0 to A3, Table CE-1). -/
abbrev Acc := BitVec 40

/-- The 56-bit accumulator of a time base (R113). -/
abbrev TbAcc := BitVec 56

end Sys2Proof
end

