-- ==== Sys2Proof/Types.lean ====
section
/-! DEFINITION. The names and records that commands carry: states, roles, frames, host requests. Each follows one
table of the manual, which its docstring names. -/

namespace Sys2Proof

/-- Device state, Table CM-8. -/
inductive DevState where
  | boot | commission | blocked | ready | run | coast | safe | sleep
  deriving DecidableEq, Repr

/-- Redundancy role, Table CM-13. -/
inductive Role where
  | solo | active | standby
  deriving DecidableEq, Repr

/-- Node state, Table NC-1. -/
inductive NodeState where
  | off | ready | run | coast | block | bypass | fault
  deriving DecidableEq, Repr

/-- The state of one leg (half-bridge): both off, low on, high on, or high impedance after a leg fault (R83). -/
inductive LegSt where
  | off | low | high | highZ
  deriving DecidableEq, Repr

/-- STATE code of an edge descriptor, Table DL-11: `reject` is 0b11, executed as both off. -/
inductive EdgeSt where
  | off | low | high | reject
  deriving DecidableEq, Repr

/-- An edge descriptor (Table DL-11); the offset is in 1/256 ns from the tick's boundary. -/
structure Edge where
  leg : Nat
  st : EdgeSt
  strength : Nat
  offset : Nat
  deriving DecidableEq, Repr

/-- The part of a Wale header (Tables DL-5 and DL-8) on which a receiver acts. `hcrcOk` says that HCRC passes. -/
structure WaleHdr where
  supp : Bool
  ring : Nat
  endB : Bool
  devid : Nat
  seq : BitVec 16
  epoch : Nat
  tgtT0 : BitVec 40
  state : Nat
  role : Nat
  bridge : Bool
  cpv : Bool
  nen : BitVec 16
  tick : BitVec 32
  hcrcOk : Bool
  deriving DecidableEq, Repr

/-- A node record (Table DL-9). `rcrcOk` says that RCRC passes. -/
structure NodeRec where
  pos : Nat
  cmd : Nat
  arg : BitVec 16
  edges : List Edge
  rcrcOk : Bool
  deriving DecidableEq, Repr

/-- A Wale as sent: header and records in the order of R55. -/
structure Wale where
  hdr : WaleHdr
  recs : List NodeRec
  deriving DecidableEq, Repr

/-- A coast entry (Table DL-17). -/
structure CoastEnt where
  leg : Nat
  st : EdgeSt
  strength : Nat
  offset : Nat
  deriving DecidableEq, Repr

/-- A coast pattern (Table DL-16). -/
structure CoastPat where
  pver : Nat
  anchor : BitVec 40
  period : Nat
  ents : List CoastEnt
  deriving DecidableEq, Repr

/-- The empty coast pattern. -/
def CoastPat.empty : CoastPat := { pver := 0, anchor := 0, period := 256000, ents := [] }

/-- A node's identity block (Table NC-4); `icrcOk` says that ICRC passes. -/
structure NodeIdent where
  cverMajor : Nat
  cverMinor : Nat
  nclass : Nat
  nlegs : Nat
  vendor : Nat
  hwrev : Nat
  fwver : Nat
  serial : Nat
  cells : Nat
  legcell : BitVec 8
  strn : Nat
  rates : BitVec 8
  gran : Nat
  fwdlat : Nat
  bypt : Nat
  osdcap : BitVec 8
  tjmap : List Nat
  measfs : List Nat
  icrcOk : Bool
  deriving DecidableEq, Repr

/-- A Response (Table DL-12). -/
structure Response where
  ring : Nat
  pos : Nat
  seq : BitVec 16
  nstate : NodeState
  portALock : Bool
  portBLock : Bool
  coasted : Bool
  rxErr : Bool
  bsuv : Bool
  supp : Bool
  osdValid : Bool
  legflt : BitVec 8
  intlk : BitVec 8
  epochSeen : Nat
  wseq : BitVec 16
  meas : List Int
  tj : List Int
  swt : List Nat
  osd : BitVec 16
  deriving DecidableEq, Repr

/-- A Sync frame (Table DL-14): SUBTYPE 0 time, 1 probe out, 2 probe return. -/
structure SyncFrame where
  subtype : Nat
  tick : BitVec 32
  tDep : BitVec 40
  tAux : BitVec 40
  tper : Nat
  deriving DecidableEq, Repr

/-- A ring Heartbeat (Table DL-15). -/
structure Heartbeat where
  devid : Nat
  epoch : Nat
  tick : BitVec 32
  state : Nat
  role : Nat
  ladder : Nat
  timingDegraded : Bool
  unsync : Bool
  handover : Bool
  deriving DecidableEq, Repr

/-- A Spar heartbeat (Table RP-4). -/
structure SparHb where
  devid : Nat
  epoch : Nat
  tick : BitVec 32
  state : Nat
  role : Nat
  ladder : Nat
  timingDegraded : Bool
  unsync : Bool
  handover : Bool
  safetyChk : Nat
  pairChk : Nat
  tDep : BitVec 40
  tAux : BitVec 40
  pairCfgd : Bool
  mirrorIn : Bool
  pairAlign : Bool
  pairselB : Bool
  deriving DecidableEq, Repr

/-- A Block ordered set (Table DL-13). `wellFormed` stands for OCODE, complements and CHK being correct (R61). -/
structure BlockSet where
  scope : Nat
  strmask : BitVec 6
  cause : Nat
  devid : Nat
  wellFormed : Bool
  deriving DecidableEq, Repr

/-- A digest (Table RP-9) with the tick number of its frame and the group share it carries (R300). -/
structure Digest where
  devid : Nat
  seq : BitVec 16
  state : Nat
  role : Nat
  gcfg : Nat
  compat : Nat
  tb1b : BitVec 40
  ladder : Nat
  ridgeBrk : Bool
  timingDegraded : Bool
  shareValid : Bool
  leader : Bool
  unsync : Bool
  gbseq : BitVec 8
  epoch : Nat
  partner : Nat
  boottag : BitVec 16
  share : List Byte
  /-- GRP of its header -/
  grp : Nat
  crcOk : Bool
  lenOk : Bool
  deriving DecidableEq, Repr

/-- A sealed block-request frame (KIND 0x74, Table RP-13). -/
structure BlockReqFrame where
  systemWide : Bool
  gbseq : BitVec 8
  origin : Nat
  ogrp : Nat
  ctr : Nat
  /-- the group key under which its tag verifies; none where it verifies under none -/
  key : Option Nat
  lenOk : Bool
  hops : Nat
  /-- SEQ of its header -/
  seq : BitVec 16
  deriving DecidableEq, Repr

/-- How a message comes over Spar: on which lane, and whether its LEN agrees with its KIND and its FCS passes (R274, R277). -/
structure SparIn where
  lane1 : Bool
  ok : Bool
  deriving DecidableEq, Repr

/-- A part of a Spar message, with how the message comes. -/
structure Over (α : Type) where
  val : α
  via : SparIn
  deriving DecidableEq, Repr

/-- A segment of a configuration forward (KIND 0x68, Table RP-12). -/
structure CfgSeg where
  segno : Nat
  last : Bool
  content : List Byte
  via : SparIn
  deriving DecidableEq, Repr

/-- The header of a Ridge frame: HOPS, DIR, SRC, GRP and SEQ (Table RP-7). -/
structure RidgeHdr where
  hops : Nat
  onRgw : Bool
  src : Nat
  grp : Nat
  seq : BitVec 16
  deriving DecidableEq, Repr

/-- How a Ridge frame comes to a device: its link (0 RGE, 1 RGW, 2 RGT0, 3 RGT1) and whether its LEN agrees with its KIND (R292). -/
structure RidgeIn where
  link : Fin 4
  lenOk : Bool
  /-- SEQ of its header -/
  seq : BitVec 16
  deriving DecidableEq, Repr

/-- How a frame that goes round a group comes to a device: its group lane, the links passed, and whether its LEN agrees with its KIND
(Table RP-7, R292). -/
structure GroupHop where
  fromRge : Bool
  hops : Nat
  lenOk : Bool
  /-- GRP and SEQ of its header -/
  grp : Nat
  seq : BitVec 16
  deriving DecidableEq, Repr

/-- The devices between which a proxy frame passes (Table RP-13). -/
structure ProxyEnds where
  target : Nat
  entry : Nat
  deriving DecidableEq, Repr

/-- The seal of a frame: its counter, and the group key under which its tag verifies, none where it verifies under none (R293, R347). -/
structure Seal where
  ctr : Nat
  key : Option Nat
  deriving DecidableEq, Repr

/-- The parts of a proxy frame (KIND 0x73) that lead it: the group lane on which it comes, the links passed, its target and entry
device, the sealing counter, the key under which the tag verifies and whether LEN agrees with KIND (Tables RP-7 and RP-13). -/
structure ProxyVia where
  fromRge : Bool
  hops : Nat
  target : Nat
  entry : Nat
  ctr : Nat
  key : Option Nat
  lenOk : Bool
  grp : Nat
  seq : BitVec 16
  deriving DecidableEq, Repr

/-- The leading parts of a proxy frame, put together. -/
def ProxyVia.of (h : GroupHop) (e : ProxyEnds) (x : Seal) : ProxyVia :=
  { fromRge := h.fromRge, hops := h.hops, target := e.target, entry := e.entry, ctr := x.ctr, key := x.key, lenOk := h.lenOk,
    grp := h.grp, seq := h.seq }

/-- How it came. -/
def ProxyVia.hop (v : ProxyVia) : GroupHop := { fromRge := v.fromRge, hops := v.hops, lenOk := v.lenOk, grp := v.grp, seq := v.seq }

/-- Between which devices it passes. -/
def ProxyVia.ends (v : ProxyVia) : ProxyEnds := { target := v.target, entry := v.entry }

/-- Its seal. -/
def ProxyVia.seal (v : ProxyVia) : Seal := { ctr := v.ctr, key := v.key }

/-- One item of a READ (Table OD-11). -/
structure RItem where
  idx : Nat
  sub : Nat
  offset : Nat
  maxLen : Nat
  deriving DecidableEq, Repr

/-- One item of a WRITE (Table OD-11); `val` is the value's bytes read most significant first. -/
structure WItem where
  idx : Nat
  sub : Nat
  ty : Nat
  offset : Nat
  len : Nat
  val : Nat
  deriving DecidableEq, Repr

/-- A lock scope (Table OD-11). -/
inductive Scope where
  | cluster
  | string (s : Nat)
  deriving DecidableEq, Repr

/-- A ZOA request (Table OD-9), FILE apart. -/
inductive Pdu where
  | read (items : List RItem)
  | readShadow (items : List RItem)
  | readDesc (items : List RItem)
  | write (items : List WItem)
  | lock (sc : Scope)
  | unlock (sc : Scope)
  | yelmOpen (sc : Scope)
  | yelmAdd (items : List WItem)
  | yelmCommit (target : BitVec 32)
  | subOpen (sub : Nat) (period : Nat) (items : List RItem)
  | subClose (sub : Nat)
  | heartbeat
  deriving DecidableEq, Repr

/-- The result of one item: status, type code, byte count and value. -/
structure ItemRes where
  status : Nat
  ty : Nat
  len : Nat
  val : Nat
  deriving DecidableEq, Repr

/-- A reply: the PDU status and its items; `arg` is the identifier or count the body carries. -/
structure Reply where
  status : Nat
  arg : Nat
  items : List ItemRes
  deriving DecidableEq, Repr

/-- The straps sampled at reset release (R394). -/
structure Straps where
  devid : Nat
  pairselB : Bool
  bootsel : Bool
  deriving DecidableEq, Repr

/-- A firmware image header (Table FW-2), as the checks of Table FW-3 see it. `fmtOk` covers MAGIC, FORMAT, TYPE and
the reserved bytes; `target` is TARGET, its 16 bytes read most significant first, `stepping` STEPPING; `sigOk` is the signature
against the named key; `iv`, `tag` and `pdigest` are IV, TAG and PDIGEST, `raw` all 512 bytes. -/
structure ImgHdr where
  fmtOk : Bool
  target : Nat
  stepping : Nat
  smig : Bool
  revoke : Bool
  compat : Nat
  version : Nat
  arb : Nat
  sigkey : Nat
  sigOk : Bool
  setfmt : Nat
  ssfmt : Nat
  minset : Nat
  plen : Nat
  iv : Nat
  tag : Nat
  pdigest : Nat
  raw : Nat
  deriving DecidableEq, Repr

/-- An exported variable of an engine package (export entry, R196). -/
structure Export where
  idx : Nat
  sub : Nat
  ty : Nat
  acc : Nat
  persist : Nat
  csmOff : Nat
  dflt : Nat
  deriving DecidableEq, Repr

/-- An engine package (Table CE-19). `magicOk` covers MAGIC and FORMAT. -/
structure Package where
  magicOk : Bool
  engine : Nat
  prog : List Byte
  data : List Byte
  exports : List Export
  mirrorOff : Nat
  mirrorLen : Nat
  build : Nat
  pcrc : Nat
  pcrcOk : Bool
  /-- the bytes of its file -/
  file : List Byte
  deriving DecidableEq, Repr

/-- A lane's eye opening, with the recheck of delays that goes with it: the delay of the lane's transmitter and of one pin of a local leg, in ps
relative to BIST's calibration (R123, R226, R343, Table EV-5). -/
structure EyeRead where
  wide : Nat
  txDelay : Int
  pin : Fin 24
  pinDelay : Int
  deriving DecidableEq, Repr

/-- What BOOT finds of its stores (R258, R306): the copies of the dictionary's persistent store and of the safety parameter store that
read without an uncorrectable error, and whether the working copy of the safety set passes its check. -/
structure BootChecks where
  dict1Ok : Bool
  dict2Ok : Bool
  saf1Ok : Bool
  saf2Ok : Bool
  workOk : Bool
  deriving DecidableEq, Repr

/-- What t_dl finds: whether SC2 answers the tick's challenge (R255), and the capture ranges of the trace that the arbiter does not
serve before the next t0 (Table CE-17). -/
structure DeadlineIn where
  scResponds : Bool
  unread : BitVec 8
  deriving DecidableEq, Repr

/-- The check of a Wale at the opposite end of its ring: the EPOCH of its header, whether the header holds, and the positions whose
records fail (R59, Table RP-12). -/
structure EndCheck where
  epoch : Nat
  fcsOk : Bool
  rfail : BitVec 16
  deriving DecidableEq, Repr

/-- A probe pair of a ring as end B handles it: the arrival of the probe out and the departure of the return (R69). -/
structure ProbePair where
  ring : Fin 48
  rB : BitVec 40
  sB : BitVec 40
  deriving DecidableEq, Repr

/-- What prepare's off-state diagnostics and Block path test found; in a pair the partner reports the far ends (R28, R68). -/
structure PrepareFound where
  diagOk : Bool
  partnerSaw : Bool
  deriving DecidableEq, Repr

/-- What the health checks of Table FW-8 find of the cores, and whether the copies of the stores read without an uncorrectable error
(R358). -/
structure HealthIn where
  coresOk : Bool
  storesOk : Bool
  deriving DecidableEq, Repr

/-- A node by its ring address, and the port at which something reaches it. -/
structure NodePort where
  node : Fin 768
  fromB : Bool
  deriving DecidableEq, Repr

/-- A debug certificate (Table FW-10); `sigOk` says that SIG verifies against SIGNER. -/
structure DebugCert where
  magicOk : Bool
  serial : Nat
  pccMax : Nat
  permJtag : Bool
  permBrk : Bool
  permCore : Bool
  signer : Nat
  sigOk : Bool
  deriving DecidableEq, Repr

/-- A PTP stamp pair: the PTP view of TB3 (nanoseconds since its epoch) and TB0. -/
structure PtpStamp where
  tb3 : Int
  tb0 : BitVec 40
  deriving DecidableEq, Repr

/-- The dataset of a clock as the BMCA compares it (IEEE 1588), each field in the order of comparison. -/
structure PtpDs where
  priority1 : Nat
  clockClass : Nat
  accuracy : Nat
  variance : Nat
  priority2 : Nat
  gmid : Nat
  deriving DecidableEq, Repr

/-- The quality of a clock (IEEE 1588). -/
structure ClockQuality where
  clockClass : Nat
  accuracy : Nat
  variance : Nat
  deriving DecidableEq, Repr

/-- A dataset's clock quality. -/
def PtpDs.quality (d : PtpDs) : ClockQuality := { clockClass := d.clockClass, accuracy := d.accuracy, variance := d.variance }

/-- A frame that HSR forwards: a PTP event message or Follow_Up with its correctionField and, of a Sync, the raw stamps of its
arrival and departure; a supervision frame; or any other (R127, R129, R308). -/
inductive HsrFrame where
  | plain (frame : Nat)
  | supervision
  | sync (frame : Nat) (twoStep : Bool) (corr : Int) (rx tx : PtpStamp)
  | followUp (frame : Nat) (corr : Int)
  deriving DecidableEq, Repr

/-- A frame on E0 or E1 that carries a PRP trailer or an HSR tag: its source, its sequence number, whether its trailer names the LAN of the
other port, and what it carries (R308). -/
structure RedFrame where
  src : Nat
  seq : BitVec 16
  wrongLan : Bool
  body : HsrFrame
  deriving DecidableEq, Repr

/-- An Ethernet port (Table OD-7, R310). -/
inductive EthPort where
  | e0 | e1 | es
  deriving DecidableEq, Repr

/-- Where a datagram of a host comes to: its port and the UDP port it is sent to (R309). -/
structure HostVia where
  port : EthPort
  udp : Nat
  deriving DecidableEq, Repr

/-- The redundancy information of a frame sent on E0 and E1: none, a PRP trailer or an HSR tag, with its sequence number (R308). -/
inductive Redundancy where
  | none
  | prp (seq : BitVec 16)
  | hsr (seq : BitVec 16)
  deriving DecidableEq, Repr

/-- How a frame for a host leaves: the ports it is sent on, and its redundancy information. -/
structure EthOut where
  e0 : Bool
  e1 : Bool
  es : Bool
  red : Redundancy
  deriving DecidableEq, Repr

/-- The alert of a refused handshake: internal_error for a ninth session (R313), any other for a client that does not authenticate. -/
inductive DtlsAlert where
  | internalError | refused
  deriving DecidableEq, Repr

/-- A client's certificate chain: the certificate it ends at, given as its bytes' number, and whether its signatures hold (R311). -/
structure ClientChain where
  root : Nat
  ok : Bool
  deriving DecidableEq, Repr

/-- A notification: the identifier in TAG, and its body (Table OD-8). -/
structure Note where
  id : Nat
  body : Reply
  deriving DecidableEq, Repr

/-- What a FILE request names: its TARGET and its FILEID (Tables OD-8 and OD-11). -/
structure FileRef where
  target : Nat
  fileId : Nat
  deriving DecidableEq, Repr

/-- A FILE request without a body of its own: TAG, TARGET and FILEID. -/
structure FileHead where
  tag : BitVec 16
  file : FileRef
  deriving DecidableEq, Repr

/-- What the ROM reads of an image slot: whether its header and its payload read without an uncorrectable error (R363). -/
structure SlotRead where
  hdrOk : Bool
  payloadOk : Bool
  deriving DecidableEq, Repr

/-- The slot in which a syllable stands (R177). -/
inductive VSlot where
  | c | l | m0 | m1
  deriving DecidableEq, Repr

/-- Where an engine syllable issues: its engine, its slot, and whether it is the last syllable of its bundle. -/
structure Syl where
  eng : Fin 16
  slot : VSlot
  last : Bool
  deriving DecidableEq, Repr

/-- A syllable that no other command spells: its place and its bits, zero for NOP; any other word stands for a syllable with a reserved
OP or FN (R177, Table CE-5). -/
structure NopSyl where
  at_ : Syl
  word : BitVec 32
  deriving DecidableEq, Repr

/-- Memory operand of the F-L format: P register, MODE and the signed byte displacement (R177). -/
structure MemOp where
  pb : Fin 8
  mode : BitVec 2
  disp : BitVec 17
  deriving DecidableEq, Repr

/-- Operands of the F-M format: accumulator, sources, half selects, coefficient select and negate. -/
structure MacOp where
  acc : Fin 4
  sa : Fin 32
  sb : Fin 32
  ha : Bool
  hb : Bool
  ks : Bool
  neg : Bool
  deriving DecidableEq, Repr

/-- A memory in which an uncorrectable ECC error is found (Table SF-12). -/
inductive EccMem where
  | engine (e : Fin 16)
  | sc2 | workingCopy | weave | netbuf
  | other
  deriving DecidableEq, Repr

/-- A CSM requester: CLASS and UNIT of Table CM-15. -/
structure Requester where
  cls : Nat
  unit : Nat
  deriving DecidableEq, Repr

/-- What a Management request carries beside its body: the sender's DEVID and the TAG (Table DL-17a, R65). -/
structure MgmtFrom where
  devid : Nat
  tag : BitVec 8
  deriving DecidableEq, Repr

/-- What a node reports of one probe pair (R91), in 1/256 ns. -/
structure ProbeRow where
  i : Int
  fab : Int
  fba : Int
  deriving DecidableEq, Repr

end Sys2Proof
end

