-- ==== Sys2Proof/Syntax.lean ====
section
/-! DEFINITION. The commands: one constructor per row of the opcode table, in its order, with the operands the
environment (ring, pin, host, partner, engine sequencer or timer) brings with the command. -/

namespace Sys2Proof

/-- A command to the block. Each docstring names the row and the rule that governs it. -/
inductive Instr where
  /-- BOUNDARY (R17). At each tick boundary the device applies, in one fabric cycle, all pending yelms, bank swaps, RWB/RWS shadows and the pending slot table. -/
  | boundary (challenge : BitVec 32)
  /-- NODE_SAMPLE (R92). A node samples its measurements at t0 and starts its Response on both ports within t_ta. -/
  | nodeSample (n : Fin 768) (meas : List Int) (tj : List Int) (lockA lockB : Bool)
  /-- TICK_HEARTBEAT (R53). At t_hb the device sends its Heartbeat on Spar and in ring headers. -/
  | tickHeartbeat
  /-- TICK_GATHER (R60). At t_gather the device completes gathering Responses, marks missing ones STALE and evaluates availability. -/
  | tickGather
  /-- SORTER_COMPLETE (R208). The Sorter finishes a string, writes its ranks and sets SORTST VALID, or marks it late. -/
  | sorterComplete (st : Fin 6) (late : Bool)
  /-- TICK_START (R172). At t_start the enabled engines with verified packages start at bundle 0 with cleared registers. -/
  | tickStart
  /-- TICK_DEADLINE (R22). At t_dl the deadline monitor stops unfinished engines and the Weave builder reloads the legs. -/
  | tickDeadline (found : DeadlineIn)
  /-- REGULAR_WALE_SEND (R72). After finalisation the commanding end sends the regular Wale with node records for tick k+1. -/
  | regularWaleSend (ring : Fin 48)
  /-- SUPPLEMENTARY_WALE_SEND (R163). A supplementary Wale carrying released edges for the current tick leaves once the ring has none in flight. -/
  | supplementaryWaleSend (ring : Fin 48) (fits : Bool)
  /-- ALLOCATION_RUN (R209). The Level allocator turns N and the ranking into an insertion set and sets ALLOC_RDY. -/
  | allocationRun (st : Fin 6)
  /-- ADD (R176). Wrapping 32-bit addition. -/
  | add (y : Syl) (d a b : Fin 32)
  /-- SUB (R176). Wrapping 32-bit subtraction. -/
  | sub (y : Syl) (d a b : Fin 32)
  /-- ADDS (R176). Saturating Q31 addition. -/
  | adds (y : Syl) (d a b : Fin 32)
  /-- SUBS (R176). Saturating Q31 subtraction. -/
  | subs (y : Syl) (d a b : Fin 32)
  /-- ADD2S (R176). Saturating addition of two Q15 lanes. -/
  | add2s (y : Syl) (d a b : Fin 32)
  /-- SUB2S (R176). Saturating subtraction of two Q15 lanes. -/
  | sub2s (y : Syl) (d a b : Fin 32)
  /-- AND (R176). Bitwise AND. -/
  | and (y : Syl) (d a b : Fin 32)
  /-- OR (R176). Bitwise OR. -/
  | or (y : Syl) (d a b : Fin 32)
  /-- XOR (R176). Bitwise XOR. -/
  | xor (y : Syl) (d a b : Fin 32)
  /-- SHL (R176). Logical shift left by Db[4:0]. -/
  | shl (y : Syl) (d a b : Fin 32)
  /-- SHR (R176). Logical shift right by Db[4:0]. -/
  | shr (y : Syl) (d a b : Fin 32)
  /-- ASR (R176). Arithmetic shift right by Db[4:0]. -/
  | asr (y : Syl) (d a b : Fin 32)
  /-- MIN (R177). Signed minimum. -/
  | min (y : Syl) (d a b : Fin 32)
  /-- MAX (R177). Signed maximum. -/
  | max (y : Syl) (d a b : Fin 32)
  /-- ABS (R176). Saturating absolute value. -/
  | abs (y : Syl) (d a : Fin 32)
  /-- NEGS (R176). Saturating negation. -/
  | negs (y : Syl) (d a : Fin 32)
  /-- CLIP (R177). Clip Da to the range from -Db to Db. -/
  | clip (y : Syl) (d a b : Fin 32)
  /-- CMP (R177). Set flags N, Z, C and V from Da - Db. -/
  | cmp (y : Syl) (a b : Fin 32)
  /-- MOV (R177). Copy a D register. -/
  | mov (y : Syl) (d a : Fin 32)
  /-- MOVP (R177). Copy a D register into a P register. -/
  | movp (y : Syl) (p : Fin 8) (a : Fin 32)
  /-- MOVD (R177). Copy a P register into a D register. -/
  | movd (y : Syl) (d : Fin 32) (p : Fin 8)
  /-- PACK (R177). Pack two low halves into one register. -/
  | pack (y : Syl) (d a b : Fin 32)
  /-- MOVS (R176). Read the status register ST. -/
  | movs (y : Syl) (d : Fin 32)
  /-- MOVST (R177). Write the status register ST. -/
  | movst (y : Syl) (a : Fin 32)
  /-- SAT16 (R176). Saturate to Q15 with sign extension. -/
  | sat16 (y : Syl) (d a : Fin 32)
  /-- DIVQ (R176). Q15 division, saturated, with DIV0 on a zero divisor. -/
  | divq (y : Syl) (d a b : Fin 32)
  /-- MULQ (R176). Rounded, saturating Q15 multiply. -/
  | mulq (y : Syl) (d a b : Fin 32)
  /-- ADDI (R177). Add a sign-extended immediate. -/
  | addi (y : Syl) (d a : Fin 32) (imm : BitVec 17)
  /-- ANDI (R177). AND with a zero-extended immediate. -/
  | andi (y : Syl) (d a : Fin 32) (imm : BitVec 17)
  /-- ORI (R177). OR with a zero-extended immediate. -/
  | ori (y : Syl) (d a : Fin 32) (imm : BitVec 17)
  /-- MOVI (R177). Load a sign-extended immediate. -/
  | movi (y : Syl) (d : Fin 32) (imm : BitVec 17)
  /-- MOVHI (R177). Load an immediate into the high half. -/
  | movhi (y : Syl) (d : Fin 32) (imm : BitVec 17)
  /-- SHI_SHL (R176). Shift left by an immediate amount. -/
  | shiShl (y : Syl) (d a : Fin 32) (amt : Fin 32)
  /-- SHI_SHR (R176). Logical shift right by an immediate amount. -/
  | shiShr (y : Syl) (d a : Fin 32) (amt : Fin 32)
  /-- SHI_ASR (R176). Arithmetic shift right by an immediate amount. -/
  | shiAsr (y : Syl) (d a : Fin 32) (amt : Fin 32)
  /-- CMPI (R177). Set flags from Da minus an immediate. -/
  | cmpi (y : Syl) (a : Fin 32) (imm : BitVec 17)
  /-- LD_H (R179). Load a sign-extended halfword from data, coefficient, I/O or CSM. -/
  | ldH (y : Syl) (dt : Fin 32) (m : MemOp)
  /-- LD_W (R179). Load a word. -/
  | ldW (y : Syl) (dt : Fin 32) (m : MemOp)
  /-- LD_D (R179). Load a double word into an even register pair. -/
  | ldD (y : Syl) (dt : Fin 32) (m : MemOp)
  /-- ST_H (R179). Store a halfword, posted as a one-beat transfer in the CSM. -/
  | stH (y : Syl) (dt : Fin 32) (m : MemOp)
  /-- ST_W (R179). Store a word. -/
  | stW (y : Syl) (dt : Fin 32) (m : MemOp)
  /-- ST_D (R179). Store a double word. -/
  | stD (y : Syl) (dt : Fin 32) (m : MemOp)
  /-- LDP (R178). Load a P register from memory. -/
  | ldp (y : Syl) (pt : Fin 8) (m : MemOp)
  /-- STP (R178). Store a P register to memory. -/
  | stp (y : Syl) (pt : Fin 8) (m : MemOp)
  /-- MAC (R175). Multiply two 16-bit operands and accumulate into an accumulator. -/
  | mac (y : Syl) (o : MacOp)
  /-- MPY (R175). Multiply two 16-bit operands into an accumulator. -/
  | mpy (y : Syl) (o : MacOp)
  /-- CLRA (R175). Clear an accumulator. -/
  | clra (y : Syl) (acc : Fin 4)
  /-- MOVA_W (R175). Move a sign-extended D register into an accumulator. -/
  | movaW (y : Syl) (acc : Fin 4) (d : Fin 32)
  /-- MOVA_H (R175). Move a low half shifted left by 16 into an accumulator. -/
  | movaH (y : Syl) (acc : Fin 4) (d : Fin 32)
  /-- ADDA (R175). Add another accumulator, saturating at 40 bits. -/
  | adda (y : Syl) (acc src : Fin 4)
  /-- ADDW (R175). Add a sign-extended D register to an accumulator. -/
  | addw (y : Syl) (acc : Fin 4) (d : Fin 32)
  /-- ASRA (R175). Arithmetic shift of an accumulator by an immediate. -/
  | asra (y : Syl) (acc : Fin 4) (amt : Fin 64)
  /-- SHLA (R175). Saturating left shift of an accumulator. -/
  | shla (y : Syl) (acc : Fin 4) (amt : Fin 64)
  /-- EXT_H (R176). Round and saturate an accumulator to Q15. -/
  | extH (y : Syl) (d : Fin 32) (acc : Fin 4)
  /-- EXT_W (R176). Saturate an accumulator to 32 bits without rounding. -/
  | extW (y : Syl) (d : Fin 32) (acc : Fin 4)
  /-- BCC (R177). Branch to a bundle if the condition holds. -/
  | bcc (y : Syl) (cond : Fin 16) (target : BitVec 14)
  /-- CALL (R177). Call through the return stack. -/
  | call (y : Syl) (target : BitVec 14)
  /-- RET (R177). Return through the return stack. -/
  | ret (y : Syl)
  /-- LOOP_LC0 (R177). Start a hardware loop on LC0. -/
  | loopLc0 (y : Syl) (sa : Fin 32) (lastBundle : BitVec 14)
  /-- LOOP_LC1 (R177). Start a nested hardware loop on LC1. -/
  | loopLc1 (y : Syl) (sa : Fin 32) (lastBundle : BitVec 14)
  /-- WAIT (R181). Stall until all or any of the named event bits are set. -/
  | wait (y : Syl) (sa : Fin 32) (all : Bool)
  /-- WAIT_RESUME (R181). A waiting engine resumes once its event bits are set. -/
  | waitResume (e : Fin 16)
  /-- SETK (R177). Set a coefficient pointer. -/
  | setk (y : Syl) (k1 : Bool) (sa : Fin 32)
  /-- BRK (R193). Debug halt in an open session, taking the device to the safe state, otherwise an exception. -/
  | brk (y : Syl)
  /-- NOP (R177). No operation. -/
  | nop (y : NopSyl)
  /-- DONE (R173). An engine signals completion, releasing its strings and halting until the next entry. -/
  | done (e : Fin 16)
  /-- RELEASE (R185). An engine releases strings or local legs early. -/
  | release (e : Fin 16) (mask : BitVec 7)
  /-- SIGNAL (R181). An engine sets global flags in every engine's event word after its earlier CSM stores complete. -/
  | signal (e : Fin 16) (flags : BitVec 16)
  /-- EVCLR (R182). An engine clears event bits [9:0]. -/
  | evclr (e : Fin 16) (mask : BitVec 32)
  /-- TB2INC (R126). Engine SRC writes TB2's increment, active at the next boundary. -/
  | tb2inc (e : Fin 16) (inc : Word)
  /-- TB2STEP (R126). Engine SRC steps TB2. -/
  | tb2step (e : Fin 16) (step : Word)
  /-- ALLOC_REQUEST (R182). The string engine writes N and DIR to the allocator port; only the first write of the tick counts. -/
  | allocRequest (e : Fin 16) (st : Fin 6) (w : Word)
  /-- COMMIT (R183). An engine commits a staged leg command set to the Weave builder. -/
  | commit (e : Fin 16) (handle : Word) (inReload : Bool)
  /-- COMMIT_COAST (R407). An engine commits a staged coast set for an explicit-edge leg. -/
  | commitCoast (e : Fin 16) (handle : Word) (inReload : Bool)
  /-- XFER_START (R180). A write to a transfer channel's LEN starts a move between CSM and data memory. -/
  | xferStart (e : Fin 16) (ch : Fin 4) (len : Word)
  /-- XFER_DONE (R180). A transfer channel finishes its last beat and sets XDONE. -/
  | xferDone (e : Fin 16) (ch : Fin 4)
  /-- TRACE_WRITE (R194). An engine writes a value to a trace channel. -/
  | traceWrite (e : Fin 16) (ch : Fin 8) (v : Word)
  /-- TRIG (R195). An engine triggers the trace once per arming. -/
  | trig (e : Fin 16)
  /-- NOTCH_SAMPLE (R188). A write to X runs one sample of a notch unit. -/
  | notchSample (e : Fin 16) (u : Fin 4) (x : Word)
  /-- NOTCH_LOAD (R188). LOAD moves the staged coefficients into use at the next sample. -/
  | notchLoad (e : Fin 16) (u : Fin 4)
  /-- NOTCH_CLR (R188). CLR zeroes a notch unit's state. -/
  | notchClr (e : Fin 16) (u : Fin 4)
  /-- FOLLOW_FB_WRITE (R189). A write to FB marks a following-error unit updated for the tick. -/
  | followFbWrite (e : Fin 16) (u : Fin 8) (v : Word)
  /-- TRIPPED_CLEAR (R190). A write of 1 to TRIPPED clears it only while COUNT is 0. -/
  | trippedClear (e : Fin 16) (u : Fin 8)
  /-- CSM_REQUEST_WITHDRAW (R39). A requester that withdraws after grant costs one counted dead cycle. -/
  | csmRequestWithdraw (cycle : Nat) (cycles : List (List (Requester × Nat))) (who : Requester) (requesting : List Requester)
  /-- ARBITER_STARVATION (R41). A request that waits longer than the starvation watch is counted and raises the arbiter source. -/
  | arbiterStarvation (who : Requester) (waited : Nat)
  /-- RESPONSE_RECEIVE (R60). A node Response arrives at a ring end and is checked and stored in the node's CSM slot. -/
  | responseReceive (port : Fin 48) (r : Response) (hdrOk fcsOk : Bool)
  /-- RING_HEARTBEAT_RECEIVE (R68). A Heartbeat from the opposite end arrives and is used for monitoring and failure detection. -/
  | ringHeartbeatReceive (port : Fin 48) (h : Heartbeat) (checkOk : Bool)
  /-- WALE_END_CHECK (R59). A Wale reaching the opposite end is checked, and a failing copy is resent where time permits. -/
  | waleEndCheck (ring : Fin 48) (seq : BitVec 16) (chk : EndCheck) (startNs : Nat) (isResend : Bool)
  /-- PROBE_RETURN (R69). A probe return arrives, completing a delay measurement of the ring. -/
  | probeReturn (ring : Fin 48) (sA rB sB : Int) (rows : List ProbeRow)
  /-- MGMT_REPLY (R65). A node's Management reply arrives and completes the outstanding request. -/
  | mgmtReply (slot : Fin 384) (tag : BitVec 8) (status : Nat) (data : List Byte) (ident : Option NodeIdent) (checkOk : Bool)
  /-- MGMT_TIMEOUT (R65). A Management request unanswered for 4 ticks is resent with its TAG, up to 3 times. -/
  | mgmtTimeout (slot : Fin 384)
  /-- RING_PROBE (R69). Once per second in RUN the device sends a probe pair in place of a ring's Sync. -/
  | ringProbe (p : ProbePair)
  /-- BLOCK_LOCK_ACHIEVED (R46). A receiver declares block lock after 128 valid headers. -/
  | blockLockAchieved (lane : Fin 54)
  /-- BLOCK_LOCK_LOSS (R46). A receiver loses block lock after 24 invalid headers in 256 and counts it. -/
  | blockLockLoss (lane : Fin 54)
  /-- LOS_ASSERT (R47). A port asserts LOS after 1 µs below 65 mV and loses UP. -/
  | losAssert (lane : Fin 54)
  /-- LOS_RELEASE (R47). A port releases LOS after 1 µs at 85 mV or above. -/
  | losRelease (lane : Fin 54)
  /-- RING_BREAK_DECLARE (R75). A break condition lasting 2 ticks is declared, located and raised at L1. `found`: the segment
  that the device finds where no lock flag shows one. -/
  | ringBreakDeclare (ring : Fin 48) (found : Nat)
  /-- BRIDGING_START (R76). At the boundary after a declared break, far-side records are sent from the other end. `relayNs`: how
  long a relayed Response takes over Spar. -/
  | bridgingStart (ring : Fin 48) (relayNs : Nat)
  /-- BRIDGING_END (R78). Bridging ends after 64 consecutive ticks of whole Wales reaching the opposite end. -/
  | bridgingEnd (ring : Fin 48)
  /-- MODULE_POLL (R81). Once per second the device reads each module's diagnostics and flags over I2C. -/
  | modulePoll (port : Fin 48) (acked : Bool) (temp vcc bias txp rxp flags : Nat) (txFault : Bool)
  /-- THRESHOLD_READBACK (R247). Once per second the device reads node thresholds back, a difference counting as an SF2 trigger. -/
  | thresholdReadback (slot : Fin 384) (ovth0 ovth1 : Int)
  /-- BYPASS_FAIL (R215). BYP_FAIL sets when confirmation has not arrived by B(k+2) + BYPT + 2T. -/
  | bypassFail (c : Fin 192)
  /-- COAST_WINDOW_EXPIRY (R252). SF4 acts when a string's coast window elapses: Block CAUSE 0x04 and SAFE. -/
  | coastWindowExpiry (st : Fin 6)
  /-- LOCAL_COAST_WINDOW_EXPIRY (R169). The local legs' coast window elapses: they turn both-off and SF4 acts. -/
  | localCoastWindowExpiry
  /-- TRIP_INPUT (R231). An enabled TRIPi_N low longer than FILT gates all local legs, injects Block CAUSE 0x01 and enters SAFE. -/
  | tripInput (inp : Fin 8) (lowNs : Nat)
  /-- COMPARATOR_ACTIVE (R232). An enabled comparator beyond its threshold for FILT gates masked legs, injects Block CAUSE 0x02 and enters SAFE. -/
  | comparatorActive (c : Fin 8) (value : Int) (heldNs : Nat)
  /-- COMPARATOR_INACTIVE (R232). A comparator becomes inactive after its input returns by the hysteresis for FILT. -/
  | comparatorInactive (c : Fin 8) (value : Int) (heldNs : Nat)
  /-- DRVEN_LOW (R229). A DRVENg low of 50 ns or more gates its three local legs. -/
  | drvenLow (g : Fin 4) (lowNs : Nat)
  /-- DRVEN_TOGGLE (R229). DRVENg rising after at least 1 µs low clears fault bits of legs whose cause is absent. -/
  | drvenToggle (g : Fin 4) (lowNs : Nat)
  /-- LEG_FAULT_INPUT (R228). An LGnFLT_N low of 50 ns with FLT_EN set gates the leg and sets LEGFLT. -/
  | legFaultInput (n : Fin 12) (lowNs : Nat)
  /-- LOCAL_EDGE_EXECUTE (R226). The output stage executes a local edge at its target rounded to 25 ps, under its own interlock. -/
  | localEdgeExecute (n : Fin 12)
  /-- CLOCK_MONITOR (R136). A stopped or deviating internal clock takes the legs to the safe state and triggers SF5. -/
  | clockMonitor (bad : Bool)
  /-- LOCKSTEP_MISMATCH (R254). SC2 and its shadow disagree, triggering SF5. -/
  | lockstepMismatch (mismatch : Bool)
  /-- ECC_UNCORRECTABLE (R15). An uncorrectable SRAM error is re-read once, then reported to the fault collector if it persists. -/
  | eccUncorrectable (w : EccMem × Nat) (rereadClean : Bool)
  /-- CORE_SUPPLY_MONITOR (R254). A core rail more than 5 % from nominal for 1 µs triggers SF5. -/
  | coreSupplyMonitor (bad : Bool)
  /-- COMPARATOR_THRESHOLD_CHECK (R254). A periodic check finds a comparator threshold converter off by more than 1 %, triggering SF5. -/
  | comparatorThresholdCheck (c : Fin 8) (ok : Bool)
  /-- WORKING_COPY_CHECK (R254). The periodic CRC check of the safety set's working copy fails, triggering SF5. -/
  | workingCopyCheck (crc : Nat)
  /-- SPAR_HEARTBEAT (R276). A partner's Spar heartbeat arrives; lane delay and offset are computed and TB0 is steered. -/
  | sparHeartbeat (lane1 : Bool) (h : SparHb) (arrival : BitVec 40) (checkOk : Bool)
  /-- RESPONSE_REQUEST (R60). The partner asks for a Response copy over Spar. -/
  | responseRequest (ring : Fin 48) (pos : Fin 16) (tick : Over (BitVec 32))
  /-- RESPONSE_RELAY (R60). A relayed Response copy arrives over Spar and is used if the own copy failed. -/
  | responseRelay (ring : Fin 48) (pos : Fin 16) (r : Response) (via : SparIn) (unreq : Bool)
  /-- WALE_CHECK_REPORT (R59). The partner reports the far-end check of a Wale, leading to a resend on failure. -/
  | waleCheckReport (ring : Fin 48) (seq : BitVec 16) (epoch : Nat) (pass : Bool) (startNs : Over Nat)
  /-- BRIDGED_PORTION (R76). The partner receives a bridged portion and starts it on its port. -/
  | bridgedPortion (ring : Fin 48) (w : Over Wale)
  /-- BLOCK_NOTICE (R76). A Block notice arrives and the partner injects the Block ordered set on the bridged rings. -/
  | blockNotice (b : Over BlockSet) (rings : BitVec 48)
  /-- MIRROR_FRAME (R288). The STANDBY receives a mirror region or service block and applies it before its next entry. -/
  | mirrorFrame (part : Fin 17) (tick : BitVec 32) (content : Over (List Byte))
  /-- FWD_PREPARE (R31). A forwarded prepare is applied at the named boundary. -/
  | fwdPrepare (fseq : Over (BitVec 32)) (target : BitVec 32)
  /-- FWD_DEBLOCK (R31). A forwarded deblock is applied at the named boundary. -/
  | fwdDeblock (fseq : Over (BitVec 32)) (target : BitVec 32)
  /-- FWD_BLOCK (R31). A forwarded block, including an L4 cluster block, is applied at the named boundary. -/
  | fwdBlock (fseq : Over (BitVec 32)) (target : BitVec 32)
  /-- FWD_SWITCH_OVER (R282). A forwarded switch-over makes the partner ACTIVE at the named boundary. -/
  | fwdSwitchOver (fseq : Over (BitVec 32)) (target : BitVec 32)
  /-- FWD_PAUSE_BEGIN (R354). The partner learns that an activation pause begins. -/
  | fwdPauseBegin (fseq : Over (BitVec 32)) (target : BitVec 32)
  /-- FWD_PAUSE_END (R354). The partner learns that the activation pause has ended. -/
  | fwdPauseEnd (fseq : Over (BitVec 32)) (target : BitVec 32)
  /-- FWD_TB0_STEP (R122). A forwarded TB0 step is applied by both members at the named boundary. -/
  | fwdTb0Step (fseq : Over (BitVec 32)) (target : BitVec 32) (step : Int)
  /-- CFG_FWD_WRITE_ITEMS (R289). Forwarded pair-shared writes are applied by the STANDBY. -/
  | cfgFwdWriteItems (fseq target : BitVec 32) (seg : CfgSeg)
  /-- CFG_FWD_YELM (R289). A forwarded yelm is queued on the STANDBY for its boundary. -/
  | cfgFwdYelm (fseq target : BitVec 32) (seg : CfgSeg)
  /-- CFG_FWD_ENGINE_PACKAGE (R289). A forwarded engine package is taken by the STANDBY. -/
  | cfgFwdEnginePackage (fseq target : BitVec 32) (e : Fin 16) (seg : CfgSeg)
  /-- CFG_FWD_BANK_CONTENTS (R289). Forwarded coefficient-bank contents are written on the STANDBY. -/
  | cfgFwdBankContents (fseq target : BitVec 32) (e : Fin 16) (seg : CfgSeg)
  /-- CFG_FWD_BANK_SWAP (R289). A forwarded bank swap is applied at the named boundary. -/
  | cfgFwdBankSwap (fseq : Over (BitVec 32)) (target : BitVec 32) (e : Fin 16)
  /-- FORWARD_ACK (R277). An acknowledgement of a forward arrives and ends its resending. -/
  | forwardAck (fseq : Over (BitVec 32)) (status : Nat)
  /-- FORWARD_TIMEOUT (R277). A forward not acknowledged within 4 ticks is resent with the same FSEQ. -/
  | forwardTimeout (fseq : BitVec 32)
  /-- ACTIVE_ASSUME (R273). After 64 (A) or 256 (B) ticks without an ACTIVE Heartbeat a member assumes ACTIVE. -/
  | activeAssume
  /-- FAILURE_DECLARE (R278). A STANDBY declares the ACTIVE failed after N ticks of missing heartbeats or a hand-over request. -/
  | failureDeclare
  /-- TAKEOVER (R279). At the next boundary the STANDBY takes role ACTIVE with a new epoch and starts commanding. -/
  | takeover
  /-- ROLE_DEMOTE (R284). An ACTIVE that sees a higher epoch, PARTNER_ACTIVE or an equal-epoch claim becomes STANDBY. -/
  | roleDemote
  /-- PARTNER_ACTIVE_RISE (R284). PARTNER_ACTIVE rises while the device is ACTIVE with the input in use. -/
  | partnerActiveRise
  /-- PAIR_ALIGN_LOSS (R122). An offset over 1 ns for 8 ticks clears PAIR_ALIGN and steps TB0. -/
  | pairAlignLoss
  /-- PAIR_ALIGN_SET (R122). PAIR_ALIGN sets after 64 ticks within ±20 ps. -/
  | pairAlignSet
  /-- PAIR_CHK_MISMATCH (R290). A PAIR_CHK difference for 8 ticks sets PAIR_CFG and raises 0xF4. -/
  | pairChkMismatch
  /-- TIME_MESSAGE (R124). A Ridge time message is stamped, used to steer TB1 and forwarded with its correction. -/
  | timeMessage (way : RidgeIn) (tLdep : BitVec 40) (corr : Int) (leader lgrp hops : Nat) (refFlag trunk : Bool) (arrival : BitVec 40)
  /-- UNSYNC_CLEAR (R125). UNSYNC clears after 64 ticks within 100 ns. -/
  | unsyncClear
  /-- LINK_PROBE_SEND (R124). Once per second a member probes each Ridge link. -/
  | linkProbeSend (link : Fin 4)
  /-- LINK_PROBE_REQUEST (R292). A neighbour receives a link probe request and replies with its stamps. -/
  | linkProbeRequest (way : RidgeIn) (t1 t2 : BitVec 40)
  /-- LINK_PROBE_REPLY (R292). A link probe reply arrives and the link delay is computed. -/
  | linkProbeReply (way : RidgeIn) (t1 t2 t3 t4 : BitVec 40)
  /-- DIGEST_FRAME (R294). A digest frame is stored, forwarded and compared with the leader's. -/
  | digestFrame (fromRge : Bool) (d : Digest) (hops : Nat)
  /-- DUP_DEVID_CLEAR (R298). DUP_DEVID clears after 64 ticks without a duplicate. -/
  | dupDevidClear
  /-- MEMBER_ABSENT (R294). A member whose digest has been absent for 3 ticks counts as absent. -/
  | memberAbsent (devid : Fin 512)
  /-- PROXY_REQUEST (R326). A proxy frame carrying a request is executed with the entry session's roles. -/
  | proxyRequest (way : GroupHop) (target entry : Nat) (stag : BitVec 16) (roles : BitVec 8) (tag : BitVec 16) (p : Pdu) (x : Seal)
  /-- PROXY_REPLY (R301). A proxy reply returns to the entry device and on to its session. -/
  | proxyReply (way : GroupHop) (ends : ProxyEnds) (stag : BitVec 16) (tag : BitVec 16) (r : Reply) (x : Seal)
  /-- PROXY_NOTIFICATION (R301). A proxied notification returns to the entry session. -/
  | proxyNotification (way : GroupHop) (ends : ProxyEnds) (stag : BitVec 16) (r : Note) (x : Seal)
  /-- PROXY_CLOSE (R326). A proxy close ends the proxy session on the target. -/
  | proxyClose (way : GroupHop) (ends : ProxyEnds) (stag : BitVec 16) (x : Seal)
  /-- PROXY_ANSWER_TIMEOUT (R326). No proxied answer within 50 ms makes the entry device reply 0x0F. -/
  | proxyAnswerTimeout (sess : Fin 8) (tag : BitVec 16)
  /-- PROXY_SESSION_TIMEOUT (R326). A proxy session idle for the session timeout ends. -/
  | proxySessionTimeout (sess : Fin 40)
  /-- GROUP_BLOCK_FRAME (R299). A group-wide block request frame moves the members to BLOCKED at the next boundary. -/
  | groupBlockFrame (fromRge : Bool) (f : BlockReqFrame)
  /-- SYSTEM_BLOCK_FRAME (R302). A system-wide block request is relayed across the trunk and into each group. -/
  | systemBlockFrame (link : Fin 4) (f : BlockReqFrame)
  /-- TRUNK_SUMMARY (R302). A gateway receives a group's trunk summary. -/
  | trunkSummary (lane1 : Bool) (grp leader hstate hladder : Nat) (present : List Nat) (lenOk : Bool)
  /-- PREPARE (R28). A prepare request in BLOCKED starts bring-up, measurement and off-state diagnostics. -/
  | prepare (sess : Fin 40)
  /-- PREPARE_COMPLETE (R28). Prepare ends in READY or, with conditions failing, in BLOCKED with the reason set. -/
  | prepareComplete (found : PrepareFound)
  /-- DEBLOCK (R24). A deblock request in READY moves the device to RUN and is forwarded to the STANDBY. -/
  | deblock (sess : Fin 40)
  /-- BLOCK_REQUEST (R23). A block request in READY, RUN or COAST moves the device to BLOCKED. -/
  | blockRequest (sess : Fin 40)
  /-- ACKNOWLEDGE (R270). An acknowledge in SAFE leaves SAFE if no cause is present, otherwise R25 applies. -/
  | acknowledge (sess : Fin 40)
  /-- SLEEP_REQUEST (R23). A sleep request in BLOCKED from the Engineer is accepted. -/
  | sleepRequest (sess : Fin 40)
  /-- SLEEP_ENTRY (R378). At the next boundary the device saves, sleeps the lanes and switches off all but PD0 and PD1. -/
  | sleepEntry
  /-- SAFETY_CONFIRMATION (R257). The Safety Officer writes the check value to 0x4000.02, storing the set and moving to BLOCKED. -/
  | safetyConfirmation (sess : Fin 40) (v : BitVec 32)
  /-- FORCE_BIT_WRITE (R263). A force bit change makes a source's cause present or ends the forced cause. -/
  | forceBitWrite (sess : Fin 40) (cls : Fin 16) (v : BitVec 16)
  /-- FAULT_ACKNOWLEDGE (R268). A write to 0x4204 clears sticky bits whose cause is absent. -/
  | faultAcknowledge (sess : Fin 40) (cls : Fin 16) (v : BitVec 16)
  /-- LADDER_RELEASE (R269). A write to 0x4200.03 releases ladder blocks whose sources no longer include them. -/
  | ladderRelease (sess : Fin 40) (v : BitVec 8)
  /-- TRIP_LATCH_CLEAR (R233). A write of 1 clears trip latches whose input is no longer asserted. -/
  | tripLatchClear (sess : Fin 40) (v : BitVec 8)
  /-- COMPARATOR_LATCH_CLEAR (R233). A write of 1 clears comparator latches whose comparator is inactive. -/
  | comparatorLatchClear (sess : Fin 40) (v : BitVec 8)
  /-- BYPASS_MAP_WRITE (R214). A host write to a string's bypassed-cells map, judged bit by bit. -/
  | bypassMapWrite (sess : Fin 40) (st : Fin 6) (v : BitVec 96)
  /-- LEG_STATUS_CLEAR (R146). An Engineer writes 1 to sticky leg-status bits [7:2] to clear them. -/
  | legStatusClear (sess : Fin 40) (loc : Bool) (slot : Fin 384) (leg : Fin 12) (v : BitVec 16)
  /-- COUNTER_CLEAR (R33). A host write of 0 clears a counter and its overflow flag. -/
  | counterClear (sess : Fin 40) (idx sub : Nat)
  /-- SWITCH_OVER_REQUEST (R282). An Operator requests a planned switch-over on the ACTIVE. -/
  | switchOverRequest (sess : Fin 40)
  /-- GROUP_BLOCK_REQUEST (R299). A write of 1 to 0x5100.06 originates a group-wide block request. -/
  | groupBlockRequest (sess : Fin 40)
  /-- SYSTEM_BLOCK_REQUEST (R299). A write of 2 to 0x5100.06 originates a system-wide block request. -/
  | systemBlockRequest (sess : Fin 40)
  /-- SWAP_REQUEST (R187). A write to SWAP requests a coefficient-bank swap at the next boundary. -/
  | swapRequest (sess : Fin 40) (e : Fin 16)
  /-- INACTIVE_BANK_WRITE (R187). An Engineer writes the inactive coefficient bank, refused while a swap is pending. -/
  | inactiveBankWrite (sess : Fin 40) (e : Fin 16) (offset : Nat) (bytes : List Byte)
  /-- TIME_BASE_STEP (R117). A step of a time base applies at the next boundary under the stepping permissions. -/
  | timeBaseStep (sess : Fin 40) (b : Fin 4) (step : Int)
  /-- TRACE_TRIGGER_COMMAND (R195). The trace command 1 triggers the trace. -/
  | traceTriggerCommand (sess : Fin 40)
  /-- TRACE_REARM (R195). The trace command 2 clears TRIGGERED and STOPPED and continues the buffer. -/
  | traceRearm (sess : Fin 40)
  /-- TRACE_STOP (R195). After the post-trigger ticks the trace writer stops and sets STOPPED. -/
  | traceStop
  /-- GPIO_RISE (R195). A GPIO rising edge serves as a trace trigger source. -/
  | gpioRise (pin : Fin 16)
  /-- RESTORE_PERSISTENT_DEFAULTS (R306). A write to 0x1002.01 in BLOCKED restores persistent defaults except safety entries. -/
  | restorePersistentDefaults (sess : Fin 40)
  /-- CLEAR_KEEP_FIRST (R340). The Security Officer clears the keep-first area in BLOCKED. -/
  | clearKeepFirst (sess : Fin 40)
  /-- OBSERVER_CLEAR_MAX_TEMP (R222). Clear command 1 resets a cell's maximum junction temperature. -/
  | observerClearMaxTemp (sess : Fin 40) (c : Fin 192)
  /-- OBSERVER_CLEAR_RAINFLOW (R222). Clear command 2 resets a cell's rainflow bins and count. -/
  | observerClearRainflow (sess : Fin 40) (c : Fin 192)
  /-- DICT_WRITE (R307). A write to an entry with no behaviour of its own applies as its access code states or is refused. -/
  | dictWrite (sess : Fin 40) (w : WItem)
  /-- READ (R316). A READ returns up to 32 items as they stand at execution. -/
  | read (sess : Fin 8) (tag : BitVec 16) (target : Nat) (items : List RItem)
  /-- DESC_READ (R316). A READ with DESC returns each entry's 40-byte descriptor. -/
  | descRead (sess : Fin 8) (tag : BitVec 16) (target : Nat) (items : List RItem)
  /-- SHADOW_READ (R304). A READ with SHADOW returns the pending shadow value. -/
  | shadowRead (sess : Fin 8) (tag : BitVec 16) (target : Nat) (items : List RItem)
  /-- WRITE (R317). A WRITE executes its items in order, each on its own. -/
  | write (sess : Fin 8) (tag : BitVec 16) (target : Nat) (items : List WItem)
  /-- LOCK (R318). A session takes the cluster lock or a string lock. -/
  | lock (sess : Fin 8) (tag : BitVec 16) (target : Nat) (sc : Scope)
  /-- UNLOCK (R320). A session releases a scope, discarding an open yelm that uses it. -/
  | unlock (sess : Fin 8) (tag : BitVec 16) (target : Nat) (sc : Scope)
  /-- YELM_OPEN (R321). A session opens a yelm on a scope it holds. -/
  | yelmOpen (sess : Fin 8) (tag : BitVec 16) (target : Nat) (sc : Scope)
  /-- YELM_ADD (R321). Writes are checked and added to the open yelm. -/
  | yelmAdd (sess : Fin 8) (tag : BitVec 16) (target : Nat) (items : List WItem)
  /-- YELM_COMMIT (R322). The yelm is checked against the state and target tick and queued or refused. -/
  | yelmCommit (sess : Fin 8) (tag : BitVec 16) (target : Nat) (tick : BitVec 32)
  /-- SUBSCRIBE_OPEN (R325). A session opens a periodic subscription. -/
  | subscribeOpen (sess : Fin 8) (tag : BitVec 16) (target : Nat) (sub period : Nat) (items : List RItem)
  /-- SUBSCRIBE_CLOSE (R325). A session closes a subscription. -/
  | subscribeClose (sess : Fin 8) (tag : BitVec 16) (target : Nat) (sub : Nat)
  /-- SUBSCRIPTION_NOTIFY (R325). When a subscription's period elapses the device sends the boundary's values, or skips. -/
  | subscriptionNotify (sess : Fin 40) (sub : Fin 16) (gathered : Bool)
  /-- HEARTBEAT (R314). A HEARTBEAT PDU keeps the session alive and returns state, role, tick and TB3. -/
  | heartbeat (sess : Fin 8) (tag : BitVec 16) (target : Nat)
  /-- FILE_OPEN (R327). A session opens a FILE transfer. -/
  | fileOpen (sess : Fin 8) (tag : BitVec 16) (file : FileRef) (toDevice : Bool) (size : Nat)
  /-- FILE_DATA (R327). A segment of a FILE transfer is stored or returned. -/
  | fileData (sess : Fin 8) (tag : BitVec 16) (seg : Nat) (bytes : List Byte) (file : FileRef)
  /-- FILE_CLOSE (R327). CLOSE checks the file CRC and completes the transfer. -/
  | fileClose (sess : Fin 8) (tag : BitVec 16) (target fileId : Nat) (crc : BitVec 32)
  /-- FILE_ABORT (R327). A host aborts a FILE transfer. -/
  | fileAbort (sess : Fin 8) (head : FileHead)
  /-- DTLS_HANDSHAKE (R311). A client handshake is authenticated and opens a session with its certificate roles, or is refused. -/
  | dtlsHandshake (via : HostVia) (addr port : Nat) (roles : BitVec 8) (serial : Nat) (anchorProvisioning : Bool) (chain : ClientChain)
    (suiteOk validNow fullHandshake : Bool)
  /-- SESSION_TIMEOUT (R314). A session idle for the session timeout ends, releasing locks and discarding its open yelm. -/
  | sessionTimeout (sess : Fin 8)
  /-- SESSION_CLOSE (R314). The peer closes a session, with the same consequences as its timeout. -/
  | sessionClose (sess : Fin 8)
  /-- HSR_FORWARD (R308). In HSR mode a ring frame not for the device is forwarded to the other port. -/
  | hsrForward (fromE0 forDevice : Bool) (frame : RedFrame)
  /-- PTP_SYNC_RECEIVE (R128). A PTP Sync is stamped on receipt and used by the servo. -/
  | ptpSyncReceive (onE1 : Bool) (domain : Nat) (raw : PtpStamp) (originTs corr : Int) (twoStep : Bool)
  /-- PDELAY_REQ_RECEIVE (R129). A Pdelay_Req is answered in every state, with one-step insertion if configured. -/
  | pdelayReqReceive (onE1 : Bool) (rx tx : PtpStamp)
  /-- ANNOUNCE_TIMEOUT (R130). No Announce within the receipt timeout leaves TB3 running on its last increment. -/
  | announceTimeout
  /-- GRANDMASTER_CHANGE (R130). A new grandmaster makes the servo measure for 16 Syncs, then slew or step TB3. -/
  | grandmasterChange (gmid : Nat)
  /-- TB_EXTEND (R120). SC0 reads each time base at least once per second and updates its epoch word. -/
  | tbExtend
  /-- COMPARE_MATCH (R142). A compare channel matches, starts its pulse or event, and advances a repeating target. -/
  | compareMatch (c : Fin 8)
  /-- REFERENCE_INVALID (R132). The active reference becomes invalid and the ADPLL moves to the next valid one or holdover. -/
  | referenceInvalid (code : Fin 5)
  /-- REFERENCE_VALID (R132). A reference becomes valid again after 100 ms. -/
  | referenceValid (code : Fin 5)
  /-- REVERTIVE_SWITCH (R132). With revertive selection, a higher-priority reference takes over after 10 s. -/
  | revertiveSwitch
  /-- ADPLL_LOCK (R132). The ADPLL sets LOCK after 10 ms within ±1 ns and narrows its loop. -/
  | adpllLock
  /-- ADPLL_HOLDOVER (R133). With no valid reference the ADPLL holds its mean tuning word. -/
  | adpllHoldover
  /-- ADPLL_LOCK_LOSS (R134). The ADPLL loses lock with a valid reference and holds its tuning word pending a move to the fall-back. -/
  | adpllLockLoss
  /-- FALLBACK_RETURN (R135). Clocking returns to the ADPLL at a boundary outside RUN and COAST after 10 s of LOCK. -/
  | fallbackReturn
  /-- OUTPUT_GATE_CLOSE (R141). A timing output's gate closes at the end of its high phase when its source loses lock. -/
  | outputGateClose (bankB : Bool) (m : Fin 8)
  /-- OUTPUT_GATE_OPEN (R141). A timing output's gate opens after 100 ms of lock or at a move to the fall-back. -/
  | outputGateOpen (bankB : Bool) (m : Fin 8)
  /-- ADC_ROUND (R240). At the end of a round a pair compares its cross-channel results. The conversions of the round by position, of
  16 bits each (R238), `none` where none was made; the spare's of the cross channel. -/
  | adcRound (k : Fin 4) (even odd : List (Option Int)) (spare : Option Int)
  /-- ADC_CALIBRATION (R242). Every 100 ms the next slice is calibrated with the spare standing in. -/
  | adcCalibration (finish completed : Bool) (offset gainPpm : Int)
  /-- OBSERVER_UPDATE (R221). A 1 s observer window completes, updating estimates and health flags. -/
  | observerUpdate (c : Fin 192) (ticksUsed : Nat) (cap esr von conf : Nat) (tjMean : Int) (capLow esrHigh vonHigh : Bool) (halfCycles : List (Fin 64))
  /-- RAINFLOW_SAVE (R222). Rainflow bins and counts are saved every hour and at entry to BLOCKED. -/
  | rainflowSave
  /-- AON_SAVE (R328). PD0 saves the power-cycle count and operating time to MRAM every 60 s. -/
  | aonSave
  /-- REPEAT_FLUSH (R335). The SRAM copy of a repeated record is written to MRAM once per second. -/
  | repeatFlush
  /-- SCRUB_PASS (R342). A full SRAM scrub pass completes, recording an overrun if late. -/
  | scrubPass (ms : Nat) (corrected : Nat) (sf4Memory : Bool)
  /-- MRAM_REFRESH (R342). A full MRAM refresh pass runs at its temperature-dependent interval. -/
  | mramRefresh (minutes : Nat)
  /-- EYE_MONITOR (R343). Every 100 ms one lane's eye is measured, and a narrow eye raises the lane source. -/
  | eyeMonitor (lane : Fin 56) (h : EyeRead) (v : Nat)
  /-- TEMP_READ (R386). Die sensors are read every 1 ms and compared with the thermal thresholds. -/
  | tempRead (temps : List Int)
  /-- THERMAL_WARN (R386). Three readings at or above the warn threshold set WARN and raise 0xE6. -/
  | thermalWarn
  /-- THERMAL_DERATE (R386). Three readings at or above the derate threshold stop background work. -/
  | thermalDerate
  /-- THERMAL_RELEASE (R386). Three readings below the release threshold clear every thermal level. -/
  | thermalRelease
  /-- THERMAL_SHUTDOWN (R388). The shutdown threshold or a reading above 124.5 °C hands over or blocks, enters SAFE and powers down PD2-PD9. -/
  | thermalShutdown
  /-- THERMAL_RESTART (R388). After TA0 stays below release for 10 s, PD0 starts a cold boot. -/
  | thermalRestart (st : Straps)
  /-- MRAM_UNLOCK (R389). After 1 s within -23 to +123 °C MRAM writes are permitted again. -/
  | mramUnlock
  /-- NTC_READ (R377). Every 100 ms NTC_BK is read and backup charging enabled or withheld. -/
  | ntcRead (temp : Int)
  /-- POWER_ON (R369). 1 ms after the last rail reaches its threshold the internal reset ends and cold boot starts. -/
  | powerOn (st : Straps)
  /-- RAIL_UNDERVOLTAGE (R369). A rail below its reset threshold for 1 µs asserts the internal reset. -/
  | railUndervoltage (rail : Fin 11) (mv : Nat)
  /-- RESET_N_LOW (R382). RESET_N low gates every local leg within 100 ns. -/
  | resetNLow
  /-- RESET_N_RISE (R382). RESET_N rises, starting a cold boot after a low of 10 µs or more, or counting a short low. -/
  | resetNRise (lowUs : Nat) (st : Straps)
  /-- WATCHDOG_SERVICE (R384). SC0 services the watchdog after every supervised core has marked itself alive. -/
  | watchdogService (alive0 alive1 alive3 : Bool)
  /-- WATCHDOG_EXPIRY (R385). A watchdog expiry asserts the internal reset for 1 ms. -/
  | watchdogExpiry
  /-- AON_SWITCH (R371). PD0 moves to VAON_B within 2 µs of VAON_A falling. -/
  | aonSwitch (vaonBmv : Nat)
  /-- AON_RETURN (R371). PD0 returns to VAON_A after 100 ms at 3.0 V or above. -/
  | aonReturn
  /-- PGOOD_MAIN_FALL (R373). A qualified PGOOD_MAIN fall switches the board rails to backup and starts the hold-up time. -/
  | pgoodMainFall (lowNs : Nat)
  /-- SUPPLY_LOSS (R375). A loss of supply gates legs, sends Block CAUSE 0x08 and enters SAFE. -/
  | supplyLoss
  /-- HOLDUP_EXPIRY (R374). When the hold-up time ends on backup the device hands over or blocks and enters BLOCKED. -/
  | holdupExpiry
  /-- MAIN_RETURN (R376). After the return qualification time the device switches back to main supply. -/
  | mainReturn (highMs : Nat)
  /-- WAKE_PIN (R379). WAKE high for 1 ms ends SLEEP with a cold boot. -/
  | wakePin (highUs : Nat) (st : Straps)
  /-- WAKE_TIMER (R379). The wake timer expires and ends SLEEP with a cold boot. -/
  | wakeTimer (st : Straps)
  /-- BIST_COMPLETE (R254). BIST ends; a failure takes the device from BOOT to SAFE. -/
  | bistComplete (ok : Bool)
  /-- SLATH_IMAGE_START (R363). The Slath ROM verifies and decrypts the named slot's image, or tries the other slot. -/
  | slathImageStart (slotA slotB : SlotRead) (rec1Ok rec2Ok : Bool)
  /-- BOOT_END (R381). At the end of BOOT B(0) is set, the boot cause recorded and the device enters COMMISSION or BLOCKED. -/
  | bootEnd (boottag : BitVec 16) (badRecs : List (BitVec 32)) (checks : BootChecks) (tb0 : BitVec 40)
  /-- JTAG_IMAGE_LOAD (R364). With no startable slot and BOOTSEL high, the ROM accepts an image over JTAG into slot A. -/
  | jtagImageLoad (hdr : ImgHdr) (payload : List Byte) (cert : Option DebugCert)
  /-- ACTIVATE (R351). A write to 0x1410.01 starts activating the STAGED slot, or is refused. -/
  | activate (sess : Fin 40)
  /-- LOAD_COMPLETE (R352). SC3 finishes decrypting and checking the staged image, or marks it INVALID. -/
  | loadComplete (ok : Bool)
  /-- ACTIVATION_PAUSE_BEGIN (R353). At the first boundary after loading, the firmware domains warm-start and Wales stop. -/
  | activationPauseBegin
  /-- RUNTIME_RESTART (R354). At B(r) the new runtime takes the state and role in force and engines re-enter. -/
  | runtimeRestart (started migrated : Bool)
  /-- HEALTH_CONFIRM (R358). A host write of 1 to 0x1410.03 confirms the image while ALL_OK is set. -/
  | healthConfirm (sess : Fin 40)
  /-- HEALTH_AUTO_CONFIRM (R358). The runtime confirms on its own once ALL_OK sets within the window. -/
  | healthAutoConfirm (found : HealthIn)
  /-- CONFIRM_WINDOW_EXPIRY (R361). The confirm window expires without confirmation and the device falls back. -/
  | confirmWindowExpiry
  /-- LIFECYCLE_DEPLOY (R365). The Security Officer moves the lifecycle from Provisioned to Deployed. -/
  | lifecycleDeploy (sess : Fin 40)
  /-- LIFECYCLE_RETURN (R365). The Security Officer moves the lifecycle to Returned, erasing keys. -/
  | lifecycleReturn (sess : Fin 40)
  /-- DEBUG_CERTIFICATE (R366). A debug certificate written to 0x1430.01 opens a debug session if valid. -/
  | debugCertificate (sess : Fin 40) (cert : DebugCert)
  /-- JTAG_DEBUG_OPEN (R366). A debug session opens over JTAG, on a certificate where the lifecycle requires one. -/
  | jtagDebugOpen (cert : Option DebugCert)
  /-- NODE_POWER_UP (R84). A node powers up in N-OFF, or in N-BYPASS if all its bypasses are closed. -/
  | nodePowerUp (n : Fin 768) (ident : NodeIdent) (closed : BitVec 2)
  /-- NODE_SYNC_RECEIVE (R90). A node takes its TB0 from a valid Sync and stamps probes. -/
  | nodeSyncReceive (n : Fin 768) (fromB : Bool) (f : SyncFrame) (localTime : BitVec 40) (fwd : Nat) (fcsOk : Bool)
  /-- NODE_TSRC_SWITCH (R89). After 4 ticks without a Sync from its source end a node switches TSRC. -/
  | nodeTsrcSwitch (n : Fin 768)
  /-- NODE_SYNC_LOSS (R90). After 10 ms without a valid Sync a node clears TB0_LOCK and blocks. -/
  | nodeSyncLoss (n : Fin 768)
  /-- NODE_WALE_HEADER (R94). A node accepts a Wale header, raising EPOCH_SEEN and taking its NEN bit. -/
  | nodeWaleHeader (n : Fin 768) (ring : Nat) (h : WaleHdr)
  /-- NODE_REGULAR_RECORD (R95). A node accepts its regular record for the next tick and the sender becomes mandate holder. -/
  | nodeRegularRecord (n : Fin 768) (h : WaleHdr) (r : NodeRec) (arrival : BitVec 40)
  /-- NODE_SUPPLEMENTARY_RECORD (R98). A node in N-RUN accepts and merges a supplementary record, or discards it whole. -/
  | nodeSupplementaryRecord (n : Fin 768) (h : WaleHdr) (r : NodeRec) (arrival : BitVec 40)
  /-- NODE_BYPASS_COMMAND (R111). A bypass command holds the cells' legs off and energises the actuators at the target boundary. -/
  | nodeBypassCommand (n : Fin 768)
  /-- NODE_OSD_COMMAND (R112). An off-state test command starts the two-phase test of the named legs. -/
  | nodeOsdCommand (n : Fin 768)
  /-- NODE_OSD_COMPLETE (R112). The off-state test ends and its results are reported with OSD_VALID. -/
  | nodeOsdComplete (n : Fin 768) (upP dnP upM dnM : List Int)
  /-- NODE_BYPASS_CONFIRM (R111). The bypass actuator confirms within BYPT and the confirmed bit sets. -/
  | nodeBypassConfirm (n : Fin 768) (cell : Fin 2)
  /-- NODE_EDGE_EXECUTE (R100). A node executes an edge at its target under its own interlock. -/
  | nodeEdgeExecute (n : Fin 768) (leg : Fin 8) (swt : Option Nat)
  /-- NODE_COAST_START (R106). At a boundary with no accepted regular record a node begins coasting its stored pattern. -/
  | nodeCoastStart (n : Fin 768)
  /-- NODE_COAST_ENTRY (R106). A coasting node executes a pattern entry at its time. -/
  | nodeCoastEntry (n : Fin 768) (leg : Fin 8)
  /-- NODE_COAST_WINDOW_EXPIRY (R107). At t_c0 + COASTWIN a coasting node turns all legs off and enters N-BLOCK. -/
  | nodeCoastWindowExpiry (n : Fin 768)
  /-- NODE_COAST_PATTERN (R105). A node stores a valid Coast-pattern frame from the mandate holder. -/
  | nodeCoastPattern (n : Fin 768) (devid : Nat) (fromB : Bool) (p : CoastPat) (fcsOk : Bool)
  /-- NODE_BLOCK_SET (R108). A valid in-scope Block ordered set turns every node leg off within 300 ns. -/
  | nodeBlockSet (at_ : NodePort) (b : BlockSet)
  /-- NODE_DRIVER_FAULT (R109). A gate-driver fault puts the leg in high impedance and sets LEGFLT. -/
  | nodeDriverFault (n : Fin 768) (leg : Fin 8) (bsuv present : Bool)
  /-- NODE_OVERVOLTAGE (R110). A capacitor voltage above OVTH for 200 ns sets FLTCAUSE and the node enters N-FAULT. -/
  | nodeOvervoltage (n : Fin 768) (second : Bool) (v : Int) (heldNs : Nat)
  /-- NODE_FAULT_CAUSE (R84). A node supply, self-test or watchdog fault sets FLTCAUSE and enters N-FAULT. -/
  | nodeFaultCause (n : Fin 768) (bit : Fin 3)
  /-- NODE_MGMT_READ (R87). A node serves a Management read to any device. -/
  | nodeMgmtRead (n : Fin 768) (fromB : Bool) (src : MgmtFrom) (addr count : Nat)
  /-- NODE_MGMT_WRITE (R87). A node executes a Management write from the mandate holder in a permitting state. -/
  | nodeMgmtWrite (n : Fin 768) (fromB : Bool) (devid : Nat) (tag : BitVec 8) (addr : Nat) (data : List Byte)
  /-- NODE_IDENTITY_READ (R65). A node returns its identity block. -/
  | nodeIdentityRead (n : Fin 768) (fromB : Bool) (src : MgmtFrom)
  /-- NODE_MGMT_RESERVED_OP (R65). A node answers a reserved OP with STATUS 0x05 and executes nothing. -/
  | nodeMgmtReservedOp (n : Fin 768) (fromB : Bool) (src : MgmtFrom) (op : Nat)
  /-- NODE_SRST (R84). A write of SRST resets the node to N-OFF, refused in N-RUN and N-COAST. -/
  | nodeSrst (n : Fin 768) (fromB : Bool) (devid : Nat) (tag : BitVec 8)
  /-- NODE_CFG_DONE (R84). A write of CFG_DONE completes configuration, or with 0 returns the node to N-OFF. -/
  | nodeCfgDone (n : Fin 768) (fromB : Bool) (devid : Nat) (tag : BitVec 8) (v : Bool)
  /-- NODE_MGMT_REPLY_SEND (R54). A node sends a waiting Management reply once the Sync has passed, if it can end by t_dl. -/
  | nodeMgmtReplySend (n : Fin 768) (endsByDeadline : Bool)
  /-- CDR_LOCK_LOSS (R47). A port's CDR loses lock, setting LOL so that the port loses UP. -/
  | cdrLockLoss (lane : Fin 54)
  /-- CDR_LOCK_ACHIEVED (R47). A waking or relocking receiver reaches CDR lock, clearing LOL and letting block lock begin. -/
  | cdrLockAchieved (lane : Fin 54)
  /-- NODE_FAULT_CAUSE_CLEAR (R110). A self-clearing node fault cause (OV0, OV1, SUPPLY) clears when its measurement returns in range, allowing FLTCAUSE to reach 0. -/
  | nodeFaultCauseClear (n : Fin 768) (bit : Fin 5) (v : Int)
  /-- BLOCK_ARRIVAL_AT_RING_END (R68). A Block ordered set reaches the opposite ring end and is used for monitoring and for the prepare-time Block path test. -/
  | blockArrivalAtRingEnd (port : Fin 48) (b : BlockSet)
  /-- FALLBACK_PLL_LOCK (R134). The fall-back PLL achieves lock on REFIN or REFIN2. -/
  | fallbackPllLock
  /-- FALLBACK_PLL_LOCK_LOSS (R134). The fall-back PLL loses lock, clearing PLL_LOCK when it provides internal clocking and closing gates of outputs it sources. -/
  | fallbackPllLockLoss
  /-- PTP_ANNOUNCE_RECEIVE (R130). A PTP Announce message is received, feeding the BMCA and restarting the receipt timeout. -/
  | ptpAnnounceReceive (onE1 : Bool) (domain gmid : Nat) (priority : Nat × Nat) (quality : ClockQuality)
  /-- PTP_FOLLOW_UP_RECEIVE (R129). A Follow_Up carrying the precise stamp of a two-step Sync is received and used by the servo. -/
  | ptpFollowUpReceive (onE1 : Bool) (domain : Nat) (preciseTs corr : Int)
  /-- PDELAY_RESP_RECEIVE (R128). A Pdelay_Resp to the device's own Pdelay_Req is received and stamped, giving the mean link delay. -/
  | pdelayRespReceive (onE1 : Bool) (t2 t3 t4 : Int) (t4Tb0 : BitVec 40)
  /-- PTP_MESSAGE_INTERVAL (R127). Each 1 s interval the device sends its Pdelay_Req, and as master its Sync and Announce. -/
  | ptpMessageInterval
  /-- PRP_SUPERVISION_SEND (R308). Every 2 s the device sends a PRP supervision frame. -/
  | prpSupervisionSend
  /-- TRIP_INPUT_RELEASE (R233). An asserted TRIPi_N returns high, so its filtered level clears and its latch becomes clearable. -/
  | tripInputRelease (inp : Fin 8)
  /-- WATCHDOG_RESET_END (R385). The 1 ms internal reset asserted by a watchdog expiry ends and the cold boot starts. -/
  | watchdogResetEnd (st : Straps)
  /-- RSTOUT_N_RELEASE (R370). RSTOUT_N goes high 10 ms after the internal reset ends. -/
  | rstoutNRelease
  /-- RAIL_VOLTAGE_REFRESH (R389). Every 10 ms the rail voltages are refreshed, and a non-core rail outside ±5 % sets RAIL_WARN and writes a record. -/
  | railVoltageRefresh (mv : List Nat)
  deriving DecidableEq, Repr

end Sys2Proof
end

