-- ==== Sys2Proof/Config.lean ====
section
/-! DEFINITION. What an implementation fixes and the manual leaves open: constants without a body. Nothing can be
proved of their values, so a claim about them holds for every value. Each is applied to the model's counter of free
values or to the operands it depends on. -/

namespace Sys2Proof.Config

/-- A free 32-bit value: the cycle count an engine reads (timing), a register the manual leaves undefined. -/
opaque freeWord : Nat → Word

/-- A free natural number: a measured or computed value for which the manual states no result. -/
opaque freeNat : Nat → Nat

/-- The CODE field of an event of a given origin and kind (Table EV-1): the manual gives no code values. -/
opaque eventCode : Nat → Nat → BitVec 16

/-- The DATA field of an event (Table EV-1), "layout fixed by origin and code": the manual gives no layouts. -/
opaque eventData : Nat → Nat → Nat → BitVec 160

/-- A binary32 value for which the manual gives a formula but no rounding: the code of numerator / denominator. -/
opaque floatOfRatio : Int → Nat → Nat

/-- Does a certificate in DER parse, with an ECDSA P-384 key (Table FW-11)? The outcome for given bytes is outside the
manual. -/
opaque certParses : Nat → Bool

/-- Does a device certificate match the device identity key (R365)? The outcome for given bytes is outside the manual. -/
opaque certMatches : Nat → Bool

/-- Does a signature over given bytes verify? Cryptography is outside the model. -/
opaque sigVerifies : Nat → Bool

/-- Does the signature of a program package's file verify under the program key, given as a number (Table CE-19)? -/
opaque packageSigOk : Nat → List (BitVec 8) → Bool

/-- SHA-384 of bytes (R349, R363): cryptography is outside the model. -/
opaque sha384 : List (BitVec 8) → Nat

/-- The AES-256-GCM tag of an image's payload under the image decryption key: of the IV, bytes 0 to 43 of its header as a number, and the
payload (Table FW-2). -/
opaque gcmTag : Nat → Nat → List (BitVec 8) → Nat

/-- Does the signature of an image header, its 512 bytes as a number, verify against root key A (0) or B (1) (Table FW-3)? -/
opaque imageSigOk : Nat → Nat → Bool

/-- The values of the safety parameter set after a migration that changes them (FLAGS[0] SMIG): which values an image gives is left to it.
By format version, entry and old value. -/
opaque migrated : Nat → Nat → Nat → Nat

/-- The device's own MAC address. -/
opaque ownMac : Nat

/-- The speed that the link partner asks of an SGMII port (Table TM-8): 0 for 1 Gb/s, 1 for 100 Mb/s, 2 for 10 Mb/s, by its value
modulo 3. -/
opaque sgmiiSpeed : Bool → Nat

/-- The phase in a tick of a bank A output whose divider does not restart at the boundary (R138), by output and tick: the manual leaves
it open. -/
opaque outPhase : Nat → Nat → Nat

/-- The link and duplex bits of E0 and E1 (0x1101.01, 0x1101.02), by port and operating time, modulo 4: the link partner and the PHY fix
them. -/
opaque ethLink : Bool → Nat → Nat

/-- The bytes of an exported variable of type OCTETS or STRING, by index and subindex (Table CE-19): the package format gives it no
length. -/
opaque exportSize : Nat → Nat → Nat

/-- The bytes that such a variable holds before it is written, as a number, from its default field and its size: the manual gives no
layout. -/
opaque exportDefault : Nat → Nat → Nat

/-- A conversion corrected by the offset and gain of its slice's last calibration (R238): the manual gives no formula. -/
opaque adcCorrect : Int → Int → Int → Int

/-- The device's own PTP clock identity. -/
opaque clockIdentity : Nat

end Sys2Proof.Config
end

