-- ==== Sys2Proof/Machine/Entries.lean ====
section
/-! DEFINITION. The object dictionary: one row per entry table line of the manual (Table OD-5 is its map). -/

namespace Sys2Proof.Machine

/-- Entry types, Table OD-1. -/
inductive ETy where
  | bool | u8 | u16 | u32 | u64 | i16 | i32 | q15 | q31 | f32 | octets | str
  deriving DecidableEq, Repr

/-- Access codes, Table OD-2. -/
inductive EAcc where
  | ro | rw | rwb | wo | rws
  deriving DecidableEq, Repr

/-- One line of an entry table: `cnt` indices from `base`, subindices `lo` to `hi`, type and size in bytes, access,
range, default, whether writes are accepted in COMMISSION and BLOCKED only, the roles that may write (Table OD-3
bits), the persistence class (Table OD-4) and whether the entry is a counter of R33. -/
structure EntryRow where
  base : Nat
  cnt : Nat
  lo : Nat
  hi : Nat
  ty : ETy
  size : Nat
  acc : EAcc
  mn : Int
  mx : Int
  dflt : Nat
  cfgOnly : Bool
  roles : Nat
  pers : Nat
  ctr : Bool
  deriving DecidableEq, Repr

/-- Entry rows of indices 0x1000 to 0x10FF. -/
def entries10 : List EntryRow := [
  ⟨0x1000, 1, 1, 1, .str, 16, .ro, 0, 0, 0x4B6F6C7269, false, 0, 0, false⟩, -- Vendor name
  ⟨0x1000, 1, 2, 2, .str, 16, .ro, 0, 0, 0x4155542D33383430, false, 0, 0, false⟩, -- Part
  ⟨0x1000, 1, 3, 3, .u8, 1, .ro, 0, 1, 0x0, false, 0, 0, false⟩, -- Grade: 0 IA, 1 HA
  ⟨0x1000, 1, 4, 4, .u8, 1, .ro, 0, 255, 0xB1, false, 0, 0, false⟩, -- Stepping, 0xB1 for B1
  ⟨0x1000, 1, 5, 5, .u64, 8, .ro, 0, 18446744073709551615, 0x0, false, 0, 0, false⟩, -- Serial number
  ⟨0x1000, 1, 6, 6, .u16, 2, .ro, 0, 65535, 0x0, false, 0, 0, false⟩, -- Straps: [9] BOOTSEL; [8:0] DEVID; PAIRSEL in [10], 0 = A
  ⟨0x1000, 1, 7, 7, .u8, 1, .ro, 0, 3, 0x0, false, 0, 0, false⟩, -- Lifecycle: 0 Blank, 1 Provisioned, 2 Deployed, 3 Returned
  ⟨0x1000, 1, 8, 8, .u32, 4, .ro, 0, 4294967295, 0x0, false, 0, 0, false⟩, -- Running image version: major, minor, patch, build
  ⟨0x1000, 1, 9, 9, .u16, 2, .ro, 0, 65535, 0x0, false, 0, 0, false⟩, -- Compatibility class of the running image
  ⟨0x1001, 1, 1, 1, .u8, 1, .ro, 0, 255, 0x1, false, 0, 0, false⟩, -- Device state (Table CM-8)
  ⟨0x1001, 1, 2, 2, .u8, 1, .rw, 0, 255, 0x0, false, 14, 0, false⟩, -- Requested state (Table CM-9)
  ⟨0x1001, 1, 3, 3, .u8, 1, .ro, 0, 255, 0x0, false, 0, 0, false⟩, -- Redundancy role (Table CM-13)
  ⟨0x1001, 1, 4, 4, .u8, 1, .ro, 0, 255, 0x0, false, 0, 0, false⟩, -- Transition status (Table CM-12)
  ⟨0x1001, 1, 5, 5, .u16, 2, .ro, 0, 65535, 0x40C, false, 0, 0, false⟩, -- READY conditions (Table CM-11)
  ⟨0x1002, 1, 1, 1, .u8, 1, .wo, 1, 1, 0x0, false, 4, 0, false⟩ -- Restore persistent defaults: write 1 (Engineer, BLOCKED only; safety entries unchanged)
  ]

/-- Entry rows of indices 0x1100 to 0x11FF. -/
def entries11 : List EntryRow := [
  ⟨0x1100, 1, 1, 1, .u8, 1, .rw, 0, 2, 0x1, true, 4, 1, false⟩, -- Ethernet mode, Table OD-7
  ⟨0x1100, 1, 2, 2, .u8, 1, .rw, 0, 1, 0x0, true, 4, 1, false⟩, -- Lane mode of E0 and E1: 0 1000BASE-X, 1 SGMII
  ⟨0x1100, 1, 3, 3, .u32, 4, .rw, 0, 4294967295, 0x0, true, 4, 1, false⟩, -- IPv4 address; 0.0.0.0 = IPv4 off
  ⟨0x1100, 1, 4, 4, .u8, 1, .rw, 8, 30, 0x18, true, 4, 1, false⟩, -- IPv4 prefix length
  ⟨0x1100, 1, 5, 5, .u32, 4, .rw, 0, 4294967295, 0x0, true, 4, 1, false⟩, -- IPv4 gateway
  ⟨0x1100, 1, 6, 6, .octets, 16, .rw, 0, 0, 0x0, true, 4, 1, false⟩, -- IPv6 address; all zero = IPv6 off
  ⟨0x1100, 1, 7, 7, .u8, 1, .rw, 16, 128, 0x40, true, 4, 1, false⟩, -- IPv6 prefix length
  ⟨0x1100, 1, 8, 8, .u16, 2, .rw, 1024, 65535, 0x7A0A, true, 4, 1, false⟩, -- ZOA UDP port
  ⟨0x1100, 1, 9, 9, .u16, 2, .rw, 0, 65535, 0x0, true, 4, 1, false⟩, -- VLAN: [15:13] priority; [12] tagged; [11:0] VLAN ID
  ⟨0x1100, 1, 10, 10, .bool, 1, .rw, 0, 1, 0x0, true, 4, 1, false⟩, -- ES port enable
  ⟨0x1100, 1, 11, 11, .u32, 4, .rw, 0, 4294967295, 0x0, true, 4, 1, false⟩, -- ES IPv4 address
  ⟨0x1101, 1, 1, 1, .u8, 1, .ro, 0, 255, 0x0, false, 0, 0, false⟩, -- E0, E1 status: [2] link; [1] full duplex; [0] PRP or HSR supervision seen
  ⟨0x1101, 1, 2, 2, .u8, 1, .ro, 0, 255, 0x0, false, 0, 0, false⟩, -- E0, E1 status: [2] link; [1] full duplex; [0] PRP or HSR supervision seen
  ⟨0x1101, 1, 3, 6, .u32, 4, .rw, 0, 4294967295, 0x0, false, 4, 0, true⟩, -- PRP/HSR: duplicates discarded; frames received on E0 only; on E1 only; wrong LAN identifie
  ⟨0x1110, 1, 1, 1, .u8, 1, .ro, 0, 255, 0x8, false, 0, 0, false⟩, -- Maximum sessions
  ⟨0x1110, 1, 2, 2, .u16, 2, .rw, 1000, 60000, 0xBB8, false, 4, 0, false⟩, -- Session timeout, ms
  ⟨0x1110, 1, 3, 3, .u8, 1, .ro, 0, 8, 0x0, false, 0, 0, false⟩, -- Sessions open
  ⟨0x1110, 1, 4, 4, .u32, 4, .rw, 0, 4294967295, 0x0, false, 4, 0, true⟩, -- Handshakes refused
  ⟨0x1110, 1, 5, 5, .u32, 4, .rw, 0, 4294967295, 0x0, false, 4, 0, true⟩, -- Sessions ended by timeout
  ⟨0x1111, 8, 1, 1, .u8, 1, .ro, 0, 1, 0x0, false, 0, 0, false⟩, -- Session i = 0–7: state, 0 free, 1 open
  ⟨0x1111, 8, 2, 2, .octets, 16, .ro, 0, 0, 0x0, false, 0, 0, false⟩, -- Session i: peer address, IPv6 or IPv4-mapped
  ⟨0x1111, 8, 3, 3, .u16, 2, .ro, 0, 65535, 0x0, false, 0, 0, false⟩, -- Session i: peer UDP port
  ⟨0x1111, 8, 4, 4, .u8, 1, .ro, 0, 255, 0x0, false, 0, 0, false⟩, -- Session i: roles, Table OD-3 bits
  ⟨0x1111, 8, 5, 5, .u8, 1, .ro, 0, 255, 0x0, false, 0, 0, false⟩, -- Session i: locks held, [7] cluster, [5:0] strings
  ⟨0x1111, 8, 6, 6, .u32, 4, .ro, 0, 60000, 0x0, false, 0, 0, false⟩, -- Session i: idle time, ms since the last authenticated record from the peer; 0 for a free s
  ⟨0x1111, 8, 7, 7, .octets, 20, .ro, 0, 0, 0x0, false, 0, 0, false⟩ -- Session i: certificate serial
  ]

/-- Entry rows of indices 0x1200 to 0x12FF. -/
def entries12 : List EntryRow := [
  ⟨0x1200, 1, 1, 4, .u64, 8, .ro, 0, 18446744073709551615, 0x0, false, 0, 0, false⟩, -- Boundary snapshot of TB0–TB3, [39:0]
  ⟨0x1200, 1, 5, 5, .u16, 2, .ro, 0, 65535, 0x0, false, 0, 0, false⟩, -- Timing status, Table TM-5
  ⟨0x1201, 4, 1, 1, .u16, 2, .rwb, 0, 65535, 0x1, true, 4, 0, false⟩, -- Base control, Table TM-2
  ⟨0x1201, 4, 2, 2, .u32, 4, .rwb, 0, 4294967295, 0xCCCCCC, false, 4, 0, false⟩, -- Pending increment, 8.24 ns
  ⟨0x1201, 4, 3, 3, .u32, 4, .ro, 0, 4294967295, 0xCCCCCC, false, 0, 0, false⟩, -- Active increment
  ⟨0x1201, 4, 4, 4, .i32, 4, .wo, -2147483648, 2147483647, 0x0, false, 4, 0, false⟩, -- Step, ns
  ⟨0x1201, 4, 5, 5, .u64, 8, .ro, 0, 18446744073709551615, 0x0, false, 0, 0, false⟩, -- Extended time, ns
  ⟨0x1201, 4, 6, 6, .i32, 4, .ro, -2147483648, 2147483647, 0x0, false, 0, 0, false⟩, -- Offset to source, 1/256 ns (partner, leader, TB3 for a TB1 leader, PTP master)
  ⟨0x1201, 4, 7, 7, .u8, 1, .ro, 0, 255, 0x0, false, 0, 0, false⟩, -- Base status: [3] FREERUN; [2] LIMIT; [1] STEP_PEND; [0] LOCKED; [7:4] 0
  ⟨0x1207, 1, 1, 1, .u32, 4, .rw, 10000, 1000000, 0xC350, false, 4, 0, false⟩, -- TB2 nominal grid frequency, 0.001 Hz
  ⟨0x1208, 1, 1, 1, .u8, 1, .rw, 0, 3, 0x3, false, 4, 0, false⟩, -- PTP ports: [1] E1, [0] E0
  ⟨0x1208, 1, 2, 2, .u8, 1, .rw, 0, 255, 0x0, false, 4, 0, false⟩, -- Domain number
  ⟨0x1208, 1, 3, 3, .u8, 1, .rw, 0, 255, 0x80, false, 4, 0, false⟩, -- priority1
  ⟨0x1208, 1, 4, 4, .u8, 1, .rw, 0, 255, 0x80, false, 4, 0, false⟩, -- priority2
  ⟨0x1208, 1, 5, 5, .bool, 1, .rw, 0, 1, 0x1, false, 4, 0, false⟩, -- Slave-only
  ⟨0x1208, 1, 6, 6, .bool, 1, .rw, 0, 1, 0x0, false, 4, 0, false⟩, -- Two-step transmission
  ⟨0x1208, 1, 7, 7, .u32, 4, .rw, 1000, 1000000, 0x2710, false, 4, 0, false⟩, -- Step threshold, ns
  ⟨0x1208, 1, 8, 8, .octets, 8, .ro, 0, 0, 0x0, false, 0, 0, false⟩, -- Grandmaster identity
  ⟨0x1208, 1, 9, 9, .i32, 4, .ro, -2147483648, 2147483647, 0x0, false, 0, 0, false⟩, -- Offset from master, ns
  ⟨0x1208, 1, 10, 10, .u32, 4, .ro, 0, 4294967295, 0x0, false, 0, 0, false⟩, -- Mean link delay E0, E1, ns
  ⟨0x1208, 1, 11, 11, .u32, 4, .ro, 0, 4294967295, 0x0, false, 0, 0, false⟩, -- Mean link delay E0, E1, ns
  ⟨0x1208, 1, 12, 12, .u8, 1, .ro, 0, 255, 0x0, false, 0, 0, false⟩, -- Port states: [7:4] E1, [3:0] E0, IEEE 1588 portState values
  ⟨0x1209, 1, 1, 4, .i32, 4, .rw, -100000, 100000, 0x0, false, 4, 0, false⟩, -- Added stamp correction: E0 TX, E0 RX, E1 TX, E1 RX, ps
  ⟨0x1210, 1, 1, 1, .u16, 2, .rw, 0, 65535, 0x1200, true, 4, 0, false⟩, -- Reference priority: four 4-bit codes, highest first in [15:12]; 0 none, 1 REFIN, 2 REFIN2,
  ⟨0x1210, 1, 2, 2, .u8, 1, .rw, 0, 1, 0x0, true, 4, 0, false⟩, -- REFIN frequency: 0 = 25 MHz, 1 = 50 MHz
  ⟨0x1210, 1, 3, 3, .u8, 1, .rw, 0, 1, 0x0, true, 4, 0, false⟩, -- REFIN2 frequency: 0 = 25 MHz, 1 = 50 MHz
  ⟨0x1210, 1, 4, 4, .u16, 2, .rw, 1, 10000, 0x64, true, 4, 0, false⟩, -- ADPLL loop bandwidth, 0.1 Hz
  ⟨0x1210, 1, 5, 5, .bool, 1, .rw, 0, 1, 0x0, true, 4, 0, false⟩, -- Revertive reference selection
  ⟨0x1210, 1, 6, 6, .u8, 1, .ro, 0, 255, 0x20, false, 0, 0, false⟩, -- ADPLL status: [7] LOCK; [6] HOLDOVER; [5] ACQUIRING; [4] 0; [3:0] active reference code
  ⟨0x1210, 1, 7, 7, .u8, 1, .ro, 0, 255, 0x0, false, 0, 0, false⟩, -- Reference validity: bit per code 1–4 at bits [4:1]
  ⟨0x1211, 1, 1, 1, .u8, 1, .ro, 0, 255, 0x0, false, 0, 0, false⟩, -- Fall-back status: [7] LOCK; [6] IN_USE; [5:4] 0; [3:0] reference code
  ⟨0x1220, 8, 1, 1, .u32, 4, .rwb, 0, 4294967295, 0x0, false, 4, 0, false⟩, -- Bank A output configuration (Table TM-11)
  ⟨0x1230, 4, 1, 1, .u16, 2, .rwb, 0, 65535, 0x0, false, 4, 0, false⟩, -- Bank B output configuration (Table TM-12)
  ⟨0x1240, 8, 1, 1, .u16, 2, .rwb, 0, 65535, 0x0, false, 4, 0, false⟩, -- Control: [15] EN; [14:13] BASE, TB0–TB3; [12] REPEAT; [11:8] GPIO pin; [7] GPIO_EN; [6] EV
  ⟨0x1240, 8, 2, 2, .u64, 8, .rwb, 0, 18446744073709551615, 0x0, false, 4, 0, false⟩, -- Target, [39:0] of the base's visible time
  ⟨0x1240, 8, 3, 3, .u32, 4, .rwb, 100, 4000000000, 0x3B9ACA00, false, 4, 0, false⟩, -- Repeat period, ns
  ⟨0x1240, 8, 4, 4, .u32, 4, .rwb, 8, 1000000, 0x3E8, false, 4, 0, false⟩, -- Pulse width, ns
  ⟨0x1240, 8, 5, 5, .u32, 4, .rw, 0, 4294967295, 0x0, false, 4, 0, true⟩ -- Matches since reset
  ]

/-- Entry rows of indices 0x1300 to 0x13FF. -/
def entries13 : List EntryRow := [
  ⟨0x1300, 1, 1, 1, .u16, 2, .ro, 0, 65535, 0x0, false, 0, 0, false⟩, -- Supply status, Table PW-7
  ⟨0x1300, 1, 2, 2, .u32, 4, .rw, 0, 600000, 0x7530, false, 4, 1, false⟩, -- Hold-up time, ms
  ⟨0x1300, 1, 3, 3, .u16, 2, .rw, 10, 10000, 0x64, false, 4, 1, false⟩, -- Return qualification time, ms
  ⟨0x1300, 1, 4, 4, .bool, 1, .rw, 0, 1, 0x1, false, 4, 1, false⟩, -- Backup charging enable CHG_EN
  ⟨0x1300, 1, 5, 5, .u32, 4, .rw, 0, 4294967295, 0x0, false, 4, 0, true⟩, -- Switch-overs to backup
  ⟨0x1300, 1, 6, 6, .u32, 4, .rw, 0, 4294967295, 0x0, false, 4, 0, true⟩, -- Time on backup, s
  ⟨0x1300, 1, 7, 7, .i16, 2, .ro, -32768, 32767, 0x8000, false, 0, 0, false⟩, -- NTC_BK temperature, 1/16 °C; 0x8000 invalid
  ⟨0x1301, 1, 1, 11, .u16, 2, .ro, 0, 65535, 0x0, false, 0, 0, false⟩, -- Rail voltages in mV: VDD_C, VDD_M, VDD_SD, VDDH_SD, VDDIO_18, VDDIO_33, VDDA_50, VDDA_33, 
  ⟨0x1310, 1, 1, 1, .u32, 4, .rw, 0, 2592000, 0x0, false, 4, 1, false⟩, -- Wake timer, s; 0 off
  ⟨0x1310, 1, 2, 2, .u32, 4, .ro, 0, 4294967295, 0x0, false, 0, 0, false⟩, -- Duration of the last SLEEP, s
  ⟨0x1320, 1, 1, 1, .u16, 2, .rw, 10, 1000, 0x64, true, 4, 1, false⟩, -- Watchdog period, ms
  ⟨0x1320, 1, 2, 2, .u8, 1, .ro, 0, 255, 0x0, false, 0, 0, false⟩, -- Boot cause, Table PW-5
  ⟨0x1320, 1, 3, 3, .u32, 4, .ro, 0, 4294967295, 0x0, false, 0, 0, false⟩, -- Duration of the last RESET_N low of 30 s or more, s
  ⟨0x1320, 1, 4, 4, .u32, 4, .rw, 0, 4294967295, 0x0, false, 4, 0, true⟩, -- RESET_N lows shorter than 10 µs
  ⟨0x1330, 1, 1, 1, .i16, 2, .ro, -32768, 32767, 0x0, false, 0, 0, false⟩, -- Die temperature, 1/16 °C
  ⟨0x1330, 1, 2, 2, .u8, 1, .ro, 0, 255, 0x0, false, 0, 0, false⟩, -- Thermal status, Table PW-8
  ⟨0x1330, 1, 3, 3, .u8, 1, .rw, 80, 120, 0x69, true, 4, 1, false⟩, -- Warn threshold, °C
  ⟨0x1330, 1, 4, 4, .u8, 1, .rw, 85, 125, 0x73, true, 4, 1, false⟩, -- Derate threshold, °C
  ⟨0x1330, 1, 5, 5, .u8, 1, .rw, 100, 125, 0x78, true, 4, 1, false⟩, -- Shutdown threshold, °C
  ⟨0x1330, 1, 6, 6, .u32, 4, .rw, 0, 4294967295, 0x0, false, 4, 0, true⟩, -- Thermal shutdowns
  ⟨0x1330, 1, 7, 7, .u8, 1, .rw, 60, 110, 0x5F, true, 4, 1, false⟩, -- Release threshold, °C
  ⟨0x1331, 1, 1, 10, .i16, 2, .ro, -32768, 32767, 0x0, false, 0, 0, false⟩ -- TC0–TC7, TA0, TA1, 1/16 °C
  ]

/-- Entry rows of indices 0x1400 to 0x14FF. -/
def entries14 : List EntryRow := [
  ⟨0x1400, 1, 1, 1, .u8, 1, .ro, 0, 1, 0x0, false, 0, 0, false⟩, -- Active slot: 0 A, 1 B
  ⟨0x1400, 1, 2, 2, .u8, 1, .ro, 0, 64, 0x0, false, 0, 0, false⟩, -- Anti-rollback count
  ⟨0x1400, 1, 3, 3, .u8, 1, .ro, 0, 255, 0x0, false, 0, 0, false⟩, -- Revocations: [1] key B; [0] key A
  ⟨0x1400, 1, 4, 4, .u8, 1, .wo, 2, 3, 0x0, false, 16, 0, false⟩, -- Lifecycle request, Table FW-9
  ⟨0x1401, 1, 1, 1, .u8, 1, .ro, 0, 255, 0x0, false, 0, 0, false⟩, -- Slot status, Table FW-4
  ⟨0x1401, 1, 2, 2, .octets, 512, .ro, 0, 0, 0x0, false, 0, 0, false⟩, -- Slot header, Table FW-2
  ⟨0x1402, 1, 1, 1, .u8, 1, .ro, 0, 255, 0x0, false, 0, 0, false⟩, -- Slot status, Table FW-4
  ⟨0x1402, 1, 2, 2, .octets, 512, .ro, 0, 0, 0x0, false, 0, 0, false⟩, -- Slot header, Table FW-2
  ⟨0x1403, 1, 1, 1, .u8, 1, .ro, 0, 255, 0x0, false, 0, 0, false⟩, -- Last header check result, Table FW-3
  ⟨0x1410, 1, 1, 1, .u8, 1, .wo, 1, 1, 0x0, false, 20, 0, false⟩, -- Activate: write 1 (Engineer, Security Officer)
  ⟨0x1410, 1, 2, 2, .u8, 1, .ro, 0, 255, 0x0, false, 0, 0, false⟩, -- Activation status, Table FW-6
  ⟨0x1410, 1, 3, 3, .u8, 1, .rw, 0, 1, 0x1, false, 20, 0, false⟩, -- Health confirm: reads 1 when no confirmation is pending; write 1 (R358)
  ⟨0x1410, 1, 4, 4, .u16, 2, .rw, 10, 3600, 0x78, false, 16, 1, false⟩, -- Confirm window, s (persistent)
  ⟨0x1410, 1, 5, 5, .bool, 1, .rw, 0, 1, 0x0, false, 16, 1, false⟩, -- Host confirmation required (persistent)
  ⟨0x1410, 1, 6, 6, .u16, 2, .ro, 0, 65535, 0x0, false, 0, 0, false⟩, -- Seconds left in the confirm window; 0 when none runs
  ⟨0x1410, 1, 7, 7, .u8, 1, .ro, 0, 255, 0x0, false, 0, 0, false⟩, -- Health checks, Table FW-8
  ⟨0x1420, 1, 1, 1, .octets, 1024, .ro, 0, 0, 0x0, false, 0, 0, false⟩, -- Certificate signing request for the device identity key, DER
  ⟨0x1420, 1, 2, 2, .octets, 2048, .rw, 0, 0, 0x0, false, 16, 1, false⟩, -- Device certificate, DER
  ⟨0x1420, 1, 3, 6, .octets, 2048, .rw, 0, 0, 0x0, false, 16, 1, false⟩, -- Trust anchors 0–3, DER; empty removes
  ⟨0x1421, 1, 1, 1, .octets, 97, .rw, 0, 0, 0x0, false, 16, 1, false⟩, -- Program key, write-once, Provisioned only
  ⟨0x1422, 1, 1, 1, .octets, 32, .wo, 0, 0, 0x0, false, 16, 1, false⟩, -- Pending group key
  ⟨0x1422, 1, 2, 2, .u32, 4, .rw, 0, 4294967295, 0x0, false, 16, 1, false⟩, -- Group key activation tick
  ⟨0x1422, 1, 3, 3, .u8, 1, .ro, 0, 255, 0x0, false, 0, 0, false⟩, -- Group key status: [1] pending key present; [0] key in use
  ⟨0x1430, 1, 1, 1, .octets, 128, .wo, 0, 0, 0x0, false, 16, 0, false⟩, -- Debug certificate, Table FW-10
  ⟨0x1430, 1, 2, 2, .u8, 1, .ro, 0, 255, 0x0, false, 0, 0, false⟩ -- Debug status: [2] CERT_CFG; [1] session open; [0] JTAG open
  ]

/-- Entry rows of indices 0x2000 to 0x20FF. -/
def entries20 : List EntryRow := [
  ⟨0x2000, 1, 1, 1, .u32, 4, .rwb, 5000, 50000, 0x2710, true, 4, 1, false⟩, -- Tick period T, ns (persistent)
  ⟨0x2000, 1, 4, 4, .u16, 2, .rws, 100, 8000, 0x7D0, true, 8, 2, false⟩, -- Coast window, µs (safety)
  ⟨0x2010, 1, 1, 48, .u16, 2, .rwb, 0, 65535, 0x8, true, 4, 0, false⟩, -- Ring configuration, ring n at subindex n+1 (Table DL-2)
  ⟨0x2011, 1, 1, 48, .u16, 2, .ro, 0, 65535, 0x1C8, false, 0, 0, false⟩, -- Port status, DLPn at subindex n+1 (Table DL-3)
  ⟨0x2012, 1, 1, 48, .u32, 4, .ro, 0, 4294967295, 0x0, false, 0, 0, false⟩, -- Measured end-to-end transit, the larger of the two directions
  ⟨0x2013, 1, 1, 48, .u32, 4, .ro, 0, 4294967295, 0x0, false, 0, 0, false⟩, -- Response transit, worst driven end
  ⟨0x2014, 1, 1, 48, .u32, 4, .ro, 0, 4294967295, 0x0, false, 0, 0, false⟩, -- Wale delivery, worst node
  ⟨0x2015, 1, 1, 48, .u32, 4, .ro, 0, 4294967295, 0x0, false, 0, 0, false⟩, -- Block reach, worst node
  ⟨0x2016, 1, 1, 48, .u8, 1, .ro, 0, 255, 0xFF, false, 0, 0, false⟩, -- Break location
  ⟨0x2017, 1, 1, 48, .u32, 4, .rw, 0, 4294967295, 0x0, false, 4, 0, true⟩, -- Frame and record check errors received, per port
  ⟨0x2018, 1, 1, 48, .u32, 4, .rw, 0, 4294967295, 0x0, false, 4, 0, true⟩, -- Block-lock losses, per port
  ⟨0x2019, 1, 1, 4, .u8, 1, .rw, 0, 1, 0x1, false, 4, 0, false⟩, -- I2C0–I2C3 bus speed: 0 = 100 kHz, 1 = 400 kHz
  ⟨0x2020, 48, 1, 1, .i16, 2, .ro, -32768, 32767, 0x0, false, 0, 0, false⟩, -- Module diagnostics of DLPn: Temperature (Table DL-19)
  ⟨0x2020, 48, 2, 2, .u16, 2, .ro, 0, 65535, 0x0, false, 0, 0, false⟩, -- Module diagnostics of DLPn: Supply voltage (Table DL-19)
  ⟨0x2020, 48, 3, 3, .u16, 2, .ro, 0, 65535, 0x0, false, 0, 0, false⟩, -- Module diagnostics of DLPn: TX bias (Table DL-19)
  ⟨0x2020, 48, 4, 4, .u16, 2, .ro, 0, 65535, 0x0, false, 0, 0, false⟩, -- Module diagnostics of DLPn: TX power (Table DL-19)
  ⟨0x2020, 48, 5, 5, .u16, 2, .ro, 0, 65535, 0x0, false, 0, 0, false⟩, -- Module diagnostics of DLPn: RX power (Table DL-19)
  ⟨0x2020, 48, 6, 6, .u32, 4, .ro, 0, 4294967295, 0x0, false, 0, 0, false⟩, -- Module diagnostics of DLPn: Alarm and warning flags (Table DL-19)
  ⟨0x2060, 16, 1, 1, .u16, 2, .rwb, 0, 65535, 0x0, false, 4, 0, false⟩, -- Profile control, Table SW-2
  ⟨0x2060, 16, 2, 2, .u16, 2, .rwb, 0, 2000, 0xC8, false, 4, 0, false⟩, -- Rising dead time DT_R: both-off time before a high-side turn-on, ns
  ⟨0x2060, 16, 3, 3, .u16, 2, .rwb, 0, 2000, 0xC8, false, 4, 0, false⟩, -- Falling dead time DT_F: both-off time before a low-side turn-on, ns
  ⟨0x2060, 16, 4, 4, .u16, 2, .rwb, 0, 2000, 0x0, false, 4, 0, false⟩, -- Minimum pulse width MPW, ns; 0 = filter off
  ⟨0x2060, 16, 5, 5, .u16, 2, .rwb, 10, 10000, 0x3E8, false, 4, 0, false⟩, -- Bootstrap refresh interval BSR_MAX, µs
  ⟨0x2060, 16, 6, 6, .u16, 2, .rwb, 50, 2000, 0x1F4, false, 4, 0, false⟩, -- Bootstrap refresh width BSR_W, ns
  ⟨0x2060, 16, 7, 7, .u16, 2, .rwb, 0, 32764, 0x64, false, 4, 0, false⟩, -- Turn-on target window, low limit, 0.1 ns
  ⟨0x2060, 16, 8, 8, .u16, 2, .rwb, 1, 32764, 0x12C, false, 4, 0, false⟩, -- Turn-on target window, high limit, 0.1 ns
  ⟨0x2060, 16, 9, 9, .u16, 2, .rwb, 0, 32764, 0x64, false, 4, 0, false⟩, -- Turn-off target window, low limit, 0.1 ns
  ⟨0x2060, 16, 10, 10, .u16, 2, .rwb, 1, 32764, 0x12C, false, 4, 0, false⟩, -- Turn-off target window, high limit, 0.1 ns
  ⟨0x2060, 16, 11, 11, .u16, 2, .rwb, 0, 65535, 0x307, false, 4, 0, false⟩ -- Strength codes: [10:8] initial, [6:4] minimum, [2:0] maximum; other bits 0
  ]

/-- Entry rows of indices 0x2100 to 0x21FF. -/
def entries21 : List EntryRow := [
  ⟨0x2100, 6, 1, 1, .bool, 1, .rwb, 0, 1, 0x0, true, 4, 0, false⟩, -- String enable
  ⟨0x2100, 6, 2, 2, .u8, 1, .ro, 0, 96, 0x0, true, 0, 0, false⟩, -- Cells configured
  ⟨0x2100, 6, 3, 3, .u8, 1, .rwb, 0, 15, 0x0, true, 4, 0, false⟩, -- String engine
  ⟨0x2100, 6, 4, 4, .u8, 1, .rwb, 0, 255, 0x0, true, 4, 0, false⟩, -- Key source: [4] BIAS_EN; [2:0] MEAS index on the MV node
  ⟨0x2100, 6, 5, 5, .u32, 4, .rwb, 65536, 4194112, 0x10000, true, 4, 0, false⟩, -- Key bias table offset in the OEM area, 32-byte aligned
  ⟨0x2100, 6, 6, 6, .u16, 2, .rwb, 0, 65535, 0x0, true, 4, 0, false⟩, -- Tolerance band B, key units
  ⟨0x2100, 6, 7, 7, .u8, 1, .rwb, 0, 96, 0x4, true, 4, 0, false⟩, -- Swap limit SWMAX, swaps per tick
  ⟨0x2100, 6, 8, 8, .u8, 1, .rwb, 0, 96, 0x0, true, 4, 0, false⟩, -- Cells required N_MIN
  ⟨0x2100, 6, 9, 9, .u8, 1, .rwb, 0, 96, 0x0, true, 4, 0, false⟩, -- Redundant cells K
  ⟨0x2100, 6, 10, 10, .u8, 1, .rwb, 1, 64, 0x3, true, 4, 0, false⟩, -- Stale limit, ticks
  ⟨0x2100, 6, 11, 11, .q15, 2, .rwb, 0, 32767, 0x4000, true, 4, 0, false⟩, -- Derate factor under ladder L2
  ⟨0x2100, 6, 12, 12, .octets, 12, .rwb, 0, 0, 0x0, false, 4, 1, false⟩, -- Bypassed cells, bit per index (persistent)
  ⟨0x2100, 6, 13, 13, .octets, 12, .rwb, 0, 0, 0x0, false, 4, 0, false⟩, -- Host-disabled cells, bit per index
  ⟨0x2100, 6, 14, 14, .u8, 1, .rwb, 0, 7, 0x0, false, 2, 0, false⟩, -- Requested mode
  ⟨0x2100, 6, 15, 15, .u8, 1, .ro, 0, 7, 0x0, false, 0, 0, false⟩, -- Mode in force
  ⟨0x2100, 6, 16, 16, .u8, 1, .ro, 0, 255, 0x0, false, 0, 0, false⟩, -- Hand-over status, Table SS-14
  ⟨0x2100, 6, 17, 17, .u16, 2, .rwb, 1, 65535, 0x64, false, 4, 0, false⟩, -- Hand-over ramp, ticks
  ⟨0x2100, 6, 18, 18, .q15, 2, .rwb, 0, 32767, 0x666, false, 4, 0, false⟩, -- Hand-over limit
  ⟨0x2100, 6, 19, 19, .u32, 4, .rwb, 65536, 4194300, 0x10000, true, 4, 0, false⟩, -- Mode word offset in the OEM area, 4-byte aligned
  ⟨0x2100, 6, 20, 20, .u32, 4, .ro, 0, 4294967295, 0x0, false, 0, 0, false⟩, -- Cell transitions, last second
  ⟨0x2100, 6, 21, 21, .u32, 4, .rw, 0, 4294967295, 0x0, false, 4, 0, true⟩, -- N clamps
  ⟨0x2100, 6, 22, 22, .u32, 4, .rw, 0, 4294967295, 0x0, false, 4, 0, true⟩ -- Sorter late ticks
  ]

/-- Entry rows of indices 0x2200 to 0x22FF. -/
def entries22 : List EntryRow := [
  ⟨0x2200, 192, 1, 1, .u8, 1, .rwb, 0, 3, 0x0, true, 4, 0, false⟩, -- Cell type: 0 unused, 1 H, 2 F, 3 D
  ⟨0x2200, 192, 2, 2, .u16, 2, .rwb, 0, 65535, 0x0, true, 4, 0, false⟩, -- String [15:8], index in string [7:0]
  ⟨0x2200, 192, 3, 3, .u16, 2, .rwb, 0, 65535, 0xFFFF, true, 4, 0, false⟩, -- MV node slot
  ⟨0x2200, 192, 4, 4, .u16, 2, .rwb, 0, 65535, 0xFFFF, true, 4, 0, false⟩, -- LV node: [15] second cell of the node; [8:0] slot; 0xFFFF none
  ⟨0x2200, 192, 5, 5, .u8, 1, .rwb, 0, 15, 0x0, true, 4, 0, false⟩, -- Commanding engine
  ⟨0x2200, 192, 6, 6, .u8, 1, .rwb, 0, 255, 0x0, true, 4, 0, false⟩, -- Bypass control, Table SS-3
  ⟨0x2200, 192, 7, 7, .u8, 1, .rwb, 0, 255, 0x0, false, 4, 0, false⟩, -- On-state voltage input: [7] valid; [2:0] MEAS index on the MV node
  ⟨0x2200, 192, 8, 8, .f32, 4, .rwb, 1065353216, 1203982336, 0x447A0000, false, 4, 0, false⟩, -- Nominal cell capacitance, µF
  ⟨0x2200, 192, 9, 9, .f32, 4, .rwb, 1065353216, 1176256512, 0x42C80000, false, 4, 0, false⟩, -- Observer reference current, A
  ⟨0x2200, 192, 10, 10, .u32, 4, .rwb, 0, 4294967295, 0x73330064, false, 4, 0, false⟩, -- Observer alarm limits: [31:16] capacitance floor, Q15 of nominal; [15:0] ESR ceiling, mΩ
  ⟨0x2200, 192, 11, 11, .u16, 2, .ro, 0, 65535, 0x0, false, 0, 0, false⟩ -- Cell status, Table SS-4
  ]

/-- Entry rows of indices 0x2400 to 0x24FF. -/
def entries24 : List EntryRow := [
  ⟨0x2400, 384, 1, 1, .u16, 2, .rwb, 0, 65535, 0xFFFF, true, 4, 0, false⟩, -- Ring address: [15:10] 0, [9:4] ring, [3:0] position
  ⟨0x2400, 384, 2, 2, .u8, 1, .rwb, 0, 4, 0x0, true, 4, 0, false⟩, -- Expected class (Table NC-7); 0x00 = slot unused
  ⟨0x2400, 384, 3, 3, .u64, 8, .rwb, 0, 18446744073709551615, 0x0, true, 4, 0, false⟩, -- Expected serial; 0 = any
  ⟨0x2400, 384, 4, 4, .u8, 1, .rwb, 0, 32, 0x0, true, 4, 0, false⟩, -- Edge reservation (R72)
  ⟨0x2400, 384, 5, 5, .u16, 2, .rwb, 10, 2000, 0x64, true, 4, 0, false⟩, -- Interlock floor, copied to ILKDT
  ⟨0x2400, 384, 6, 6, .u8, 1, .ro, 0, 255, 0xFF, false, 0, 0, false⟩, -- NSTATE of the last valid Response; 0xFF none
  ⟨0x2400, 384, 7, 7, .u8, 1, .ro, 0, 255, 0x0, false, 0, 0, false⟩, -- Identity check result, Table NC-8a
  ⟨0x2400, 384, 8, 8, .u32, 4, .rwb, 0, 4294967295, 0x0, true, 4, 0, false⟩, -- Profile of each leg of slot s, leg l in [4l+3:4l]
  ⟨0x2400, 384, 9, 9, .u16, 2, .rwb, 0, 65535, 0x0, true, 4, 0, false⟩, -- Command form of each leg of slot s, leg l in [2l+1:2l], Table SW-4
  ⟨0x2400, 384, 16, 23, .u16, 2, .rw, 0, 65535, 0x0, false, 4, 0, false⟩ -- Status of legs 0–7 of slot s, Table SW-5
  ]

/-- Entry rows of indices 0x2600 to 0x26FF. -/
def entries26 : List EntryRow := [
  ⟨0x2600, 12, 1, 1, .u8, 1, .rwb, 0, 15, 0x0, true, 4, 0, false⟩, -- Profile of LLn
  ⟨0x2600, 12, 2, 2, .u8, 1, .rwb, 0, 2, 0x0, true, 4, 0, false⟩, -- Command form of LLn, Table SW-4
  ⟨0x2600, 12, 3, 3, .u16, 2, .rw, 0, 65535, 0x0, false, 4, 0, false⟩, -- Status of LLn (Table SW-5)
  ⟨0x2600, 12, 4, 4, .u8, 1, .rwb, 0, 15, 0x0, true, 4, 0, false⟩, -- Commanding engine
  ⟨0x2600, 12, 5, 5, .u8, 1, .rwb, 0, 63, 0x0, true, 4, 0, false⟩, -- String association, bit per string [5:0]
  ⟨0x2600, 12, 6, 6, .u16, 2, .rwb, 10, 2000, 0x64, true, 4, 0, false⟩, -- Interlock floor, ns
  ⟨0x2600, 12, 7, 7, .u8, 1, .rwb, 0, 1, 0x1, true, 4, 0, false⟩ -- Fault input: [0] FLT_EN; [7:1] 0
  ]

/-- Entry rows of indices 0x2700 to 0x27FF. -/
def entries27 : List EntryRow := [
  ⟨0x2700, 1, 1, 1, .u32, 4, .ro, 0, 4294967295, 0xFF0, false, 0, 0, false⟩, -- ADC status (Table LA-11)
  ⟨0x2701, 8, 1, 1, .u8, 1, .rwb, 1, 16, 0x1, true, 4, 0, false⟩, -- Sequence length L
  ⟨0x2701, 8, 2, 2, .u8, 1, .ro, 0, 255, 0xFF, false, 0, 0, false⟩, -- Position 0: the pair's cross channel
  ⟨0x2701, 8, 3, 17, .u8, 1, .rwb, 0, 255, 0xFF, true, 4, 0, false⟩, -- Positions 1–15: input number; 0xFF = no conversion
  ⟨0x2709, 4, 1, 1, .u8, 1, .rwb, 0, 255, 0xFF, true, 4, 0, false⟩, -- Cross channel; 0xFF = pair disabled
  ⟨0x2709, 4, 2, 2, .u16, 2, .rwb, 1, 32767, 0x100, true, 4, 0, false⟩, -- Plausibility threshold, result units
  ⟨0x2709, 4, 3, 3, .u32, 4, .rw, 0, 4294967295, 0x0, false, 4, 0, true⟩, -- Transient disagreements
  ⟨0x2709, 4, 4, 4, .u32, 4, .rw, 0, 4294967295, 0x0, false, 4, 0, true⟩, -- Plausibility faults
  ⟨0x2709, 4, 5, 5, .u8, 1, .ro, 0, 255, 0x0, false, 0, 0, false⟩, -- Pair status, Table LA-10
  ⟨0x2710, 48, 1, 1, .u8, 1, .rwb, 0, 1, 0x0, true, 4, 0, false⟩, -- Mode: 0 single-ended; 1 differential with input n + 1. Even n only; RO 0 at odd n
  ⟨0x2710, 48, 2, 2, .i16, 2, .ro, -32768, 32767, 0x8000, false, 0, 0, false⟩, -- LATEST of the snapshot in force (R239)
  ⟨0x2710, 48, 3, 3, .i16, 2, .ro, -32768, 32767, 0x8000, false, 0, 0, false⟩, -- AVG of the snapshot in force
  ⟨0x2710, 48, 4, 4, .u64, 8, .ro, 0, 18446744073709551615, 0x0, false, 0, 0, false⟩, -- TB0 sampling instant of LATEST, [39:0]
  ⟨0x2790, 1, 1, 1, .u8, 1, .ro, 0, 255, 0x0, false, 0, 0, false⟩, -- TRIP levels after filtering, bit i = TRIPi_N asserted
  ⟨0x2790, 1, 2, 2, .u8, 1, .rw, 0, 255, 0x0, false, 14, 0, false⟩, -- Trip latches, bit per input; write 1 to clear
  ⟨0x2790, 1, 3, 3, .u8, 1, .ro, 0, 255, 0x0, false, 0, 0, false⟩, -- Comparators active, bit per comparator
  ⟨0x2790, 1, 4, 4, .u8, 1, .rw, 0, 255, 0x0, false, 14, 0, false⟩, -- Comparator latches; write 1 to clear
  ⟨0x2790, 1, 5, 5, .u8, 1, .ro, 0, 255, 0x0, false, 0, 0, false⟩, -- DRVEN levels [3:0]
  ⟨0x2790, 1, 6, 6, .u16, 2, .ro, 0, 65535, 0x0, false, 0, 0, false⟩, -- Fault inputs, bit n = LGnFLT_N low
  ⟨0x2790, 1, 7, 7, .u16, 2, .ro, 0, 65535, 0xFFF, false, 0, 0, false⟩, -- Gate state, bit n = LLn gated
  ⟨0x2790, 1, 8, 8, .u8, 1, .ro, 0, 255, 0x0, false, 0, 0, false⟩, -- Result of the last latch clear: 0x00 done; 0x03 cause present (Table CM-12)
  ⟨0x2791, 1, 1, 8, .u32, 4, .rw, 0, 4294967295, 0x0, false, 4, 0, true⟩, -- TRIP assertions, per input
  ⟨0x2792, 1, 1, 8, .u32, 4, .rw, 0, 4294967295, 0x0, false, 4, 0, true⟩ -- Comparator activations, per comparator
  ]

/-- Entry rows of indices 0x3000 to 0x30FF. -/
def entries30 : List EntryRow := [
  ⟨0x3000, 16, 1, 1, .u8, 1, .rwb, 0, 1, 0x0, true, 4, 0, false⟩, -- Control: [0] EN
  ⟨0x3000, 16, 2, 2, .u8, 1, .ro, 0, 255, 0x0, false, 0, 0, false⟩, -- Assigned mask: [6] local legs; [5:0] strings. Derived from the cell and local-leg configur
  ⟨0x3000, 16, 3, 3, .u8, 1, .ro, 0, 48, 0x0, false, 0, 0, false⟩, -- Cells assigned
  ⟨0x3000, 16, 4, 4, .u32, 4, .ro, 0, 4294967295, 0x0, false, 0, 0, false⟩, -- Package check value (CRC-32C)
  ⟨0x3000, 16, 5, 5, .u32, 4, .ro, 0, 4294967295, 0x0, false, 0, 0, false⟩, -- Package build identifier
  ⟨0x3000, 16, 6, 6, .u32, 4, .ro, 0, 4294967295, 0x0, false, 0, 0, false⟩, -- Cycles used in the last tick; 0xFFFFFFFF if it missed
  ⟨0x3000, 16, 7, 7, .u32, 4, .rw, 0, 4294967295, 0x0, false, 4, 0, true⟩, -- Most cycles used since cleared
  ⟨0x3000, 16, 8, 8, .u32, 4, .rw, 0, 38400, 0x0, false, 4, 0, false⟩, -- Near-miss threshold, engine cycles
  ⟨0x3000, 16, 9, 9, .u32, 4, .rw, 0, 4294967295, 0x0, false, 4, 0, true⟩, -- Near misses
  ⟨0x3000, 16, 10, 10, .u32, 4, .rw, 0, 4294967295, 0x0, false, 4, 0, true⟩, -- Deadline misses
  ⟨0x3000, 16, 11, 11, .u32, 4, .rw, 0, 4294967295, 0x0, false, 4, 0, true⟩, -- Exceptions
  ⟨0x3000, 16, 12, 12, .u16, 2, .rw, 0, 65535, 0x0, false, 4, 0, false⟩, -- Exception causes, Table CE-13
  ⟨0x3000, 16, 13, 13, .u16, 2, .ro, 0, 8191, 0x0, false, 0, 0, false⟩, -- Bundle address of the latest exception
  ⟨0x3000, 16, 14, 14, .u32, 4, .ro, 0, 4294967295, 0x0, false, 0, 0, false⟩, -- Mirror region: [31:16] data-memory offset / 4; [15:0] length in bytes
  ⟨0x3010, 16, 1, 1, .u16, 2, .rwb, 0, 65535, 0x0, false, 4, 0, false⟩, -- Bank control: [8] active bank (RO); [0] SWAP, write 1 to request a swap
  ⟨0x3010, 16, 2, 2, .octets, 4096, .rw, 0, 0, 0x0, false, 4, 0, false⟩, -- Inactive bank contents, 2,048 Q15 words, word 0 first, little-endian
  ⟨0x3010, 16, 3, 3, .u32, 4, .ro, 0, 4294967295, 0x0, false, 0, 0, false⟩, -- CRC-32C of the inactive bank, as in R50
  ⟨0x3010, 16, 4, 4, .u32, 4, .ro, 0, 4294967295, 0x0, false, 0, 0, false⟩ -- CRC-32C of the active bank
  ]

/-- Entry rows of indices 0x3100 to 0x31FF. -/
def entries31 : List EntryRow := [
  ⟨0x3100, 1, 1, 1, .u16, 2, .rwb, 0, 65535, 0x0, false, 4, 0, false⟩, -- Control: [10:8] TLVL; [7:4] trigger source: 0 host only, 1 TRIG port, 2 fault ladder at TL
  ⟨0x3100, 1, 2, 2, .u32, 4, .rw, 0, 1000000, 0x3E8, false, 4, 0, false⟩, -- Post-trigger ticks
  ⟨0x3100, 1, 3, 3, .u8, 1, .wo, 1, 2, 0x0, false, 4, 0, false⟩, -- Command: 1 trigger; 2 re-arm
  ⟨0x3100, 1, 4, 4, .u8, 1, .ro, 0, 255, 0x0, false, 0, 0, false⟩, -- Status: [3] WRAPPED; [2] STOPPED; [1] TRIGGERED; [0] RUNNING
  ⟨0x3100, 1, 5, 5, .u32, 4, .ro, 0, 4294967295, 0x0, false, 0, 0, false⟩, -- Tick number of the trigger
  ⟨0x3100, 1, 6, 6, .u32, 4, .ro, 0, 4294967295, 0x10, false, 0, 0, false⟩, -- Record length, bytes
  ⟨0x3100, 1, 7, 7, .u8, 1, .rw, 0, 255, 0x0, false, 4, 0, false⟩, -- Compare source: [7:4] engine; [2:0] channel
  ⟨0x3100, 1, 8, 8, .u8, 1, .rw, 0, 3, 0x0, false, 4, 0, false⟩, -- Compare condition: 0 above; 1 below; 2 crosses upwards; 3 crosses downwards
  ⟨0x3100, 1, 9, 9, .i32, 4, .rw, -2147483648, 2147483647, 0x0, false, 4, 0, false⟩, -- Compare threshold
  ⟨0x3101, 1, 1, 16, .u8, 1, .rwb, 0, 255, 0x0, false, 4, 0, false⟩, -- Channel mask of engine 0–15, bit per channel
  ⟨0x3102, 1, 1, 8, .u32, 4, .rwb, 0, 4294967295, 0x0, false, 4, 0, false⟩ -- Capture range: [30:24] beats, 0–64 (0 unused); [21:0] CSM offset, 32-byte aligned
  ]

/-- Entry rows of indices 0x3200 to 0x32FF. -/
def entries32 : List EntryRow := [
  ⟨0x3200, 1, 1, 1, .u8, 1, .ro, 0, 255, 0x0, false, 0, 0, false⟩, -- Arbiter status: bit 0 pending table differs from active
  ⟨0x3200, 1, 2, 2, .u16, 2, .rw, 1, 65535, 0x1000, false, 4, 0, false⟩, -- Starvation watch
  ⟨0x3200, 1, 3, 3, .u8, 1, .rwb, 0, 126, 0x0, false, 4, 0, false⟩, -- Background exclusion mask, bit n = CLASS n
  ⟨0x3200, 1, 5, 5, .u32, 4, .rw, 0, 4294967295, 0x0, false, 4, 0, true⟩, -- Dead-cycle counter
  ⟨0x3201, 1, 1, 128, .u8, 1, .rwb, 0, 255, 0x0, false, 4, 0, false⟩, -- Slot table, pending (Table CM-15)
  ⟨0x3202, 1, 1, 128, .u8, 1, .ro, 0, 255, 0x0, false, 0, 0, false⟩, -- Slot table, active (Table CM-15)
  ⟨0x3203, 1, 1, 6, .u32, 4, .rw, 0, 4294967295, 0x0, false, 4, 0, true⟩ -- Starvation counters, CLASS n at subindex n (1–6)
  ]

/-- Entry rows of indices 0x4000 to 0x40FF. -/
def entries40 : List EntryRow := [
  ⟨0x4000, 1, 1, 1, .u32, 4, .ro, 0, 4294967295, 0x0, false, 0, 0, false⟩, -- Safety check value
  ⟨0x4000, 1, 2, 2, .u32, 4, .rws, 0, 4294967295, 0x0, true, 8, 2, false⟩, -- Safety check confirmation
  ⟨0x4000, 1, 3, 3, .u16, 2, .ro, 0, 65535, 0x1, false, 0, 0, false⟩, -- Set format version
  ⟨0x4000, 1, 4, 4, .u8, 1, .ro, 0, 255, 0x0, false, 0, 0, false⟩, -- Safety status: [3] STORE_REPAIRED; [2] PAIR_MATCH; [1] THRESH_SET; [0] CONFIRMED; [7:4] 0
  ⟨0x4000, 1, 5, 5, .u32, 4, .ro, 0, 4294967295, 0x0, false, 0, 0, false⟩, -- Confirmations since manufacture
  ⟨0x4001, 6, 1, 1, .f32, 4, .rws, 0, 1184645120, 0x0, true, 8, 2, false⟩, -- MV node overvoltage threshold OV_NODE, string s, V
  ⟨0x4001, 6, 2, 2, .f32, 4, .rws, 0, 1184645120, 0x0, true, 8, 2, false⟩, -- MV bypass threshold OV_BYP, string s, V
  ⟨0x4001, 6, 3, 3, .f32, 4, .rws, 0, 1167867904, 0x0, true, 8, 2, false⟩ -- LV node overvoltage threshold OV_LV, string s, V
  ]

/-- Entry rows of indices 0x4100 to 0x41FF. -/
def entries41 : List EntryRow := [
  ⟨0x4100, 8, 1, 1, .u8, 1, .rws, 0, 255, 0x0, true, 8, 2, false⟩, -- Trip input configuration (Table LA-4)
  ⟨0x4110, 8, 1, 1, .u8, 1, .rws, 0, 255, 0x0, true, 8, 2, false⟩, -- Control: [7] EN; [6] DIFF: 1 differential, the input named in 0x4110+c.02 against the next
  ⟨0x4110, 8, 2, 2, .u8, 1, .rws, 0, 47, 0x0, true, 8, 2, false⟩, -- Input, by AIN number; with DIFF set, the even input of the pair
  ⟨0x4110, 8, 3, 3, .i16, 2, .rws, -32704, 32704, 0x7FC0, true, 8, 2, false⟩, -- HIGH threshold, in result units (R238)
  ⟨0x4110, 8, 4, 4, .i16, 2, .rws, -32704, 32704, 0x8040, true, 8, 2, false⟩, -- LOW threshold
  ⟨0x4110, 8, 5, 5, .u16, 2, .rws, 0, 4095, 0x0, true, 8, 2, false⟩, -- Local-leg mask, bit per leg [11:0]
  ⟨0x4110, 8, 6, 6, .u8, 1, .rws, 0, 63, 0x0, true, 8, 2, false⟩ -- String mask, bit per string [5:0]
  ]

/-- Entry rows of indices 0x4200 to 0x42FF. -/
def entries42 : List EntryRow := [
  ⟨0x4200, 1, 1, 1, .u32, 4, .ro, 0, 4294967295, 0x0, false, 0, 0, false⟩, -- Collector status, Table SF-11
  ⟨0x4200, 1, 2, 2, .u8, 1, .ro, 0, 255, 0x0, false, 0, 0, false⟩, -- Result of the last acknowledgement or release: 0x00 done; 0x01 not permitted; 0x03 cause p
  ⟨0x4200, 1, 3, 3, .u8, 1, .wo, 1, 127, 0x0, false, 2, 0, false⟩, -- Ladder block release: bit per string [5:0]; [6] local legs (R269)
  ⟨0x4200, 1, 4, 4, .u8, 1, .ro, 0, 255, 0x0, false, 0, 0, false⟩, -- Blocked by the ladder: bit per string [5:0]; [6] local legs gated at L3 in local-leg scope
  ⟨0x4201, 1, 1, 16, .u16, 2, .ro, 0, 65535, 0x0, false, 0, 0, false⟩, -- Sticky bits, class c at subindex c+1, bit n = source n
  ⟨0x4202, 1, 1, 16, .u16, 2, .ro, 0, 65535, 0x0, false, 0, 0, false⟩, -- Cause present
  ⟨0x4203, 1, 1, 16, .u16, 2, .rw, 0, 65535, 0x0, false, 8, 0, false⟩, -- Force bits
  ⟨0x4204, 1, 1, 16, .u16, 2, .wo, 0, 65535, 0x0, false, 14, 0, false⟩, -- Acknowledge, bit per source
  ⟨0x4205, 1, 1, 16, .u8, 1, .ro, 0, 5, 0x0, false, 0, 0, false⟩, -- Class level
  ⟨0x4206, 1, 1, 16, .u32, 4, .rw, 0, 4294967295, 0x0, false, 4, 0, true⟩, -- Transient faults per class
  ⟨0x4210, 16, 1, 16, .u32, 4, .rw, 0, 4294967295, 0x0, false, 4, 0, true⟩ -- Occurrences of source n of class c, at subindex n+1
  ]

/-- Entry rows of indices 0x5000 to 0x50FF. -/
def entries50 : List EntryRow := [
  ⟨0x5000, 1, 1, 1, .bool, 1, .rwb, 0, 1, 0x0, true, 4, 0, false⟩, -- Pair configured
  ⟨0x5000, 1, 2, 2, .u8, 1, .wo, 1, 1, 0x0, false, 2, 0, false⟩, -- Switch-over request: write 1
  ⟨0x5000, 1, 3, 3, .u8, 1, .rwb, 2, 8, 0x3, true, 4, 0, false⟩, -- Missed-heartbeat threshold N, ticks
  ⟨0x5000, 1, 4, 4, .u32, 4, .ro, 0, 4294967295, 0x0, false, 0, 0, false⟩, -- Mandate epoch held by this device
  ⟨0x5000, 1, 5, 5, .u16, 2, .ro, 0, 65535, 0x0, false, 0, 0, false⟩, -- Pair status, Table RP-2
  ⟨0x5000, 1, 6, 6, .u16, 2, .ro, 0, 65535, 0xFFFF, false, 0, 0, false⟩, -- Partner DEVID; 0xFFFF none seen
  ⟨0x5000, 1, 7, 7, .bool, 1, .rwb, 0, 1, 0x0, true, 4, 0, false⟩, -- Use PARTNER_ACTIVE input
  ⟨0x5000, 1, 8, 8, .u32, 4, .rw, 0, 4294967295, 0x0, false, 4, 0, true⟩, -- Takeovers made by this device
  ⟨0x5000, 1, 9, 9, .u32, 4, .rw, 0, 4294967295, 0x0, false, 4, 0, true⟩, -- Spar heartbeats missed, SPL0, SPL1
  ⟨0x5000, 1, 10, 10, .u32, 4, .rw, 0, 4294967295, 0x0, false, 4, 0, true⟩, -- Spar heartbeats missed, SPL0, SPL1
  ⟨0x5000, 1, 11, 11, .u32, 4, .ro, 0, 4294967295, 0x0, false, 0, 0, false⟩, -- Spar one-way delay, SPL0, SPL1, ps
  ⟨0x5000, 1, 12, 12, .u32, 4, .ro, 0, 4294967295, 0x0, false, 0, 0, false⟩, -- Spar one-way delay, SPL0, SPL1, ps
  ⟨0x5000, 1, 13, 13, .u32, 4, .rw, 0, 4294967295, 0x0, false, 4, 0, true⟩, -- Mirror copies late
  ⟨0x5000, 1, 14, 14, .u32, 4, .ro, 0, 4294967295, 0x0, false, 0, 0, false⟩ -- Tick number of the last role change
  ]

/-- Entry rows of indices 0x5100 to 0x51FF. -/
def entries51 : List EntryRow := [
  ⟨0x5100, 1, 1, 1, .u8, 1, .rwb, 0, 7, 0x0, true, 4, 0, false⟩, -- Group number
  ⟨0x5100, 1, 2, 2, .u32, 4, .ro, 0, 4294967295, 0x0, false, 0, 0, false⟩, -- Group configuration check value
  ⟨0x5100, 1, 3, 3, .u16, 2, .ro, 0, 511, 0x0, false, 0, 0, false⟩, -- Group leader DEVID
  ⟨0x5100, 1, 4, 4, .u16, 2, .ro, 0, 65535, 0x0, false, 0, 0, false⟩, -- Group status: [3] RIDGE_BRK; [2] GW, trunk gateway; [1] LEADER; [0] MEMBER, group lanes en
  ⟨0x5100, 1, 5, 5, .octets, 64, .ro, 0, 0, 0x0, false, 0, 0, false⟩, -- Members present, bit per DEVID
  ⟨0x5100, 1, 6, 6, .u8, 1, .wo, 1, 2, 0x0, false, 14, 0, false⟩, -- Block request: write 1 for group-wide, 2 for system-wide (R299)
  ⟨0x5100, 1, 7, 7, .u8, 1, .rwb, 0, 15, 0x0, true, 4, 0, false⟩, -- Ridge lanes enabled: [3] RGT1; [2] RGT0; [1] RGW; [0] RGE
  ⟨0x5100, 1, 8, 8, .bool, 1, .rw, 0, 1, 0x0, false, 4, 0, false⟩, -- Proxy entry permitted
  ⟨0x5100, 1, 9, 9, .u32, 4, .rwb, 65536, 4194272, 0x10000, true, 4, 0, false⟩, -- Group share offset in the OEM area, 32-byte aligned
  ⟨0x5110, 64, 1, 1, .octets, 32, .ro, 0, 0, 0x0, false, 0, 0, false⟩ -- Last digest of the j-th present member by ascending DEVID, j = 0–63
  ]

/-- Entry rows of indices 0x6000 to 0x60FF. -/
def entries60 : List EntryRow := [
  ⟨0x6000, 1, 1, 1, .u32, 4, .ro, 0, 4294967295, 0x0, false, 0, 0, false⟩, -- Power-cycle count
  ⟨0x6000, 1, 2, 2, .u64, 8, .ro, 0, 18446744073709551615, 0x0, false, 0, 0, false⟩, -- Operating time, µs
  ⟨0x6000, 1, 3, 3, .u16, 2, .ro, 0, 4096, 0x0, false, 0, 0, false⟩, -- Records in the keep-first area
  ⟨0x6000, 1, 4, 4, .u16, 2, .ro, 0, 2048, 0x0, false, 0, 0, false⟩, -- Records in the circulating area
  ⟨0x6000, 1, 5, 5, .u32, 4, .rw, 0, 4294967295, 0x0, false, 4, 0, true⟩, -- Drops, keep-first area
  ⟨0x6000, 1, 6, 6, .u32, 4, .rw, 0, 4294967295, 0x0, false, 4, 0, true⟩, -- Displacements, keep-first area
  ⟨0x6000, 1, 7, 7, .u16, 2, .ro, 0, 256, 0x0, false, 0, 0, false⟩, -- Records held in the RAM buffer
  ⟨0x6000, 1, 8, 8, .u32, 4, .rw, 0, 4294967295, 0x0, false, 4, 0, true⟩, -- Drops, RAM buffer
  ⟨0x6000, 1, 9, 9, .u32, 4, .rw, 0, 4294967295, 0x0, false, 4, 0, true⟩, -- Corrupt records removed
  ⟨0x6000, 1, 10, 10, .u8, 1, .wo, 1, 1, 0x0, false, 16, 0, false⟩, -- Clear keep-first area: write 1
  ⟨0x6000, 1, 11, 11, .u32, 4, .ro, 0, 4294967295, 0x0, false, 0, 0, false⟩, -- Last sequence number written
  ⟨0x6000, 1, 12, 12, .u8, 1, .rw, 0, 4, 0x1, false, 4, 1, false⟩, -- Minimum severity, keep-first area (persistent)
  ⟨0x6001, 1, 1, 1, .u32, 4, .rw, 0, 4294967295, 0x0, false, 31, 0, false⟩, -- Record select: sequence number
  ⟨0x6001, 1, 2, 2, .octets, 64, .ro, 0, 0, 0x0, false, 0, 0, false⟩, -- Selected record, Table EV-1; all 0 when the sequence number is not held
  ⟨0x6080, 1, 1, 1, .u16, 2, .ro, 0, 65535, 0x0, false, 0, 0, false⟩, -- Last scrub pass duration, ms
  ⟨0x6080, 1, 2, 2, .u32, 4, .rw, 0, 4294967295, 0x0, false, 4, 0, true⟩, -- Corrected words found by scrub
  ⟨0x6080, 1, 3, 3, .u32, 4, .rw, 0, 4294967295, 0x0, false, 4, 0, true⟩, -- Overrun passes
  ⟨0x6080, 1, 4, 4, .u64, 8, .ro, 0, 18446744073709551615, 0x0, false, 0, 0, false⟩, -- Operating time at the last completed MRAM refresh, µs
  ⟨0x6080, 1, 5, 5, .u8, 1, .ro, 6, 24, 0x18, false, 0, 0, false⟩, -- MRAM refresh interval in force, h
  ⟨0x6090, 1, 1, 56, .u16, 2, .ro, 0, 65535, 0x0, false, 0, 0, false⟩ -- Eye opening: [15:8] horizontal in 1/64 UI; [7:0] vertical in 4 mV. Subindex 0x01–0x30 DLP0
  ]

/-- Entry rows of indices 0x6100 to 0x61FF. -/
def entries61 : List EntryRow := [
  ⟨0x6100, 1, 1, 1, .u8, 1, .ro, 0, 64, 0x0, false, 0, 0, false⟩, -- Subscriptions open in the device
  ⟨0x6100, 1, 2, 2, .u32, 4, .rw, 0, 4294967295, 0x0, false, 4, 0, true⟩, -- Notifications sent
  ⟨0x6100, 1, 3, 3, .u32, 4, .rw, 0, 4294967295, 0x0, false, 4, 0, true⟩, -- Notifications skipped
  ⟨0x6100, 1, 4, 4, .u32, 4, .rw, 100, 1000000, 0x64, false, 4, 0, false⟩ -- Minimum period, µs
  ]

/-- Entry rows of indices 0x6800 to 0x68FF. -/
def entries68 : List EntryRow := [
  ⟨0x6800, 384, 1, 1, .octets, 32, .ro, 0, 0, 0x0, false, 0, 0, false⟩, -- Slot summary, Table OD-15
  ⟨0x6800, 384, 2, 9, .f32, 4, .ro, 0, 4294967295, 0x7FC00000, false, 0, 0, false⟩ -- MEAS0–MEAS7 × MEASFSn, in V or A; NaN (0x7FC00000) where the count is 0x8000 or MEASFSn is
  ]

/-- Entry rows of indices 0x6A00 to 0x6AFF. -/
def entries6A : List EntryRow := [
  ⟨0x6A00, 192, 1, 1, .f32, 4, .ro, 0, 4294967295, 0x0, false, 0, 0, false⟩, -- Capacitance, µF
  ⟨0x6A00, 192, 2, 2, .u8, 1, .ro, 0, 100, 0x0, false, 0, 0, false⟩, -- Capacitance fit confidence, %
  ⟨0x6A00, 192, 3, 3, .f32, 4, .ro, 0, 4294967295, 0x0, false, 0, 0, false⟩, -- ESR, mΩ
  ⟨0x6A00, 192, 4, 4, .f32, 4, .ro, 0, 4294967295, 0x0, false, 0, 0, false⟩, -- On-state voltage at the reference current, V
  ⟨0x6A00, 192, 5, 5, .i16, 2, .ro, -32768, 32767, 0x8000, false, 0, 0, false⟩, -- Junction temperature, 1 s mean, 1/16 °C
  ⟨0x6A00, 192, 6, 6, .i16, 2, .ro, -32768, 32767, 0x8000, false, 0, 0, false⟩, -- Junction temperature maximum since cleared, 1/16 °C
  ⟨0x6A00, 192, 7, 7, .octets, 256, .ro, 0, 0, 0x0, false, 0, 1, false⟩, -- Rainflow half cycles, 64 U32, bin b of band m at 16m + b (persistent)
  ⟨0x6A00, 192, 8, 8, .u32, 4, .ro, 0, 4294967295, 0x0, false, 0, 1, false⟩, -- Half cycles counted in all (persistent)
  ⟨0x6A00, 192, 9, 9, .u32, 4, .ro, 0, 200000, 0x0, false, 0, 0, false⟩, -- Coverage: ticks used in the last second
  ⟨0x6A00, 192, 10, 10, .u8, 1, .ro, 0, 255, 0x0, false, 0, 0, false⟩, -- Health flags: [0] capacitance below floor; [1] ESR above ceiling; [2] on-state voltage 10 
  ⟨0x6A00, 192, 11, 11, .u8, 1, .wo, 1, 2, 0x0, false, 4, 0, false⟩ -- Clear: 1 maximum temperature; 2 rainflow and count
  ]

/-- Every entry row, ascending in index. -/
def entryRows : List EntryRow :=
  entries10 ++ entries11 ++ entries12 ++ entries13 ++ entries14 ++ entries20 ++ entries21 ++ entries22 ++ entries24 ++ entries26 ++ entries27 ++ entries30 ++ entries31 ++ entries32 ++ entries40 ++ entries41 ++ entries42 ++ entries50 ++ entries51 ++ entries60 ++ entries61 ++ entries68 ++ entries6A

/-- Does the row cover entry `idx.sub`? -/
def EntryRow.covers (r : EntryRow) (idx sub : Nat) : Bool :=
  decide (r.base ≤ idx ∧ idx < r.base + r.cnt ∧ r.lo ≤ sub ∧ sub ≤ r.hi)

/-- The first row that covers an entry. -/
def findRow (idx sub : Nat) : List EntryRow → Option EntryRow
  | [] => none
  | r :: rs => if r.covers idx sub then some r else findRow idx sub rs

/-- The row of an entry; `none` where the manual defines no such entry (Table OD-5: absent). -/
def entryRow (idx sub : Nat) : Option EntryRow := findRow idx sub entryRows

/-- The key under which the register file holds entry `idx.sub`. -/
def ekey (idx sub : Nat) : Nat := idx * 256 + sub

/-- Defaults that a row cannot give because they differ from index to index: the modes of TB0 to TB3 (Table TM-1). -/
def indexedDefault (key : Nat) : Option Nat :=
  if key = ekey 0x1203 1 then some 0x0000
  else if key = ekey 0x1204 1 then some 0x0005
  else none

/-- The default of a register: what the register file reads where nothing else was stored. -/
def regDefault (key : Nat) : Nat :=
  match indexedDefault key with
  | some d => d
  | none =>
    match entryRow (key / 256) (key % 256) with
    | some r => r.dflt
    | none => 0

/-- Width of a register in bits. -/
def regBits (key : Nat) : Nat :=
  match entryRow (key / 256) (key % 256) with
  | some r => 8 * r.size
  | none => 32

end Sys2Proof.Machine
end

