-- ==== Sys2Proof/Machine/Tab.lean ====
section
/-! DEFINITION. Finite tables in one canonical form: keys strictly rising and no entry equal to what an unlisted key
reads as. Memory, the register file and every numbered collection of the block are tables. -/

namespace Sys2Proof.Machine

/-- A table: what is listed by key; an unlisted key reads as the default its reader names. -/
abbrev Tab (α : Type) := List (Nat × α)

/-- The value at a key. -/
def Tab.get {α : Type} (d : α) (k : Nat) : Tab α → α
  | [] => d
  | e :: t => if e.1 = k then e.2 else Tab.get d k t

/-- The table without a key. -/
def Tab.erase {α : Type} (k : Nat) : Tab α → Tab α
  | [] => []
  | e :: t => if e.1 = k then Tab.erase k t else e :: Tab.erase k t

/-- The table with an entry put at its place in the key order. -/
def Tab.ins {α : Type} (k : Nat) (v : α) : Tab α → Tab α
  | [] => [(k, v)]
  | e :: t => if k < e.1 then (k, v) :: e :: t else e :: Tab.ins k v t

/-- The table after a write: a value equal to the default removes the entry. -/
def Tab.set {α : Type} [DecidableEq α] (d : α) (k : Nat) (v : α) (m : Tab α) : Tab α :=
  if v = d then Tab.erase k m else Tab.ins k v (Tab.erase k m)

/-- The canonical form: keys strictly rising, no entry equal to the default. -/
def Tab.wf {α : Type} [DecidableEq α] (d : α) : Tab α → Bool
  | [] => true
  | [e] => decide (e.2 ≠ d)
  | e :: e' :: t => decide (e.2 ≠ d) && decide (e.1 < e'.1) && Tab.wf d (e' :: t)

/-- `n` bytes from address `a` on, read least significant byte first. -/
def Tab.readLE (m : Tab Byte) (a : Nat) : Nat → Nat
  | 0 => 0
  | n + 1 => (Tab.get 0 a m).toNat + 256 * Tab.readLE m (a + 1) n

/-- Write the low `n` bytes of `v` from address `a` on, least significant first. -/
def Tab.writeLE (a : Nat) (v : Nat) : Nat → Tab Byte → Tab Byte
  | 0, m => m
  | n + 1, m => Tab.writeLE (a + 1) (v / 256) n (Tab.set 0 a (BitVec.ofNat 8 v) m)

/-- Write a list of bytes from address `a` on. -/
def Tab.writeBytes (a : Nat) : List Byte → Tab Byte → Tab Byte
  | [], m => m
  | b :: bs, m => Tab.writeBytes (a + 1) bs (Tab.set 0 a b m)

/-- `n` bytes from address `a` on, in address order. -/
def Tab.readBytes (m : Tab Byte) (a : Nat) : Nat → List Byte
  | 0 => []
  | n + 1 => Tab.get 0 a m :: Tab.readBytes m (a + 1) n

/-! ## Bytes -/

/-- The big-endian bytes of a number, most significant first. -/
def beBytes (v : Nat) : Nat → List Byte
  | 0 => []
  | n + 1 => BitVec.ofNat 8 (v / 256 ^ n) :: beBytes v n

/-- The number that bytes spell, most significant first. -/
def beNat : List Byte → Nat → Nat
  | [], acc => acc
  | b :: bs, acc => beNat bs (acc * 256 + b.toNat)

/-! ## CRC-32C (R50) -/

/-- Eight steps of the reflected CRC-32C on the register. -/
def crcBits : Nat → Nat → Nat
  | 0, c => c
  | n + 1, c => crcBits n (if c % 2 = 1 then (c / 2) ^^^ 0x82F63B78 else c / 2)

/-- The register after feeding bytes. -/
def crcFeed (c : Nat) : List Byte → Nat
  | [] => c
  | b :: bs => crcFeed (crcBits 8 (c ^^^ b.toNat)) bs

/-- CRC-32C of a byte string: initial value and final inversion all ones (R50). -/
def crc32c (bs : List Byte) : Nat := crcFeed 0xFFFFFFFF bs ^^^ 0xFFFFFFFF

/-- The CRC-32C of a store's copy over its format version, its number, its confirmation and its entries, each by key, length and value
(R258, R306; the layout is the model's own, log entry 193). -/
def storeCrc (fmt seq conf : Nat) (ents : Tab Nat) : Nat :=
  crc32c (beBytes fmt 2 ++ beBytes seq 4 ++ beBytes conf 4 ++
    ents.flatMap (fun e => beBytes e.1 3 ++ beBytes (Nat.log2 e.2 / 8 + 1) 2 ++ beBytes e.2 (Nat.log2 e.2 / 8 + 1)))

end Sys2Proof.Machine
end

