-- ==== Sys2Proof/Machine/State.lean ====
section
/-! DEFINITION. The state of the block as plain data: the object dictionary's register file, the tick, the time bases,
the lanes and rings, the nodes, the engines, the Weave builder, the services, the collector, the pair and group
machinery, sessions, recorder, firmware and supplies, and the queue of waiting commands. -/

namespace Sys2Proof.Machine

/-- Why the machine stops with a fault. The manual gives no command a stop of this kind: safe, since nothing raises it. -/
inductive Fault where
  /-- Raised by nobody: kept so that the outcome type has a name for a stop of the whole block. Safe. -/
  | halted
  deriving DecidableEq, Repr

/-- Why a command has no meaning in this model. -/
inductive Refusal where
  /-- The command has no meaning yet. Raised by arms of `exec` only. Safe: the model stops. -/
  | notModelled (mnemonic : String)
  deriving DecidableEq, Repr

/-- What passes a node on its way to the other port (R66). -/
inductive NodeFrame where
  | sync (f : SyncFrame) (fcsOk : Bool)
  | waleHdr (ring : Nat) (h : WaleHdr)
  | record (h : WaleHdr) (r : NodeRec)
  | coast (devid : Nat) (p : CoastPat) (fcsOk : Bool)
  | blockSet (b : BlockSet)
  | mgmt (devid : Nat) (tag : BitVec 8) (op addr count : Nat) (data : List Byte)
  deriving DecidableEq, Repr

/-- The messages of Spar (Tables RP-3 and RP-12), in the order of their KIND. -/
inductive SparMsg where
  | hb (h : SparHb)
  | respReq (ring pos : Nat) (tick : BitVec 32)
  | relay (ring pos : Nat) (unreq : Bool) (r : Response)
  | waleReport (ring : Nat) (seq : BitVec 16) (epoch : Nat) (fcsOk : Bool) (rfail : BitVec 16)
  | bridged (ring : Nat) (w : Wale)
  | blockNotice (b : BlockSet) (rings : BitVec 48)
  | mirror (part : Nat) (tick : BitVec 32) (content : List Byte)
  | fwd (fseq : BitVec 32) (rtype : Nat) (target : BitVec 32) (arg : Int)
  | cfg (fseq : BitVec 32) (ctype : Nat) (target : BitVec 32) (unit segno : Nat) (last : Bool) (content : List Byte)
  | ack (fseq : BitVec 32) (status : Nat)
  deriving DecidableEq, Repr

/-- The frames of the Ridge lanes (Tables RP-8 and RP-13), in the order of their KIND but for the digest. -/
inductive RidgeMsg where
  | time (tLdep : BitVec 40) (corr : Int) (leader lgrp : Nat) (ref trunk : Bool)
  | probe (sub : Nat) (t1 t2 t3 : BitVec 40)
  | digest (d : Digest)
  | proxy (ptype target entry : Nat) (stag : BitVec 16) (roles : BitVec 8) (tag : BitVec 16) (x : Seal) (r : Option Reply)
    (p : Option Pdu)
  | block (f : BlockReqFrame)
  | summary (grp leader : Nat) (present : List Nat) (hstate hladder : Nat)
  deriving DecidableEq, Repr

/-- What the block puts on its lanes, pins and network: the model's own log of outputs, oldest first. A message of Spar has the lanes on
which it leaves, and of its header END and SEQ (R274); a frame of a Ridge lane (0 RGE, 1 RGW, 2 RGT0, 3 RGT1) its header (Table
RP-7). -/
inductive TxItem where
  | wale (ring : Nat) (endB : Bool) (w : Wale)
  | sync (ring : Nat) (endB : Bool) (f : SyncFrame)
  | heartbeat (ring : Nat) (endB : Bool) (h : Heartbeat)
  | coastFrame (ring : Nat) (pos : Nat) (p : CoastPat)
  | mgmt (slot : Nat) (tag : BitVec 8) (op addr : Nat) (data : List Byte)
  | blockSet (ports : BitVec 48) (copies : Nat) (b : BlockSet)
  | spar (lanes : BitVec 2) (endB : Bool) (seq : BitVec 16) (m : SparMsg)
  | ridge (lane : Nat) (h : RidgeHdr) (m : RidgeMsg)
  | reply (via : EthOut) (sess : Nat) (tag : BitVec 16) (r : Reply)
  | notify (via : EthOut) (sess : Nat) (id : Nat) (r : Reply)
  | alert (via : EthOut) (addr port : Nat) (code : DtlsAlert)
  | ethForward (toE1 : Bool) (frame : HsrFrame)
  | prpSupervision (via : EthOut)
  | pdelayReq (onE1 : Bool)
  | pdelayResp (onE1 : Bool) (turnaround : Int)
  | pdelayRespTwo (onE1 : Bool) (receipt : Int)
  | pdelayRespFup (onE1 : Bool) (departure : Int)
  | ptpFollowUp (onE1 : Bool) (origin : Int)
  | ptpSync (onE1 : Bool) (origin : Int) (twoStep : Bool)
  | ptpAnnounce (onE1 : Bool)
  | nodeResponse (n : Nat) (r : Response)
  | i2cSelect (master addr chans : Nat) (fast : Bool)
  | i2cRead (master addr first count : Nat) (fast : Bool)
  | i2cWrite (master addr reg val : Nat) (fast : Bool)
  | nodeForward (n : Nat) (toB : Bool) (f : NodeFrame)
  | nodeReply (n : Nat) (toB : Bool) (tag : BitVec 8) (status : Nat) (data : List Byte)
  | comparePulse (c pin width : Nat)
  | itemStatus (sess status : Nat)
  deriving DecidableEq, Repr

/-- A record of the event recorder (Table EV-1); `code` is the model's own number of the event within its origin. -/
structure EvRec where
  seq : BitVec 32
  pcc : Nat
  opt : Nat
  lastrep : Nat
  sev : Nat
  circ : Bool
  buffered : Bool
  origin : Nat
  unit : Nat
  code : Nat
  rep : Nat
  /-- REPEAT and LASTREP as the MRAM copy holds them (R335) -/
  repSaved : Nat
  lastSaved : Nat
  devid : Nat
  tick : BitVec 32
  data : Nat
  deriving DecidableEq, Repr

/-- A leg command set in its three forms (Tables SW-6 to SW-8); times in 1/256 ns, a period start relative to the
boundary of the tick in progress. -/
inductive CmdSet where
  | carrier (saw : Bool) (period : Nat) (anchor : Int) (high : Nat)
  | explicit (reqs : List (Int × Nat))
  | psp (period : Nat) (anchor : Int) (phi : Int) (d1 d2 : Nat) (cphi : Int)
  deriving DecidableEq, Repr

/-- A coast set (Table CE-12): period, anchor and entries (offset, REQ). -/
structure CoastSet where
  period : Nat
  anchor : Int
  ents : List (Nat × Nat)
  deriving DecidableEq, Repr

/-- An edge at a time in 1/256 ns relative to the boundary of the tick in progress, with its state and strength; `tr` is the
time of the first edge of its transition (R160). -/
structure TEdge where
  t : Int
  st : EdgeSt
  str : Nat
  tr : Int
  deriving DecidableEq, Repr

/-- A leg's own coast pattern as last derived (R165, R166): its period, a period start, whether a bootstrap refresh replaces a
high switch that stays on, and the entries of one period with their strength codes. -/
structure LegPat where
  period : Nat
  anchor : Int
  refresh : Bool
  ents : List (Nat × EdgeSt × Nat)
  deriving DecidableEq, Repr

/-- The state of a leg between edges: the switch that is on, since when, and when each switch last went off; `bsr` is
the start of the high-on time that R156 measures. -/
structure LegW where
  cur : LegSt
  onAt : Int
  offHigh : Int
  offLow : Int
  bsr : Option Int
  deriving DecidableEq, Repr

/-- An instant so long before the boundary of the tick in progress that no dead time reaches it. -/
def farPast : Int := -1073741824

/-- A leg that is both-off, and has been for long. -/
def LegW.init : LegW := { cur := .off, onAt := farPast, offHigh := farPast, offLow := farPast, bsr := none }

/-- The Weave builder's state for one leg (R144 to R170): committed sets not yet latched (`portLate` landed in the reload
cycle), the set in force, a latched set and its update point, the coast set, the leg's state at the boundary of the
tick in progress, the edges of this tick, of the next and those carried beyond it. `coasting` and `coastNext` say that
the edges of this tick, of the next, replay the coast pattern. The Bool beside `portLate` says that R149 holds the set to a
period start, as `lateStart` does for `port`. -/
structure LegB where
  port : Option CmdSet
  portLate : Option (CmdSet × Bool)
  lateStart : Bool
  inForce : Option CmdSet
  /-- the sets in force before, oldest first, each with the instant at which it ended -/
  past : List (Option CmdSet × Int)
  next : Option (CmdSet × Int)
  coastPort : Option CoastSet
  coastLate : Option CoastSet
  coastSet : Option CoastSet
  w : LegW
  remain : List TEdge
  execd : Nat
  sched : List TEdge
  carried : List TEdge
  sOn : Nat
  sOff : Nat
  status : BitVec 16
  blocked : Bool
  /-- the instant of the first edge with which a leg that a block has left resumes, while its tick lasts (R170) -/
  resumed : Option Int
  reloaded : Bool
  /-- what the port held when the leg's engine released it, until a reload latches it (R22) -/
  held : Option (Option CmdSet × Bool × Option CoastSet)
  coasting : Bool
  coastNext : Bool
  suppOut : Bool
  /-- the state at the boundary of the tick before, and whether that tick replayed the coast pattern -/
  wPrev : LegW
  coasted : Bool
  /-- a Response has shown a coast that the builder did not decide (R156, R164) -/
  learnt : Bool
  /-- the leg's coast pattern as last derived -/
  pat : Option LegPat
  /-- the last request of the leg asks for both switches (R229) -/
  both : Bool
  deriving DecidableEq, Repr

/-- A builder leg at reset: no set, both off. -/
def LegB.init : LegB :=
  { port := none, portLate := none, lateStart := false, inForce := none, past := [], next := none, coastPort := none,
    coastLate := none, coastSet := none, w := LegW.init, remain := [], execd := 0, sched := [], carried := [],
    sOn := 3, sOff := 3, status := 0, blocked := false, resumed := none, reloaded := false, held := none, coasting := false, coastNext := false,
    suppOut := false, wPrev := LegW.init, coasted := false, learnt := false, pat := none, both := false }

/-- A register that a bundle's syllables have written and its value, held until the bundle ends (R177). -/
inductive RegW where
  | d (n : Nat) (v : Word)
  | p (n : Nat) (v : Word)
  | a (n : Nat) (v : Acc)
  | k0 (v : Word)
  | k1 (v : Word)
  | st (v : Word)
  deriving DecidableEq, Repr

/-- A hardware loop (R177): remaining repetitions, first and last bundle. -/
structure LoopSt where
  cnt : Nat
  first : Nat
  last : Nat
  deriving DecidableEq, Repr

/-- What an engine is doing in its tick (R172, R173, R181, R192, R193). -/
inductive RunSt where
  | idle
  | running
  | waiting (mask : Word) (all : Bool)
  | halted
  | missed
  | excepted
  | stopped
  | debug
  deriving DecidableEq, Repr

/-- A notch unit (Table CE-14, R188). -/
structure Notch where
  staged : List (BitVec 16)
  coef : List (BitVec 16)
  loadPend : Bool
  en : Bool
  chain : Bool
  x1 : Int
  x2 : Int
  y1 : Int
  y2 : Int
  y : BitVec 16
  sat : Bool
  deriving DecidableEq, Repr

/-- A notch unit with cleared state and coefficients. -/
def Notch.init : Notch :=
  { staged := [0, 0, 0, 0, 0], coef := [0, 0, 0, 0, 0], loadPend := false, en := false, chain := false,
    x1 := 0, x2 := 0, y1 := 0, y2 := 0, y := 0, sat := false }

/-- A following-error unit (Table CE-15, R189). -/
structure Follow where
  ref : BitVec 16
  fb : BitVec 16
  limit : Nat
  tmax : Nat
  leaky : Bool
  en : Bool
  updated : Bool
  tripped : Bool
  count : Nat
  deriving DecidableEq, Repr

/-- A following-error unit at reset. -/
def Follow.init : Follow :=
  { ref := 0, fb := 0, limit := 32767, tmax := 65535, leaky := false, en := false, updated := false, tripped := false,
    count := 0 }

/-- A transfer channel (R180). -/
structure Xfer where
  csm : Word
  loc : Word
  len : Word
  deriving DecidableEq, Repr

/-- An access of an engine to the CSM that is under way (R179, R180): a transfer of a channel, with its registers as its start found
them, or a posted store of `n` bytes; a SIGNAL or a DONE that waits for the accesses issued before it (R173, R181). -/
inductive CsmOp where
  | xfer (c : Nat) (csm loc len : Word)
  | store (at_ n v : Nat)
  | signal (f : BitVec 16)
  | done
  deriving DecidableEq, Repr

/-- A control engine (Table CE-1 and the I/O window). -/
structure Engine where
  d : Tab Word
  p : Tab Word
  a : Tab Acc
  k0 : Word
  k1 : Word
  lc0 : LoopSt
  lc1 : LoopSt
  rstack : List Nat
  st : Word
  pc : Nat
  run : RunSt
  events : Word
  writes : List RegW
  jump : Option Nat
  waitW : Option (Word × Bool)
  flagW : Option Word
  stickyW : Word
  data : Tab Byte
  bank0 : Tab Byte
  bank1 : Tab Byte
  bankSel : Bool
  swapPend : Bool
  pkg : Option Package
  verified : Bool
  stage : Tab Word
  cmdRefused : Bool
  cmdErrNow : Bool
  first : Bool
  excLast : Bool
  missLast : Bool
  cmdErrLast : Bool
  mirrorOk : Bool
  released : BitVec 7
  notch : Tab Notch
  follow : Tab Follow
  xfer : Tab Xfer
  trace : Tab Word
  /-- the CSM accesses under way, oldest first: they complete in this order (R179); a SIGNAL or DONE that waits stands behind them -/
  csmQ : List CsmOp
  deriving DecidableEq, Repr

/-- Reset value of ST (Table CE-4): FRAC set, RND 0b01. -/
def stReset : Word := 0x9

/-- An engine after reset. -/
def Engine.init : Engine :=
  { d := [], p := [], a := [], k0 := 0, k1 := 0, lc0 := ⟨0, 0, 0⟩, lc1 := ⟨0, 0, 0⟩, rstack := [], st := stReset, pc := 0,
    run := .idle, events := 0, writes := [], jump := none, waitW := none, flagW := none, stickyW := 0, data := [], bank0 := [], bank1 := [],
    bankSel := false, swapPend := false, pkg := none, verified := false, stage := [], cmdRefused := false,
    cmdErrNow := false, first := true, excLast := false, missLast := false, cmdErrLast := false, mirrorOk := false,
    released := 0, notch := [], follow := [], xfer := [], trace := [], csmQ := [] }

/-- An accepted regular record waiting for its target boundary. -/
structure NodePend where
  tick : BitVec 32
  tgt : BitVec 40
  epoch : Nat
  state : Nat
  /-- the node's bit in NEN of the Wale -/
  nen : Bool
  cmd : Nat
  arg : BitVec 16
  edges : List Edge
  deriving DecidableEq, Repr

/-- The outgoing side of a node's two ports: whether its own frame is leaving, and what waits behind it (R67). -/
structure NodeFwd where
  ownA : Bool
  ownB : Bool
  heldA : List NodeFrame
  heldB : List NodeFrame
  deriving DecidableEq, Repr

/-- Nothing leaving and nothing held. -/
def NodeFwd.init : NodeFwd := { ownA := false, ownB := false, heldA := [], heldB := [] }

/-- One leg of a node: driven state, interlock memory and the edges still to execute in the tick. -/
structure NodeLeg where
  st : LegSt
  offHigh : Option (BitVec 40)
  offLow : Option (BitVec 40)
  delayed : Option (BitVec 40 × LegSt)
  edges : List Edge
  /-- edges whose switching time is not reported yet, oldest first: when the measurement completes, and its code (R104) -/
  swts : List (BitVec 40 × Nat)
  strength : Nat
  drvFault : Bool
  execd : Nat
  suppFrom : Option Nat
  coastAt : Option (BitVec 40)
  /-- the step of the last edge, counted from the node's boundary (R100) -/
  lastStep : Option Int
  deriving DecidableEq, Repr

/-- A node leg at power-up. -/
def NodeLeg.init : NodeLeg :=
  { st := .off, offHigh := none, offLow := none, delayed := none, edges := [], swts := [], strength := 0,
    drvFault := false, execd := 0, suppFrom := none, coastAt := none, lastStep := none }

/-- Status and configuration registers of a node (Table NC-3). -/
structure NodeSt where
  cfgDone : Bool
  cntOvf : Bool
  tb0Lock : Bool
  tsrcB : Bool
  patValid : Bool
  mandate : Option Nat
  mandateB : Bool
  holdover : Bool
  osdRun : Bool
  fltcause : BitVec 16
  blkcause : Nat
  bypstat : BitVec 4
  /-- cells whose bypass command has reached its target boundary -/
  bypHeld : BitVec 2
  bsuv : BitVec 8
  legflt : BitVec 8
  intlk : BitVec 8
  dlyA : Nat
  dlyB : Nat
  dlyAPend : Option Nat
  dlyBPend : Option Nat
  coastwin : Nat
  strmem : BitVec 6
  ilkdt : Nat
  ovth0 : Int
  ovth1 : Int
  deriving DecidableEq, Repr

/-- Counters, probe values and mandate words of a node (Table NC-3). -/
structure NodeCnt where
  prbI : Nat
  prbFab : Nat
  prbFba : Nat
  prbTick : BitVec 32
  prbPend : Option (BitVec 40 × Nat × BitVec 32)
  rxerr : Nat
  late : Nat
  suprej : Nat
  blkinv : Nat
  coastedCnt : Nat
  tberr : Nat
  epochSeen : Nat
  wseq : BitVec 16
  wseqEpoch : Option Nat
  nenPend : Option (BitVec 32 × Bool × Nat)
  nenLow : Option (BitVec 32)
  deriving DecidableEq, Repr

/-- The schedule of a node: its boundaries, accepted record and coast pattern. -/
structure NodeSched where
  boundary : Option (BitVec 40)
  tick : BitVec 32
  tper : Nat
  pend : Option NodePend
  pendBoundary : Option (BitVec 32 × BitVec 40)
  gotRegular : Bool
  pat : CoastPat
  patNext : Option CoastPat
  coastT0 : Option (BitVec 40)
  /-- the tick in progress has been coasted, or a part of it; the one before was (R107) -/
  coastNow : Bool
  coastedPrev : Bool
  rxErrSince : Bool
  suppEdges : Bool
  suppPrev : Bool
  blockTicks : Nat
  cmdNow : Nat
  argNow : BitVec 16
  /-- a fault cause has set since the boundary -/
  faultNow : Bool
  deriving DecidableEq, Repr

/-- Measurements, Sync tracking and Management replies of a node. -/
structure NodeRep where
  osdLegs : BitVec 8
  osd : BitVec 16
  osdValid : Bool
  meas : List Int
  tj : List Int
  syncGood : Nat
  syncBad : Nat
  missA : Nat
  missB : Nat
  gotA : Bool
  gotB : Bool
  /-- TB0 less the node's local clock (R89) -/
  tbOff : BitVec 40
  fwd : NodeFwd
  mgmtReply : Option (Bool × BitVec 8 × Nat × List Byte)
  mgmtLast : Option (Bool × BitVec 8 × Nat × List Byte)
  deriving DecidableEq, Repr

/-- A node (chapter "The node contract"). -/
structure Node where
  powered : Bool
  ident : Option NodeIdent
  ns : NodeState
  nr : NodeSt
  nc : NodeCnt
  nx : NodeSched
  np : NodeRep
  legs : Tab NodeLeg
  deriving DecidableEq, Repr

/-- A node before power-up, at the reset values of Table NC-3. -/
def Node.init : Node :=
  { powered := false, ident := none, ns := .off,
    nr :=
    { cfgDone := false, cntOvf := false, tb0Lock := false, tsrcB := false, patValid := false,
      mandate := none, mandateB := false, holdover := false, osdRun := false, fltcause := 0, blkcause := 0, bypstat := 0, bypHeld := 0,
      bsuv := 0, legflt := 0, intlk := 0, dlyA := 0, dlyB := 0, dlyAPend := none, dlyBPend := none,
      coastwin := 2000, strmem := 0, ilkdt := 100, ovth0 := 32767, ovth1 := 32767 },
    nc :=
    { prbI := 0, prbFab := 0, prbFba := 0, prbTick := 0, prbPend := none, rxerr := 0, late := 0,
      suprej := 0, blkinv := 0, coastedCnt := 0, tberr := 0, epochSeen := 0, wseq := 0, wseqEpoch := none,
      nenPend := none, nenLow := none },
    nx :=
    { boundary := none, tick := 0, tper := 10000, pend := none, pendBoundary := none,
      gotRegular := false, pat := CoastPat.empty, patNext := none, coastT0 := none, coastNow := false, coastedPrev := false,
      rxErrSince := false, suppEdges := false, suppPrev := false, blockTicks := 0, cmdNow := 0, argNow := 0,
      faultNow := false },
    np :=
    { osdLegs := 0, osd := 0, osdValid := false, meas := [], tj := [], syncGood := 0, syncBad := 0,
      missA := 0, missB := 0, gotA := false, gotB := false, tbOff := 0,
      fwd := NodeFwd.init, mgmtReply := none, mgmtLast := none },
    legs := [] }

/-- A Management request the device has outstanding (R65). -/
structure MgmtReq where
  tag : BitVec 8
  op : Nat
  addr : Nat
  data : List Byte
  resends : Nat
  deriving DecidableEq, Repr

/-- What the device holds of a node, by slot: the CSM slot status, the last valid Response, identity and bring-up. -/
structure SlotSt where
  resp : Option Response
  got : Bool
  gotFailed : Bool
  stale : Bool
  recovered : Bool
  fromPartner : Bool
  sampleTick : BitVec 16
  ident : Option NodeIdent
  step : Nat
  req : Option MgmtReq
  todo : List MgmtReq
  tag : BitVec 8
  nen : Bool
  nenToggle : Nat
  pat : CoastPat
  patSent : Option CoastPat
  patTick : BitVec 32
  patEver : Bool
  pver : Nat
  rewrite : Bool
  /-- COASTWIN, OVTH0 and OVTH1 as the device last wrote them to the node (R248) -/
  limSent : Nat × Nat × Nat
  bypRead : BitVec 4
  /-- valid junction temperatures with their ticks, newest first, back to one at least 1 ms old (R387) -/
  tjHist : List (BitVec 32 × List Int)
  /-- a record for the next tick has left in this one; one for this tick left in the last -/
  waleOut : Bool
  fresh : Bool
  /-- an off-state test command of this prepare has left -/
  osdSent : Bool
  /-- NEN as the regular Wales of the slot's ring have carried it: 1 after a 0, 2 once a 1 has left after that (R85) -/
  nenLeft : Nat
  /-- a NEN toggle is complete and no Response has come since (R146) -/
  nenDone : Bool
  deriving DecidableEq, Repr

/-- A slot after reset: nothing received, nothing sent. -/
def SlotSt.init : SlotSt :=
  { resp := none, got := false, gotFailed := false, stale := false, recovered := false, fromPartner := false,
    sampleTick := 0, ident := none, step := 0, req := none, todo := [], tag := 0, nen := false, nenToggle := 0,
    pat := CoastPat.empty, patSent := none, patTick := 0, patEver := false, pver := 0, rewrite := false, limSent := (0, 0, 0), bypRead := 0, tjHist := [],
    waleOut := false, fresh := false, osdSent := false, nenLeft := 0, nenDone := false }

/-- The delays of a ring that probe pairs measure (R69), in 1/256 ns: the end-to-end transits, and per position the delay
from each end to the node's ingress and from the node's egress to each end. -/
structure ProbeSet where
  n : Nat
  dAB : Int
  dBA : Int
  fromA : List Int
  fromB : List Int
  toA : List Int
  toB : List Int
  deriving DecidableEq, Repr

/-- No probe pair made. -/
def ProbeSet.init : ProbeSet := { n := 0, dAB := 0, dBA := 0, fromA := [], fromB := [], toA := [], toB := [] }

/-- A Dollin ring as the device keeps it (R58, R75 to R78, R163). -/
structure RingSt where
  seq : BitVec 16
  /-- the causes of a break that hold, each with its ticks in a row, and the longest of them (R75) -/
  badRun : List (Nat × Nat)
  badTicks : Nat
  bridged : Bool
  bridgeLane1 : Bool
  goodTicks : Nat
  goodNow : Bool
  supp : List NodeRec
  /-- edges that supplementary Wales of this tick have carried (R72) -/
  suppEdges : Nat
  lastWale : Option Wale
  /-- the last Wale has been sent a second time (R59) -/
  resent : Bool
  /-- the sums of the probe pairs made since the last prepare, and the delays that the first 16 of them gave -/
  psum : ProbeSet
  pref : ProbeSet
  /-- a node has regained lock on a port since: the next probe pair measures the ring's delays again (R66) -/
  remeasure : Bool
  probeNow : Bool
  /-- tick in which the last bridged portion came from the partner (R76) -/
  portionAt : Option (BitVec 32)
  blockSeen : BitVec 2
  hbTick : BitVec 2
  hbPrev : BitVec 2
  deriving DecidableEq, Repr

/-- A ring after reset. -/
def RingSt.init : RingSt :=
  { seq := 0, badRun := [], badTicks := 0, bridged := false, bridgeLane1 := false, goodTicks := 0, goodNow := false, supp := [],
    suppEdges := 0, lastWale := none, resent := false, psum := ProbeSet.init, pref := ProbeSet.init, remeasure := false,
    probeNow := false, portionAt := none, blockSeen := 0, hbTick := 0, hbPrev := 0 }

/-- A string's services: Sorter, allocator, availability and hand-over (R202 to R220). -/
structure StringSt where
  setF : BitVec 96
  nForce : Nat
  dir : Bool
  swaps : Nat
  swapcap : Bool
  nclamp : Bool
  nclampPrev : Bool
  rdy : Bool
  req : Option (Nat × Bool)
  sortValid : Bool
  sortLate : Bool
  sortLatePrev : Bool
  sortTick : BitVec 16
  keysRanked : Nat
  order : List Nat
  keys : Tab Nat
  /-- the effective keys as the engines of the tick found them at t_start, where the Sorter had not finished by then (R207) -/
  lateKeys : Option (Tab Nat)
  /-- at t_dl the request or the ranks were missing: no allocation in this tick (R211) -/
  allocOff : Bool
  /-- the bits of the bypass map that the pending write clears (R214) -/
  bypClr : BitVec 96
  /-- bypass bits decided since the last boundary (R214) -/
  bypNow : BitVec 96
  avail : BitVec 96
  availPrev : BitVec 96
  staleMap : BitVec 96
  mirrored : Bool
  coastT0 : Option (BitVec 40)
  releasedNow : Bool
  sf2 : BitVec 96
  margin : Bool
  belowMin : Bool
  /-- cell transitions since `transFrom`, an operating time -/
  trans : Nat
  transFrom : Nat
  deriving DecidableEq, Repr

/-- A string after reset. -/
def StringSt.init : StringSt :=
  { setF := 0, nForce := 0, dir := false, swaps := 0, swapcap := false, nclamp := false, nclampPrev := false,
    rdy := false, req := none, sortValid := false, sortLate := false, sortLatePrev := false, sortTick := 0,
    keysRanked := 0, order := [], keys := [], lateKeys := none, allocOff := false, bypClr := 0, bypNow := 0, avail := 0, availPrev := 0, staleMap := 0, mirrored := false,
    coastT0 := none, releasedNow := false, sf2 := 0, margin := false, belowMin := false, trans := 0, transFrom := 0 }

/-- A cell's dynamic state (R204, R213, R215) and observer window. -/
structure CellSt where
  staleCnt : Nat
  key : Nat
  bypConf : Bool
  bypFail : Bool
  bypTarget : Option (BitVec 32)
  sf2 : Bool
  noBypRaised : Bool
  /-- the tick from which the observers' window runs (R223) -/
  obsFrom : BitVec 32
  deriving DecidableEq, Repr

/-- A cell after reset. -/
def CellSt.init : CellSt :=
  { staleCnt := 0, key := 0, bypConf := false, bypFail := false, bypTarget := none, sf2 := false, noBypRaised := false, obsFrom := 0 }

/-- A local leg at the output stage (R224 to R230): gate causes, pin states and interlock memory. -/
structure LocalLeg where
  pinH : Bool
  pinL : Bool
  gTrip : Bool
  gComp : Bool
  gDrven : Bool
  gFlt : Bool
  gReset : Bool
  gDebug : Bool
  gBlock : Bool
  gString : Bool
  fallH : Option (BitVec 40)
  fallL : Option (BitVec 40)
  heldH : Bool
  heldL : Bool
  deriving DecidableEq, Repr

/-- A local leg after reset: gated by the reset and by its DRVEN input's pull-down, both pins low. -/
def LocalLeg.init : LocalLeg :=
  { pinH := false, pinL := false, gTrip := false, gComp := false, gDrven := true, gFlt := false, gReset := true,
    gDebug := false, gBlock := false, gString := false, fallH := none, fallL := none, heldH := false, heldL := false }

/-- What happened to an input of the analogue front end since the last boundary (R239). -/
structure AinSt where
  latest : Option Int
  latestAt : BitVec 40
  sum : Int
  cnt : Nat
  deriving DecidableEq, Repr

/-- An input with no valid result. -/
def AinSt.init : AinSt := { latest := none, latestAt := 0, sum := 0, cnt := 0 }

/-- A converter pair (R240, R241): `rounds` is the grid instant at which its round began, in 100 ns from the last boundary, negative
for a round begun before it; `arbWait` a round that passes before arbitration, an aborted calibration's. -/
structure PairSt where
  dis : Nat
  arb : Bool
  arbWait : Bool
  arb0 : Nat
  arb1 : Nat
  invalid : Bool
  rounds : Int
  deriving DecidableEq, Repr

/-- A pair that has converted nothing. -/
def PairSt.init : PairSt := { dis := 0, arb := false, arbWait := false, arb0 := 0, arb1 := 0, invalid := false, rounds := 0 }

/-- Where the calibration rotation stands (R242): idle; the spare converts in step; the slice is out, under calibration; the slice
converts in step again. -/
inductive CalPhase where
  | idle
  | stepIn
  | out
  | stepBack
  deriving DecidableEq, Repr

/-- The calibration rotation: the next slice, the slice whose turn it is, and where its turn stands. -/
structure CalSt where
  next : Nat
  slice : Nat
  phase : CalPhase
  deriving DecidableEq, Repr

/-- One pending boundary write (RWB or RWS shadow), in order of acceptance. -/
structure Shadow where
  val : Nat
  seq : Nat
  deriving DecidableEq, Repr

/-- A yelm (R321 to R323): its owner, scope, writes and, once committed, its target and acceptance number. -/
structure Yelm where
  id : Nat
  sess : Nat
  /-- the serial of its owner's certificate -/
  serial : Nat
  roles : BitVec 8
  scope : Scope
  items : List WItem
  target : BitVec 32
  seq : Nat
  alive : Bool
  deriving DecidableEq, Repr

/-- A subscription (R325). -/
structure Subscr where
  num : Nat
  period : Nat
  items : List RItem
  next : BitVec 32
  /-- the values of a notification that has not gone yet, with the tick of the boundary they were taken at -/
  held : Option (BitVec 32 × List ItemRes)
  deriving DecidableEq, Repr

/-- A FILE transfer (R327). -/
structure FileX where
  id : Nat
  toDevice : Bool
  size : Nat
  segs : Tab (List Byte)
  hdr : Option ImgHdr
  shot : List Byte
  deriving DecidableEq, Repr

/-- A ZOA session, own (0 to 7) or proxied (8 to 39). -/
structure Session where
  isOpen : Bool
  addr : Nat
  port : Nat
  onEs : Bool
  roles : BitVec 8
  serial : Nat
  lockC : Bool
  lockS : BitVec 6
  yelm : Option Yelm
  subs : List Subscr
  file : Option FileX
  replies : List (BitVec 16 × Reply)
  entry : Nat
  stag : BitVec 16
  waiting : List (BitVec 16)
  /-- the devices that a proxied request of the session has gone to -/
  targets : List Nat
  deriving DecidableEq, Repr

/-- A free session. -/
def Session.init : Session :=
  { isOpen := false, addr := 0, port := 0, onEs := false, roles := 0, serial := 0, lockC := false, lockS := 0,
    yelm := none, subs := [], file := none, replies := [], entry := 0, stag := 0, waiting := [], targets := [] }

/-- A forward of the pair that waits for its acknowledgement (R277). -/
structure Fwd where
  fseq : BitVec 32
  item : SparMsg
  /-- the tick in which it was last sent -/
  sentAt : BitVec 32
  deriving DecidableEq, Repr

/-- A transition accepted and waiting for its boundary (R23, R31). `kind` is the requested state code; 0x80 a TB0 step
by `arg` ns, 0x81 a switch-over, 0x82 a bank swap of engine `arg`, 0x83 a block by the group or a forward, 0x84 power off,
0x85 COMMISSION or BLOCKED judged anew. -/
structure Due where
  kind : Nat
  at_ : BitVec 32
  arg : Int
  deriving DecidableEq, Repr

/-- A segment of a configuration forward that waits for the others of it: the FSEQ of its first segment, its number, whether it is the
last, its content (R277). -/
structure CfgPart where
  first : BitVec 32
  segno : Nat
  last : Bool
  content : List Byte
  deriving DecidableEq, Repr

/-- What a configuration forward brings (Table RP-12, KIND 0x68). -/
inductive CfgJob where
  | items (l : List WItem)
  | package (e : Nat) (p : Package)
  | bank (e : Nat) (content : List Byte)
  deriving DecidableEq, Repr

/-- A configuration forward taken by a STANDBY, waiting for its boundary (R289). -/
structure CfgDue where
  at_ : BitVec 32
  seq : Nat
  job : CfgJob
  deriving DecidableEq, Repr

/-- A digest held of a group member, with the ticks since it last arrived (R294). -/
structure Member where
  dig : Option Digest
  absent : Nat
  got : Bool
  lastBlkCtr : Nat
  lastPrxCtr : Nat
  lastGb : Option (BitVec 8)
  lastSb : Option (BitVec 8)
  deriving DecidableEq, Repr

/-- A member never heard of. -/
def Member.init : Member :=
  { dig := none, absent := 0, got := false, lastBlkCtr := 0, lastPrxCtr := 0, lastGb := none, lastSb := none }

/-- A record of the trace buffer (Table CE-17). -/
structure TraceRec where
  tick : BitVec 32
  tb0 : BitVec 40
  state : Nat
  incomplete : Bool
  missed : Bool
  trigger : Bool
  chans : List Word
  caps : List Byte
  deriving DecidableEq, Repr

/-- A firmware slot (Table FW-4). -/
structure FwSlot where
  status : Nat
  hdr : Option ImgHdr
  /-- its payload, encrypted (R349) -/
  payload : List Byte
  deriving DecidableEq, Repr

/-- An empty slot. -/
def FwSlot.empty : FwSlot := { status := 0, hdr := none, payload := [] }

/-- A copy of the boot record: the slot it names, and its CRC-32C (R363). -/
structure BootCopy where
  slotB : Bool
  crc : Nat
  deriving DecidableEq, Repr

/-- The CRC-32C of a boot record: over one byte for its slot, a layout of the model's own (log entry 193). -/
def bootCrc (slotB : Bool) : Nat := crc32c [if slotB then 1 else 0]

/-- A copy of a store in MRAM: its format version, the number of its writing, the confirmation that the safety parameter store keeps with
its set, the entries, and its CRC-32C (R258, R306, R356). -/
structure StoreCopy where
  fmt : Nat
  seq : Nat
  conf : Nat
  ents : Tab Nat
  crc : Nat
  deriving DecidableEq, Repr

/-- A copy as it is written whole. -/
def StoreCopy.of (fmt seq conf : Nat) (ents : Tab Nat) : StoreCopy :=
  { fmt := fmt, seq := seq, conf := conf, ents := ents, crc := storeCrc fmt seq conf ents }

/-- The levels of the control and supply pins (Table PK-8). -/
structure Pins where
  resetN : Bool
  trip : BitVec 8
  drven : BitVec 4
  flt : BitVec 12
  partnerActive : Bool
  pgoodMain : Bool
  pgoodBkup : Bool
  pselMain : Bool
  pselBkup : Bool
  bkchgEn : Bool
  rstoutN : Bool
  safeN : Bool
  faultN : Bool
  active : Bool
  gpio : BitVec 16
  deriving DecidableEq, Repr

/-- Reset state of the pins (Table PK-8), with the inputs at the levels their pulls give. -/
def Pins.init : Pins :=
  { resetN := true, trip := 0, drven := 0, flt := 0, partnerActive := false, pgoodMain := true, pgoodBkup := true,
    pselMain := true, pselBkup := false, bkchgEn := false, rstoutN := false, safeN := false, faultN := false,
    active := false, gpio := 0 }

/-- A time base beyond its registers (R113 to R120). -/
structure TbSt where
  acc : TbAcc
  stepPend : Int
  epoch : Nat
  last : Nat
  deriving DecidableEq, Repr

/-- A time base at zero. -/
def TbSt.init : TbSt := { acc := 0, stepPend := 0, epoch := 0, last := 0 }

/-- Straps, pins, device state and the transitions that wait for a boundary. -/
structure Sys where
  straps : Straps
  pins : Pins
  intReset : Bool
  dev : DevState
  role : Role
  due : List Due
  cfgDue : List CfgDue
  preparing : Bool
  booted : Bool
  imgStarted : Bool
  bistOk : Bool
  /-- boundaries since RESET_N went low (R382) -/
  resetLow : Nat
  deriving DecidableEq, Repr

/-- The register file of the object dictionary. -/
structure Regs where
  od : Tab Nat
  shadow : Tab (Option Shadow)
  ctrOvf : Tab Bool
  accSeq : Nat
  deriving DecidableEq, Repr

/-- The tick, the time bases and the clock sources. -/
structure Clk where
  tick : BitVec 32
  bnd : BitVec 40
  /-- by how much TB0 stepped at the last boundary, in 1/256 ns (R117, R236) -/
  moved : Int
  phase : Nat
  challenge : BitVec 32
  challenged : Bool
  /-- t_gather of the tick has passed (R60), t_dl has (R211) -/
  gathered : Bool
  deadline : Bool
  tb : Tab TbSt
  cmpTgt : Tab (Option Int)
  cmpArmed : Tab Bool
  gateOpen : Tab Bool
  adpllLoss : Bool
  ptpSyncs : Nat
  ptpChanging : Bool
  /-- the master in use: its priorities and identity (BMCA) -/
  ptpBest : Option PtpDs
  /-- no Announce has come within the receipt timeout (R130) -/
  noMaster : Bool
  /-- corrected stamps of the last Pdelay_Req sent on a port (R128) -/
  ptpReqAt : Tab (Option PtpStamp)
  /-- residence of the two-step Sync last forwarded from a port, in 2^-16 ns (R129) -/
  hsrRes : Tab Int
  /-- operating time since which the ADPLL (0) and the fall-back (1) have held lock and reference (R141) -/
  srcSince : Tab (Option Nat)
  ptpTwoStep : Option PtpStamp
  deriving DecidableEq, Repr

/-- The field side: rings, nodes, legs, strings and cells, the analogue front end. -/
structure Fld where
  /-- ports whose module reports a TX fault, ports whose module is in soft TX disable, channels selected at the I2C switches: master m,
  address 0x70 at 2m, 0x71 at 2m+1 (R48, R79, R80) -/
  txFault : BitVec 48
  /-- ports whose module has not acknowledged once: the next poll is its retry (Table SF-12) -/
  modRetry : BitVec 48
  modDark : BitVec 48
  i2cSel : Tab Nat
  rings : Tab RingSt
  slots : Tab SlotSt
  nodes : Tab Node
  legs : Tab LegB
  /-- legs as they stood before a release whose supplementary Wale has not left (R163) -/
  priors : Tab LegB
  locals : Tab LocalLeg
  localPat : CoastPat
  localCoastT0 : Option (BitVec 40)
  /-- delays that transmitters and pins are corrected for, in ps relative to those of BIST, and those found to have drifted from them, taken at
  the next boundary: a transmitter by its lane, a pin of local leg n at 64 + 2n or 65 + 2n (R123, R226, Table EV-5) -/
  delayCal : Tab Int
  delayNext : Tab (Option Int)
  localReleased : Bool
  strings : Tab StringSt
  cells : Tab CellSt
  ain : Tab AinSt
  /-- the inputs' results of the interval that the last boundary ended (R239) -/
  ainPrev : Tab AinSt
  pairs : Tab PairSt
  cal : CalSt
  /-- the offset and gain of each slice's last calibration (R238, R242) -/
  slices : Tab (Option (Int × Int))
  deriving DecidableEq, Repr

/-- The control engines, the CSM and the trace buffer. -/
structure Cpu where
  engines : Tab Engine
  csm : Tab Byte
  /-- transfers in progress at the slot arbiter, the oldest first: the requester and its beats to come (R38) -/
  csmHold : List (Requester × Nat)
  trace : List TraceRec
  tracePost : Option Nat
  traceTrigNow : Bool
  deriving DecidableEq, Repr

/-- The fault collector, the block injector and the safety set. -/
structure Saf where
  /-- blocks whose ordered set is repeated at every boundary (R62) -/
  blocks : List BlockSet
  /-- own causes present, per class (Table SF-10 reads them with the force bits) -/
  cause : Tab Nat
  safeClasses : BitVec 16
  compActive : BitVec 8
  prevSticky : Tab (BitVec 16)
  newOcc : BitVec 16
  nearMiss : Tab Nat
  thrFail : BitVec 8
  lockstepWait : Bool
  clkBad : Bool
  railBad : Bool
  wcBad : Bool
  /-- words of the memories of Table SF-4 that read uncorrectable: memory and word -/
  eccBad : List (EccMem × Nat)
  cycBad : Bool
  /-- detections of Table SF-4 made in BOOT, by the CAUSE they carry, and sources found there: they enter at its end (R254, R262) -/
  bootSf5 : BitVec 16
  bootOcc : List Nat
  /-- the two copies of the safety parameter store (R257, R258) -/
  copy1 : StoreCopy
  copy2 : StoreCopy
  /-- a save of the safety parameter store waits for MRAM (R389) -/
  safWait : Bool
  /-- an accepted confirmation that has not applied: the serial of its writer's certificate (R257) -/
  confBy : Option Nat
  deriving DecidableEq, Repr

/-- The redundant pair. -/
structure Pair where
  /-- lane state of SPL0, SPL1, RGE, RGW, RGT0 and RGT1 (lanes 48 to 53), with the bits of Table DL-3 -/
  laneSt : Tab Nat
  sparRx : BitVec 2
  /-- the lanes whose heartbeat of the tick has come by t_hb + 0.3 µs (R278) -/
  sparInTime : BitVec 2
  /-- own departures of Spar heartbeats: 0 of this tick, 1 of the tick before -/
  sparPrevOwn : Tab (BitVec 40)
  sparPrevArr : Tab (Option (BitVec 40))
  sparPrevDep : Tab (BitVec 40)
  /-- lanes on which a message of the tick has failed its check and none has passed since (Table SF-12) -/
  sparBad : BitVec 2
  sparOff : Tab (Option Int)
  partner : Option SparHb
  partnerSeen : Bool
  ringHbSeen : BitVec 48
  /-- a Heartbeat with ROLE ACTIVE has been heard in the tick (R273) -/
  activeSeen : Bool
  hbMissed : Nat
  noActive : Nat
  failed : Bool
  maxEpoch : Nat
  /-- TB0 has taken the step of the first alignment since the device became STANDBY (R121) -/
  tb0Stepped : Bool
  alignGood : Nat
  alignBad : Nat
  chkBad : Nat
  /-- the coast window was too short for the pair at the last prepare (R281) -/
  prepBad : Bool
  /-- tick of the boundary at which the last prepare began (R31) -/
  prepTick : BitVec 32
  /-- mirror frames that wait for the next start: tick of capture and content, by part (Table RP-5) -/
  mirrorNext : Tab (Option (BitVec 32 × List Byte))
  svcDerated : BitVec 6
  fwds : List Fwd
  fseq : BitVec 32
  fseqSeen : List (BitVec 32)
  /-- segments of configuration forwards that are not whole yet (R277) -/
  cfgIn : List CfgPart
  partnerPause : Bool
  /-- HFLAGS[0]: hand-over requested (R266, R282) -/
  handover : Bool
  /-- PARTNER_ACTIVE has risen while this device was ACTIVE, the input in use (R284) -/
  demote : Bool
  deriving DecidableEq, Repr

/-- The controller group. -/
structure Grp where
  members : Tab Member
  leader : Nat
  leaderNext : Nat
  boottag : BitVec 16
  dupTicks : Nat
  /-- the digests last sent, newest first (R298) -/
  sent : List Digest
  /-- UNSYNC at the last boundary (R125) -/
  unsyncThen : Bool
  unsyncGood : Nat
  tb1Hops : Nat
  /-- tick of the time message last used (R124) -/
  tb1At : Option (BitVec 32)
  /-- tick in which the system's reference was last heard from another group (R124) -/
  refAt : Option (BitVec 32)
  linkDelay : Tab Int
  gbseq : BitVec 8
  ctrFrame : Nat
  /-- sealed frames whose tag failed, and the operating time of the last record of one (R347) -/
  sealFails : Nat
  sealRecAt : Option Nat
  /-- frames that failed a check, by lane: 0 RGE, 1 RGW, 2 RGT0, 3 RGT1 (R292) -/
  laneFails : Tab Nat
  /-- trunk summaries last received, by group: leader, highest state, highest ladder level, members (Table RP-13) -/
  summaries : Tab (List Nat)
  deriving DecidableEq, Repr

/-- A redundant frame received of late: whose it is, its number, the ports on which it came, the operating time of the first in µs, and
whether it is for the device (R308). -/
structure RedSeen where
  src : Nat
  seq : BitVec 16
  e0 : Bool
  e1 : Bool
  at_ : Nat
  mine : Bool
  deriving DecidableEq, Repr

/-- Sessions, yelms and the network ports. -/
structure Net where
  sessions : Tab Session
  yelms : List Yelm
  yelmNext : Nat
  netPend : Bool
  /-- the sequence number of the next PRP trailer or HSR tag -/
  redSeq : BitVec 16
  /-- the redundant frames received of late (R308) -/
  redSeen : List RedSeen
  deriving DecidableEq, Repr

/-- The event recorder and the persistent stores. -/
structure Rec where
  keepFirst : List EvRec
  circ : List EvRec
  ramBuf : List EvRec
  evSeq : BitVec 32
  pcc : Nat
  opTime : Nat
  aonSaved : Nat × Nat
  /-- the two copies of the dictionary's persistent store (R306) -/
  copy1 : StoreCopy
  copy2 : StoreCopy
  /-- the unit that a save pass is writing, and whether copy 2 is the one in progress -/
  saving : Option (StoreCopy × Bool)
  storeWait : Bool
  /-- a save of the rainflow bins is due (R222) -/
  rainDue : Bool
  deriving DecidableEq, Repr

/-- Firmware slots, activation, lifecycle and debug. -/
structure Fw where
  slotA : FwSlot
  slotB : FwSlot
  runB : Bool
  pause : Bool
  loading : Bool
  confirming : Bool
  /-- the staged image is loaded and waits for its pause (R352) -/
  loaded : Bool
  /-- the pause in progress is that of a fallback (R361) -/
  fbPause : Bool
  /-- a fallback starts at the next boundary, from SAFE (R355) -/
  fbDue : Bool
  /-- a protection has called for SAFE in the pause (R353) -/
  pauseSafe : Bool
  lanesAtPause : BitVec 54
  confirmed : Bool
  /-- the anti-rollback value whose programming waits for the temperature (R345) -/
  arbWait : Option Nat
  fwFallback : Bool
  lifecycle : Nat
  /-- the group key in use, and the pending one (R347) -/
  groupKey : Option Nat
  groupKeyNext : Option Nat
  /-- is the device identity key there (Table FW-1)? -/
  idKey : Bool
  /-- the two copies of the boot record (R363) -/
  boot1 : BootCopy
  boot2 : BootCopy
  /-- the ROM has tried the slots in this boot and started none (R364) -/
  romDone : Bool
  /-- the challenge in progress is that of B(r), or the one 5 ms after B(a) (R355) -/
  challPause : Bool
  debugOpen : Bool
  debugPerm : BitVec 3
  debugSince : Bool
  certCfg : Bool
  /-- tick of B(a) of the last activation pause -/
  pauseTick : BitVec 32
  /-- operating time at the B(r) from which the confirm window counts -/
  confirmFrom : Nat
  /-- was the device in RUN or COAST at B(a) (Table FW-8)? -/
  wasRun : Bool
  /-- ticks since B(r) that count for CONTROL -/
  ctrlGood : Nat
  /-- challenges answered in a row since B(r) -/
  challGood : Nat
  /-- has a class reached L3 since B(r) through a source without an occurrence before B(a)? -/
  newL3 : Bool
  /-- the sources with an occurrence before B(a) -/
  occBefore : List Nat
  deriving DecidableEq, Repr

/-- Reset, watchdog, supplies and thermal levels. -/
structure Pw where
  bootCause : Nat
  bootRecs : List EvRec
  wdPending : Bool
  thWarn : Nat
  thDerate : Nat
  thShut : Nat
  thRel : Nat
  /-- die temperatures of the last second, newest first (R387) -/
  dieHist : List Int
  /-- domains PD3 to PD6 that are on: engines 0 to 7 and 8 to 15, ports 0 to 23 and 24 to 47 (Table CM-3, R370) -/
  domains : BitVec 4
  /-- readings until RISE clears -/
  riseLeft : Nat
  thermalOff : Bool
  aonB : Bool
  /-- operating time at which the device last went on backup -/
  backupFrom : Nat
  /-- operating time at which RESET_N last fell (R328) -/
  lowFrom : Nat
  deriving DecidableEq, Repr

/-- The state of the block: the queue of waiting commands, the model's own counter of free values and log of outputs
(oldest first), and the machine. -/
structure State where
  pending : List Instr
  fresh : Nat
  tx : List TxItem
  sys : Sys
  reg : Regs
  clk : Clk
  fld : Fld
  cpu : Cpu
  saf : Saf
  pair : Pair
  grp : Grp
  net : Net
  evr : Rec
  fw : Fw
  pw : Pw
  deriving DecidableEq, Repr

/-- Straps all low: DEVID 0, PAIRSEL A, BOOTSEL low (the pull-downs of Table PK-8). -/
def Straps.init : Straps := { devid := 0, pairselB := false, bootsel := false }

/-- Straps, pins and device state at reset: BOOT, role SOLO until BOOT ends. -/
def Sys.init : Sys :=
  { straps := Straps.init, pins := Pins.init, intReset := false, dev := .boot, role := .solo, due := [], cfgDue := [],
    preparing := false, booted := false, imgStarted := false, bistOk := false, resetLow := 0 }

/-- The register file at reset: every entry at the default of its table, no shadow, no overflow. -/
def Regs.init : Regs := { od := [], shadow := [], ctrOvf := [], accSeq := 0 }

/-- The clocks at reset: every time base at zero, no channel armed, output gates open by their default. -/
def Clk.init : Clk :=
  { tick := 0, bnd := 0, moved := 0, phase := 0, challenge := 0, challenged := false, gathered := false, deadline := false, tb := [], cmpTgt := [],
    cmpArmed := [], gateOpen := [], adpllLoss := false, ptpSyncs := 0, ptpChanging := false,
    ptpBest := none, noMaster := true, ptpReqAt := [], hsrRes := [], srcSince := [], ptpTwoStep := none }

/-- The field side at reset. -/
def Fld.init : Fld :=
  { txFault := 0, modRetry := 0, modDark := BitVec.allOnes 48, i2cSel := [], rings := [], slots := [], nodes := [], legs := [], priors := [], locals := [], localPat := CoastPat.empty, localCoastT0 := none, delayCal := [], delayNext := [],
    localReleased := false, strings := [], cells := [], ain := [], ainPrev := [], pairs := [], cal := { next := 0, slice := 0, phase := .idle },
    slices := [] }

/-- The engines at reset. -/
def Cpu.init : Cpu :=
  { engines := [], csm := [], csmHold := [], trace := [], tracePost := none, traceTrigNow := false }

/-- The safety set at reset: no cause present, the safety store unconfirmed. -/
def Saf.init : Saf :=
  { blocks := [], cause := [], safeClasses := 0, compActive := 0, prevSticky := [], newOcc := 0, nearMiss := [],
    thrFail := 0, lockstepWait := false, clkBad := false, railBad := false, wcBad := false,
    eccBad := [], cycBad := false, bootSf5 := 0, bootOcc := [], copy1 := StoreCopy.of 0 0 0 [],
    copy2 := StoreCopy.of 0 0 0 [], safWait := false, confBy := none }

/-- The pair at reset: no partner seen. -/
def Pair.init : Pair :=
  { laneSt := [], sparRx := 0, sparInTime := 0, sparPrevOwn := [], sparPrevArr := [], sparPrevDep := [], sparBad := 0, sparOff := [], partner := none, partnerSeen := false,
    ringHbSeen := 0, activeSeen := false, hbMissed := 0, noActive := 0, failed := false, maxEpoch := 0, tb0Stepped := false, alignGood := 0,
    alignBad := 0, chkBad := 0, prepBad := false, prepTick := 0, mirrorNext := [], svcDerated := 0, fwds := [], fseq := 0, cfgIn := [], fseqSeen := [],
    partnerPause := false, handover := false, demote := false }

/-- The group at reset. -/
def Grp.init : Grp :=
  { members := [], leader := 0, leaderNext := 0, boottag := 0, dupTicks := 0, sent := [], unsyncThen := false, unsyncGood := 0, tb1Hops := 0, tb1At := none, refAt := none,
    linkDelay := [], gbseq := 0, ctrFrame := 0, sealFails := 0, sealRecAt := none, laneFails := [], summaries := [] }

/-- Sessions and network at reset: every session free. -/
def Net.init : Net := { sessions := [], yelms := [], yelmNext := 0, netPend := false, redSeq := 0, redSeen := [] }

/-- Recorder and stores as a new part holds them. -/
def Rec.init : Rec :=
  { keepFirst := [], circ := [], ramBuf := [], evSeq := 0, pcc := 0, opTime := 0, aonSaved := (0, 0),
    copy1 := StoreCopy.of 0 0 0 [], copy2 := StoreCopy.of 0 0 0 [], saving := none, storeWait := false, rainDue := false }

/-- Firmware at reset: both slots empty, lifecycle Provisioned, the state at delivery (Table FW-9). -/
def Fw.init : Fw :=
  { slotA := FwSlot.empty, slotB := FwSlot.empty, runB := false, pause := false, loading := false, confirming := false,
    loaded := false, fbPause := false, fbDue := false, pauseSafe := false, lanesAtPause := 0, confirmed := false, arbWait := none, fwFallback := false,
    lifecycle := 1, groupKey := none, groupKeyNext := none, idKey := true, boot1 := ⟨false, bootCrc false⟩,
    boot2 := ⟨false, bootCrc false⟩, romDone := false, challPause := false, debugOpen := false, debugPerm := 0, debugSince := false,
    certCfg := false, pauseTick := 0, confirmFrom := 0,
    wasRun := false, ctrlGood := 0, challGood := 0, newL3 := false, occBefore := [] }

/-- Supplies, watchdog and thermal levels at reset. -/
def Pw.init : Pw :=
  { bootCause := 0, bootRecs := [], wdPending := false, thWarn := 0, thDerate := 0,
    thShut := 0, thRel := 0, dieHist := [], domains := 0, riseLeft := 0, thermalOff := false, aonB := false, backupFrom := 0,
    lowFrom := 0 }

/-- The block right after reset: in BOOT, nothing listed in any table, every entry at the default of its table. -/
def State.reset : State :=
  { pending := [], fresh := 0, tx := [], sys := Sys.init, reg := Regs.init, clk := Clk.init, fld := Fld.init,
    cpu := Cpu.init, saf := Saf.init, pair := Pair.init, grp := Grp.init, net := Net.init, evr := Rec.init,
    fw := Fw.init, pw := Pw.init }

end Sys2Proof.Machine
end

