-- ==== Sys2Proof/Machine/Ops.lean ====
section
/-! DEFINITION. The named operations of the block: the register file, counters, the check CRC, the event recorder,
the fault collector and the output log. -/

namespace Sys2Proof.Machine

/-! ## Numbers -/

/-- Bit `i` of a number made `b`. -/
def setBitN (n i : Nat) (b : Bool) : Nat :=
  if b then n ||| (2 ^ i) else n - (if n.testBit i then 2 ^ i else 0)

/-- Bits `hi` down to `lo` of a number. -/
def bitsN (n hi lo : Nat) : Nat := (n / 2 ^ lo) % 2 ^ (hi + 1 - lo)

/-- Bits `hi` down to `lo` of a number replaced by `v`. -/
def putBitsN (n hi lo v : Nat) : Nat :=
  n - bitsN n hi lo * 2 ^ lo + (v % 2 ^ (hi + 1 - lo)) * 2 ^ lo

/-- A number read as two's complement of `w` bits. -/
def toSigned (w n : Nat) : Int :=
  let m := n % 2 ^ w
  if 2 * m < 2 ^ w then (m : Int) else (m : Int) - (2 ^ w : Nat)

/-- The two's complement code of an integer in `w` bits. -/
def ofSigned (w : Nat) (i : Int) : Nat := (i % ((2 ^ w : Nat) : Int)).toNat

/-- Rounding a quotient to the nearest integer, halves upwards. -/
def divRound (a b : Int) : Int := if b = 0 then 0 else Int.fdiv (2 * a + b) (2 * b)

/-- A value held to a range. -/
def clampI (lo hi v : Int) : Int := if v < lo then lo else if v > hi then hi else v

/-- How many of the low `w` bits of a number are set. -/
def popN (n : Nat) : Nat → Nat
  | 0 => 0
  | w + 1 => (if n.testBit w then 1 else 0) + popN n w

/-- The signed difference of two TB0 stamps, in 1/256 ns (R33). -/
def tbDiff (a b : BitVec 40) : Int := (a - b).toInt

/-- The signed difference of two tick numbers (R33). -/
def tickDiff (a b : BitVec 32) : Int := (a - b).toInt

/-- The later of two TB0 stamps by signed difference. -/
def tbLater (a b : BitVec 40) : Bool := decide (tbDiff a b > 0)

/-- A TB0 stamp moved by a number of 1/256 ns. -/
def tbAdd (a : BitVec 40) (d : Int) : BitVec 40 := a + BitVec.ofInt 40 d

/-- Apply a function for every number below `n`, from 0 up. -/
def forUpTo {σ : Type} (f : Nat → σ → σ) : Nat → σ → σ
  | 0, s => s
  | n + 1, s => f n (forUpTo f n s)

/-- Does some element satisfy a test within a list, as a Boolean? -/
def anyB {α : Type} (p : α → Bool) (l : List α) : Bool := l.any p

/-! ## The register file -/

/-- The value in force of entry `idx.sub` as the register file holds it. -/
def State.rd (s : State) (idx sub : Nat) : Nat :=
  Tab.get (regDefault (ekey idx sub)) (ekey idx sub) s.reg.od

/-- Store a value of an entry, cut to the entry's width. -/
def State.wr (s : State) (idx sub v : Nat) : State :=
  { s with reg.od := Tab.set (regDefault (ekey idx sub)) (ekey idx sub) (v % 2 ^ regBits (ekey idx sub)) s.reg.od }

/-- A bit of an entry. -/
def State.rdBit (s : State) (idx sub i : Nat) : Bool := (s.rd idx sub).testBit i

/-- Write a bit of an entry. -/
def State.wrBit (s : State) (idx sub i : Nat) (b : Bool) : State := s.wr idx sub (setBitN (s.rd idx sub) i b)

/-- An entry read as a signed number of `w` bits. -/
def State.rdInt (s : State) (idx sub w : Nat) : Int := toSigned w (s.rd idx sub)

/-- The tick period in nanoseconds, 0x2000.01 (R16). -/
def State.tNs (s : State) : Nat := s.rd 0x2000 1

/-- The tick period in units of TB0, 1/256 ns. -/
def State.tTb (s : State) : Nat := 256 * s.tNs

/-- The phases of R18 after t0, in ns. -/
def State.tRing (s : State) : Nat := s.tNs * 16 / 100
/-- t_gather of R18, in ns. -/
def State.tGather (s : State) : Nat := s.tRing + 200
/-- t_dl of R18, in ns. -/
def State.tDl (s : State) : Nat := s.tNs * 84 / 100 - 1400

/-- The device's own DEVID (R394). -/
def State.devid (s : State) : Nat := s.sys.straps.devid

/-- Put an item on the output log. -/
def State.send (s : State) (x : TxItem) : State := { s with tx := s.tx ++ [x] }

/-- Put several outputs out, in order. -/
def State.sendAll (s : State) (l : List TxItem) : State := { s with tx := s.tx ++ l }

/-- The next value of the model's counter for free values, and the state that has used it. -/
def State.useFresh (s : State) : State := { s with fresh := s.fresh + 1 }

/-- Is the device in COMMISSION or BLOCKED? -/
def State.cfgState (s : State) : Bool := decide (s.sys.dev = .commission ∨ s.sys.dev = .blocked)

/-- Is the device in RUN or COAST? -/
def State.running (s : State) : Bool := decide (s.sys.dev = .run ∨ s.sys.dev = .coast)

/-- Is the device in READY, RUN or COAST? -/
def State.live (s : State) : Bool := decide (s.sys.dev = .ready ∨ s.sys.dev = .run ∨ s.sys.dev = .coast)

/-- Does the block command the nodes, in role SOLO or ACTIVE? -/
def State.commands (s : State) : Bool := decide (s.sys.role ≠ .standby)

/-- Is the runtime up: from the end of BOOT, not asleep and not switched off by a thermal shutdown (R388)? -/
def State.up (s : State) : Bool := decide (s.sys.dev ≠ .boot ∧ s.sys.dev ≠ .sleep) && !s.pw.thermalOff

/-- Is background work stopped by the derate threshold (R386)? -/
def State.derated (s : State) : Bool := s.rdBit 0x1330 2 1

/-- State code of Table CM-8. -/
def devCode : DevState → Nat
  | .boot => 1 | .commission => 2 | .blocked => 3 | .ready => 4 | .run => 5 | .coast => 6 | .safe => 7 | .sleep => 8

/-- Role code of Table CM-13. -/
def roleCode : Role → Nat
  | .solo => 0 | .active => 1 | .standby => 2

/-- Node state code of Table NC-1, in the order of its rows. -/
def nodeCode : NodeState → Nat
  | .off => 0 | .ready => 1 | .run => 2 | .coast => 3 | .block => 4 | .bypass => 5 | .fault => 6

/-! ## The event recorder (R328 to R337) -/

/-- Event kinds within an origin, the model's own numbering (the manual gives no CODE values). -/
def evOccur : Nat := 1
/-- A class level change (R265). -/
def evLevel : Nat := 2
/-- An acknowledgement (R268). -/
def evAck : Nat := 3
/-- A force bit change (R263). -/
def evForce : Nat := 4
/-- A transition or the end of a period of the origin's subject. -/
def evState : Nat := 5
/-- A refusal. -/
def evRefused : Nat := 6
/-- An action or change the origin's rule names. -/
def evAction : Nat := 7
/-- A warning threshold. -/
def evWarn : Nat := 8
/-- A check that failed. -/
def evCheck : Nat := 9
/-- A session's end (R314). -/
def evEnd : Nat := 10
/-- A yelm's result (R323). -/
def evYelm : Nat := 11

/-- Is a record of this origin and kind privileged, so that it goes to the circulating area (Table EV-3, R331)? -/
def circArea (origin code : Nat) : Bool :=
  origin == 2 || origin == 3 || origin == 5 ||
  (origin == 4 && code == evAction) || (origin == 6 && code == evAction) || (origin == 7 && code == evAction)

/-- CODE of a record (Table EV-1). -/
def recCode (r : EvRec) : BitVec 16 := Sys2Proof.Config.eventCode r.origin r.code

/-- DATA of a record: its bytes 40 to 59 (Table EV-1). -/
def recData (r : EvRec) : List Byte := beBytes (Sys2Proof.Config.eventData r.origin r.code r.data).toNat 20

/-- The data digest of a record (R330). -/
def recDigest (r : EvRec) : Nat := crc32c (recData r)

/-- Do two records agree in CODE and data digest? Equal identifying values give equal bytes. -/
def sameEvent (r n : EvRec) : Bool :=
  (decide (r.code = n.code) && decide (r.data = n.data)) || (decide (recCode r = recCode n) && decide (recDigest r = recDigest n))

/-- Do two records agree in SRC, CODE, data digest and SEV, within 1 s of the last repeat (R334)? -/
def repeats (now : Nat) (r n : EvRec) : Bool :=
  decide (r.origin = n.origin ∧ r.unit = n.unit ∧ r.sev = n.sev ∧ now ≤ r.lastrep + 1000000) && sameEvent r n

/-- Is sequence number `a` later than `b`: the signed difference (R33, R329)? -/
def laterSeq (a b : BitVec 32) : Bool := decide (0 < (a - b).toInt)

/-- The latest sequence number of a list of records, from `m` on (R329). -/
def topSeq (m : BitVec 32) (l : List EvRec) : BitVec 32 := l.foldl (fun m r => if laterSeq r.seq m then r.seq else m) m

/-- The earliest sequence number of a list of records, from `m` on. -/
def lowSeq (m : BitVec 32) (l : List EvRec) : BitVec 32 := l.foldl (fun m r => if laterSeq m r.seq then r.seq else m) m

/-- A list of records without the one of the lowest sequence number (R332). -/
def dropLowest (l : List EvRec) : List EvRec :=
  match l with
  | [] => []
  | r :: t => l.eraseP (fun x => x.seq == lowSeq r.seq t)

/-- A record put in its place in SEQ order. -/
def seqInsert (r : EvRec) : List EvRec → List EvRec
  | [] => [r]
  | x :: t => if laterSeq r.seq x.seq then x :: seqInsert r t else r :: x :: t

/-- Records in SEQ order (R337, R339). -/
def bySeq (l : List EvRec) : List EvRec := l.foldr seqInsert []

/-- Merge a repeat into a record: REPEAT sticks at its maximum, LASTREP follows (R334). -/
def mergeRep (now : Nat) (r : EvRec) : EvRec := { r with rep := Nat.min 0xFFFF (r.rep + 1), lastrep := now }

/-- The list with its last element changed. -/
def mapLast {α : Type} (f : α → α) : List α → List α
  | [] => []
  | [x] => [f x]
  | x :: y :: t => x :: mapLast f (y :: t)

/-- Severity as the RAM buffer ranks it: a privileged record counts as 8 (R337). -/
def bufSev (r : EvRec) : Nat := if r.circ then 8 else r.sev

/-- The lowest rank in a list of records. -/
def lowSev (rank : EvRec → Nat) : List EvRec → Nat → Nat
  | [], m => m
  | r :: rs, m => lowSev rank rs (Nat.min m (rank r))

/-- Remove the record of rank `m` with the highest sequence number (R333). -/
def dropNewest (rank : EvRec → Nat) (m : Nat) (l : List EvRec) : List EvRec :=
  match l.filter (fun r => rank r == m) with
  | [] => l
  | r :: t => l.eraseP (fun x => rank x == m && x.seq == topSeq r.seq t)

/-- Is MRAM writing forbidden (R389)? -/
def State.mramLock (s : State) : Bool := s.rdBit 0x1330 2 4

/-- Are records held in the RAM buffer: in BOOT, or while MRAM writes are forbidden (R337, R389)? -/
def State.buffering (s : State) : Bool := decide (s.sys.dev = .boot) || s.mramLock

/-- A counter's increment: at its maximum it sticks and its overflow flag sets (R33). The event of the overflow is
written by `State.count`. -/
def State.bump (s : State) (idx sub : Nat) : State :=
  let v := s.rd idx sub
  if v + 1 < 2 ^ regBits (ekey idx sub) then s.wr idx sub (v + 1)
  else { s with reg.ctrOvf := Tab.set false (ekey idx sub) true s.reg.ctrOvf }

/-- The SRAM copies of repeated records written to MRAM (R335). -/
def saveReps (l : List EvRec) : List EvRec := l.map (fun r => { r with repSaved := r.rep, lastSaved := r.lastrep })

/-- The SRAM copies of repeated records written to MRAM, unless MRAM writes are forbidden. -/
def State.flushReps (s : State) : State :=
  if s.mramLock then s
  else
    let e := { s.evr with keepFirst := saveReps s.evr.keepFirst, circ := saveReps s.evr.circ }
    { s with evr := e }

/-- Place a record in the circulating area: a full ring loses the record of the lowest sequence number (R332). -/
def State.putCirc (s : State) (r : EvRec) : State :=
  { s with evr.circ := saveReps (if s.evr.circ.length < 2048 then s.evr.circ else dropLowest s.evr.circ) ++ [r] }

/-- Place a record in the keep-first area under R333. Its severity has been held to the minimum when it was created (0x6000.0C). -/
def State.putKeep (s : State) (r : EvRec) : State :=
  if s.evr.keepFirst.length < 4096 then { s with evr.keepFirst := saveReps s.evr.keepFirst ++ [r] }
  else
    let m := lowSev (·.sev) s.evr.keepFirst 8
    if m < r.sev then
      ({ s with evr.keepFirst := saveReps (dropNewest (·.sev) m s.evr.keepFirst) ++ [r] } : State).bump 0x6000 6
    else s.bump 0x6000 5

/-- Place a record in the RAM buffer under R337. -/
def State.putBuf (s : State) (r : EvRec) : State :=
  if s.evr.ramBuf.length < 256 then { s with evr.ramBuf := s.evr.ramBuf ++ [r] }
  else
    let m := lowSev bufSev s.evr.ramBuf 8
    if m < bufSev r then { s with evr.ramBuf := dropNewest bufSev m s.evr.ramBuf ++ [r] }
    else s.bump 0x6000 8

/-- Place a record in the area of its origin. -/
def State.putRec (s : State) (r : EvRec) : State := if r.circ then s.putCirc r else s.putKeep r

/-- The record of an event now. -/
def State.mkRec (s : State) (sev origin unit code data : Nat) : EvRec :=
  { seq := s.evr.evSeq + 1, pcc := s.evr.pcc, opt := s.evr.opTime, lastrep := s.evr.opTime, sev := sev,
    circ := circArea origin code, buffered := s.buffering, origin := origin, unit := unit, code := code, rep := 0,
    repSaved := 0, lastSaved := s.evr.opTime,
    devid := s.devid, tick := if s.sys.dev = .boot then 0 else s.clk.tick, data := data }

/-- The last record of one area in a list. -/
def lastOf (circ : Bool) (l : List EvRec) : Option EvRec := l.reverse.find? (fun r => r.circ == circ)

/-- Merge into the last buffered record of an area. -/
def mergeLast (now : Nat) (circ : Bool) (l : List EvRec) : List EvRec :=
  match l.reverse.findIdx? (fun r => r.circ == circ) with
  | none => l
  | some i => (l.reverse.modify i (mergeRep now)).reverse

/-- One event: merge it as a repeat (R334), or make a new record and place it (R329, R331 to R333, R337). -/
def State.evOne (s : State) (sev origin unit code data : Nat) : State :=
  let n := s.mkRec sev origin unit code data
  let now := s.evr.opTime
  if s.buffering then
    if (lastOf n.circ s.evr.ramBuf).any (repeats now · n) then
      { s with evr.ramBuf := mergeLast now n.circ s.evr.ramBuf }
    else if !n.circ && decide (sev < s.rd 0x6000 12) then s
    else ({ s with evr.evSeq := n.seq } : State).putBuf n
  else if n.circ then
    if s.evr.circ.getLast?.any (repeats now · n) then { s with evr.circ := mapLast (mergeRep now) s.evr.circ }
    else ({ s with evr.evSeq := n.seq } : State).putCirc n
  else
    if s.evr.keepFirst.getLast?.any (repeats now · n) then
      { s with evr.keepFirst := mapLast (mergeRep now) s.evr.keepFirst }
    else if sev < s.rd 0x6000 12 then s
    else ({ s with evr.evSeq := n.seq } : State).putKeep n

/-- The drop counter of the recorder whose overflow flag has set since `o`, if one has (R33). -/
def State.dropOver (s o : State) : Option Nat :=
  [5, 6, 8].find? (fun k => Tab.get false (ekey 0x6000 k) s.reg.ctrOvf && !Tab.get false (ekey 0x6000 k) o.reg.ctrOvf)

/-- Write an event; a drop that takes its counter to the limit writes the one event of that overflow too (R33). -/
def State.ev (s : State) (sev origin unit code data : Nat) : State :=
  let t := s.evOne sev origin unit code data
  match t.dropOver s with
  | some k => t.evOne 2 11 0 evAction (ekey 0x6000 k)
  | none => t

/-- Increment a counter of R33: at its limit it sticks, sets its flag and writes one event of severity notice. -/
def State.count (s : State) (idx sub : Nat) : State :=
  let v := s.rd idx sub
  if v + 1 < 2 ^ regBits (ekey idx sub) then s.wr idx sub (v + 1)
  else if Tab.get false (ekey idx sub) s.reg.ctrOvf then s
  else (s.bump idx sub).ev 2 11 0 evAction (ekey idx sub)

/-- A counter beside its entry's value has reached its limit: the entry's overflow flag sets, with its event, once (R33). -/
def State.ctrLimit (s : State) (idx sub : Nat) : State :=
  if Tab.get false (ekey idx sub) s.reg.ctrOvf then s
  else ({ s with reg.ctrOvf := Tab.set false (ekey idx sub) true s.reg.ctrOvf } : State).ev 2 11 0 evAction (ekey idx sub)

/-- Increment a counter `n` times. -/
def State.countN (s : State) (idx sub : Nat) : Nat → State
  | 0 => s
  | n + 1 => State.countN (s.count idx sub) idx sub n

/-! ## The fault collector (R262, R263) -/

/-- Is the cause of a source present, its own or forced? -/
def State.causePresent (s : State) (src : Nat) : Bool :=
  (Tab.get 0 (src / 16) s.saf.cause).testBit (src % 16) || s.rdBit 0x4203 (src / 16 + 1) (src % 16)

/-- Note the own condition of a source. -/
def State.setOwn (s : State) (src : Nat) (b : Bool) : State :=
  { s with saf.cause := Tab.set 0 (src / 16) (setBitN (Tab.get 0 (src / 16) s.saf.cause) (src % 16) b) s.saf.cause }

/-- An occurrence of a source: sticky bit, occurrence counter, event and the note that it is new (R262). -/
def State.occur (s : State) (src : Nat) : State :=
  let s := s.wrBit 0x4201 (src / 16 + 1) (src % 16) true
  let s := s.count (0x4210 + src / 16) (src % 16 + 1)
  let s := { s with saf.newOcc := s.saf.newOcc ||| BitVec.ofNat 16 (2 ^ (src / 16)) }
  s.ev (if src / 16 ≤ 1 then 6 else 3) 0 src evOccur 0

/-- The own condition of a source becomes present: an occurrence where the cause was absent before (R262, R263). -/
def State.raise (s : State) (src : Nat) : State :=
  if s.causePresent src then s.setOwn src true else (s.setOwn src true).occur src

/-- The own condition of a source ends. -/
def State.unraise (s : State) (src : Nat) : State := s.setOwn src false

/-- Set or end the own condition of a source. -/
def State.cond (s : State) (src : Nat) (b : Bool) : State := if b then s.raise src else s.unraise src

/-- A transient fault of a class (R271). -/
def State.transient (s : State) (cls : Nat) : State := s.count 0x4206 (cls + 1)

/-- The lane source of a ring: 0x50 + ring (Table SF-8, classes 0x5 to 0x7). -/
def laneSrc (ring : Nat) : Nat := 0x50 + ring

/-- The record of a state transition (Table EV-3, origin 0x01). -/
def State.setDev (s : State) (d : DevState) : State :=
  if s.sys.dev = d then s else ({ s with sys.dev := d } : State).ev 1 1 (devCode d) evState 0

/-! ## Access to the numbered parts -/

/-- Ring `r`. -/
def State.ring (s : State) (r : Nat) : RingSt := Tab.get RingSt.init r s.fld.rings
/-- Change ring `r`. -/
def State.setRing (s : State) (r : Nat) (x : RingSt) : State :=
  { s with fld.rings := Tab.set RingSt.init r x s.fld.rings }
/-- What the device holds of node slot `n`. -/
def State.slot (s : State) (n : Nat) : SlotSt := Tab.get SlotSt.init n s.fld.slots
/-- Change node slot `n`. -/
def State.setSlot (s : State) (n : Nat) (x : SlotSt) : State :=
  { s with fld.slots := Tab.set SlotSt.init n x s.fld.slots }
/-- Node `n`: ring * 16 + position. -/
def State.node (s : State) (n : Nat) : Node := Tab.get Node.init n s.fld.nodes
/-- Change node `n`. -/
def State.setNode (s : State) (n : Nat) (x : Node) : State :=
  { s with fld.nodes := Tab.set Node.init n x s.fld.nodes }
/-- Builder leg `h` (its handle's number). -/
def State.leg (s : State) (h : Nat) : LegB := Tab.get LegB.init h s.fld.legs
/-- Change builder leg `h`. -/
def State.setLeg (s : State) (h : Nat) (x : LegB) : State :=
  { s with fld.legs := Tab.set LegB.init h x s.fld.legs }
/-- Local leg `n` at the output stage. -/
def State.loc (s : State) (n : Nat) : LocalLeg := Tab.get LocalLeg.init n s.fld.locals
/-- Change local leg `n`. -/
def State.setLoc (s : State) (n : Nat) (x : LocalLeg) : State :=
  { s with fld.locals := Tab.set LocalLeg.init n x s.fld.locals }
/-- String `n`. -/
def State.string (s : State) (n : Nat) : StringSt := Tab.get StringSt.init n s.fld.strings
/-- Change string `n`. -/
def State.setString (s : State) (n : Nat) (x : StringSt) : State :=
  { s with fld.strings := Tab.set StringSt.init n x s.fld.strings }
/-- Cell `c`. -/
def State.cell (s : State) (c : Nat) : CellSt := Tab.get CellSt.init c s.fld.cells
/-- Change cell `c`. -/
def State.setCell (s : State) (c : Nat) (x : CellSt) : State :=
  { s with fld.cells := Tab.set CellSt.init c x s.fld.cells }
/-- Engine `e`. -/
def State.engine (s : State) (e : Nat) : Engine := Tab.get Engine.init e s.cpu.engines
/-- Change engine `e`. -/
def State.setEngine (s : State) (e : Nat) (x : Engine) : State :=
  { s with cpu.engines := Tab.set Engine.init e x s.cpu.engines }
/-- Session `i`: own 0 to 7, proxied 8 to 39. -/
def State.sess (s : State) (i : Nat) : Session := Tab.get Session.init i s.net.sessions
/-- Change session `i`. -/
def State.setSess (s : State) (i : Nat) (x : Session) : State :=
  { s with net.sessions := Tab.set Session.init i x s.net.sessions }
/-- Time base `b`. -/
def State.tbs (s : State) (b : Nat) : TbSt := Tab.get TbSt.init b s.clk.tb
/-- Change time base `b`. -/
def State.setTb (s : State) (b : Nat) (x : TbSt) : State :=
  { s with clk.tb := Tab.set TbSt.init b x s.clk.tb }
/-- Group member `d`. -/
def State.member (s : State) (d : Nat) : Member := Tab.get Member.init d s.grp.members
/-- Change group member `d`. -/
def State.setMember (s : State) (d : Nat) (x : Member) : State :=
  { s with grp.members := Tab.set Member.init d x s.grp.members }

/-- A table with every value changed, canonical again. -/
def Tab.mapV {α : Type} [DecidableEq α] (d : α) (f : α → α) : Tab α → Tab α
  | [] => []
  | e :: t => if f e.2 = d then Tab.mapV d f t else (e.1, f e.2) :: Tab.mapV d f t

/-- A table with every value changed by a function that sees its key, canonical again. -/
def Tab.mapKV {α : Type} [DecidableEq α] (d : α) (f : Nat → α → α) : Tab α → Tab α
  | [] => []
  | e :: t => if f e.1 e.2 = d then Tab.mapKV d f t else (e.1, f e.1 e.2) :: Tab.mapKV d f t

end Sys2Proof.Machine
end

