-- ==== Sys2Proof/Machine/Flags.lean ====
section
/-! DEFINITION. Engine arithmetic: saturation, rounding, the flags and sticky bits of ST (Table CE-4, R175, R176). Every
function gives its result with the sticky bits it sets. -/

namespace Sys2Proof.Machine

/-- ST bit numbers of Table CE-4. -/
def stV : Nat := 4
/-- Carry. -/
def stC : Nat := 5
/-- Zero. -/
def stZ : Nat := 6
/-- Negative. -/
def stN : Nat := 7
/-- Mask of the sticky bit SAT. -/
def satMask : Word := 0x100
/-- Mask of the sticky bit OVA. -/
def ovaMask : Word := 0x200
/-- Mask of the sticky bit DIV0. -/
def div0Mask : Word := 0x400

/-- An integer held to `w` signed bits. -/
def satInt (w : Nat) (v : Int) : Int := clampI (-(2 ^ (w - 1) : Nat)) ((2 ^ (w - 1) : Nat) - 1) v

/-- The sticky bits of a saturation: `m` where the limits act. -/
def satSticky (m : Word) (w : Nat) (v : Int) : Word := if satInt w v = v then 0 else m

/-- A 32-bit result saturated from an integer, with SAT. -/
def sat32 (v : Int) : Word × Word := (BitVec.ofInt 32 (satInt 32 v), satSticky satMask 32 v)

/-- A Q15 result saturated from an integer, sign-extended, with SAT. -/
def satQ15 (v : Int) : Word × Word := (BitVec.ofInt 32 (satInt 16 v), satSticky satMask 16 v)

/-- The low half of a register as a signed number. -/
def loHalf (a : Word) : Int := (a.extractLsb' 0 16).toInt

/-- The high half of a register as a signed number. -/
def hiHalf (a : Word) : Int := (a.extractLsb' 16 16).toInt

/-- The half of a register that HA or HB selects (R177). -/
def halfOf (hi : Bool) (a : Word) : Int := if hi then hiHalf a else loHalf a

/-- Two Q15 lanes, each saturated, packed. -/
def lanes (h l : Int) : Word × Word :=
  (BitVec.ofInt 16 (satInt 16 h) ++ BitVec.ofInt 16 (satInt 16 l), satSticky satMask 16 h ||| satSticky satMask 16 l)

/-- Shift right by `k` with the rounding of RND: 0 truncates, 1 rounds half up, 2 rounds half to even (R176). -/
def roundShift (rnd k : Nat) (v : Int) : Int :=
  let q := Int.fdiv v (2 ^ k : Nat)
  let r := Int.fmod v (2 ^ k : Nat)
  if rnd = 0 then q
  else if rnd = 2 ∧ 2 * r = (2 ^ k : Nat) then (if q % 2 = 0 then q else q + 1)
  else if 2 * r ≥ (2 ^ k : Nat) then q + 1 else q

/-- RND of ST. -/
def rndOf (st : Word) : Nat := (st.extractLsb' 0 2).toNat

/-- A value written to ST: reserved bits read 0, RND 0b11 is written as 0b01 (Table CE-4). -/
def stWrite (v : Word) : Word :=
  let w := v &&& 0x7FF
  if w.extractLsb' 0 2 = (3 : BitVec 2) then w &&& 0x7FD else w

/-- The flags N, Z, C and V of a - b, at their places in ST (CMP, CMPI). C is "no borrow". -/
def cmpFlags (a b : Word) : Word :=
  let r := a - b
  (if r.msb then (0x80 : Word) else 0) ||| (if r = 0 then 0x40 else 0) |||
  (if b.toNat ≤ a.toNat then 0x20 else 0) ||| (if a.toInt - b.toInt = r.toInt then 0 else 0x10)

/-- Does a condition code hold under the flags of ST? Codes 0xA to 0xF are reserved (Table CE-6). -/
def condHolds (st : Word) (cond : Nat) : Bool :=
  let n := st.getLsbD stN
  let z := st.getLsbD stZ
  let c := st.getLsbD stC
  let v := st.getLsbD stV
  match cond with
  | 0 => true
  | 1 => z
  | 2 => !z
  | 3 => n != v
  | 4 => n == v
  | 5 => z || n != v
  | 6 => !z && n == v
  | 7 => !c
  | 8 => c
  | 9 => v
  | _ => false

/-- An accumulator from an integer: held at the 40-bit limits with OVA, then clamped to 32 bits with SAT where `satm`. -/
def accResult (satm : Bool) (v : Int) : Acc × Word :=
  let w := satInt 40 v
  let ova := satSticky ovaMask 40 v
  if satm then (BitVec.ofInt 40 (satInt 32 w), ova ||| satSticky satMask 32 w) else (BitVec.ofInt 40 w, ova)

/-- The product of two 16-bit operands: shifted left by 1 in fractional mode, negated with NEG (R175). -/
def macProduct (frac neg : Bool) (a b : Int) : Int :=
  let p := if frac then 2 * (a * b) else a * b
  if neg then -p else p

/-- DIVQ: Da * 2^15 / Db, truncated towards zero, saturated to Q15; a zero divisor writes the limit of the dividend's
sign and sets DIV0 (R176). -/
def divQ (a b : Word) : Word × Word :=
  if b = 0 then (if a.msb then 0xFFFF8000 else 0x7FFF, div0Mask)
  else satQ15 ((a.toInt * 32768).tdiv b.toInt)

/-- MULQ: the Q15 product of the low halves, rounded by RND and saturated (R176). -/
def mulQ (st a b : Word) : Word × Word := satQ15 (roundShift (rndOf st) 15 (loHalf a * loHalf b))

/-- Rounded extraction of an accumulator to Q15 (EXT.H, R176). -/
def extHalf (st : Word) (a : Acc) : Word × Word := satQ15 (roundShift (rndOf st) 16 a.toInt)

/-- CLIP: min (max Da (-Db)) Db over the integers. -/
def clipW (a b : Word) : Word :=
  BitVec.ofInt 32 (let m := if a.toInt < -b.toInt then -b.toInt else a.toInt; if b.toInt < m then b.toInt else m)

/-- The coefficient pointer one word on: linear where its circular length is 0, else wrapping within the block of that
length in which it stands (R177). -/
def kNext (k : Word) : Word :=
  let i := (k.extractLsb' 0 11).toNat
  let l := (k.extractLsb' 16 11).toNat
  let j := if l = 0 then (i + 1) % 2048 else if (i + 1) % l = 0 then (i + 1 - l) else i + 1
  BitVec.ofNat 32 (l * 65536 + j % 2048)

end Sys2Proof.Machine
end

