-- ==== Sys2Proof/Machine/Operands.lean ====
section
/-! DEFINITION. The operand forms of the engines: registers and slots, the bundle protocol of R177, exceptions (R192),
the address map and what each of its windows reads (Tables CE-8 to CE-10). -/

namespace Sys2Proof.Machine

/-! ## Registers -/

/-- Register D`n`. -/
def Engine.dreg (x : Engine) (n : Nat) : Word := Tab.get 0 n x.d
/-- Register P`n`. -/
def Engine.preg (x : Engine) (n : Nat) : Word := Tab.get 0 n x.p
/-- Accumulator A`n`. -/
def Engine.areg (x : Engine) (n : Nat) : Acc := Tab.get 0 n x.a
/-- FRAC of ST. -/
def Engine.frac (x : Engine) : Bool := x.st.getLsbD 3
/-- SATM of ST. -/
def Engine.satm (x : Engine) : Bool := x.st.getLsbD 2

/-- Slots C and L, of the ALU classes (Table CE-5). -/
def slotCL : VSlot → Bool
  | .c => true | .l => true | .m0 => false | .m1 => false
/-- Slot C. -/
def slotC : VSlot → Bool
  | .c => true | .l => false | .m0 => false | .m1 => false
/-- Slot L. -/
def slotL : VSlot → Bool
  | .c => false | .l => true | .m0 => false | .m1 => false
/-- Slots M0 and M1. -/
def slotM : VSlot → Bool
  | .c => false | .l => false | .m0 => true | .m1 => true
/-- Any slot. -/
def slotAny : VSlot → Bool := fun _ => true

/-- The number of the register that a pending write names. -/
def regKey : RegW → Nat
  | .d n _ => n
  | .p n _ => 32 + n
  | .a n _ => 40 + n
  | .k0 _ => 44
  | .k1 _ => 45
  | .st _ => 46

/-- Add a register write to the bundle: a register already written in it makes the encoding illegal (R177). -/
def Engine.put (x : Engine) (w : RegW) : Except Nat Engine :=
  if x.writes.any (fun v => regKey v == regKey w) || (regKey w == 46 && x.flagW.isSome) then .error 2
  else .ok { x with writes := x.writes ++ [w] }

/-- Note sticky bits that the bundle sets. -/
def Engine.stick (x : Engine) (m : Word) : Engine := { x with stickyW := x.stickyW ||| m }

/-- Write register D`n` with a result and its sticky bits. -/
def Engine.putD (x : Engine) (n : Nat) (r : Word × Word) : Except Nat Engine :=
  (x.put (.d n r.1)).map (·.stick r.2)

/-- Write accumulator A`n` with a result and its sticky bits. -/
def Engine.putA (x : Engine) (n : Nat) (r : Acc × Word) : Except Nat Engine :=
  (x.put (.a n r.1)).map (·.stick r.2)

/-- Set the flags N, Z, C and V. -/
def Engine.putFlags (x : Engine) (f : Word) : Except Nat Engine :=
  if x.flagW.isSome || x.writes.any (fun v => regKey v == 46) then .error 2 else .ok { x with flagW := some f }

/-- Apply one register write. -/
def Engine.apply1 (x : Engine) : RegW → Engine
  | .d n v => { x with d := Tab.set 0 n v x.d }
  | .p n v => { x with p := Tab.set 0 n v x.p }
  | .a n v => { x with a := Tab.set 0 n v x.a }
  | .k0 v => { x with k0 := v }
  | .k1 v => { x with k1 := v }
  | .st v => { x with st := stWrite v }

/-- The event word of Table CE-10, 0x018. -/
def Engine.eventMet (x : Engine) (mask : Word) (all : Bool) : Bool :=
  if all then x.events &&& mask == mask else x.events &&& mask != 0

/-- The next bundle and the loops after a bundle that took no jump (R177). -/
def Engine.advance (x : Engine) : Engine :=
  match x.jump with
  | some t => { x with pc := t }
  | none =>
    if x.lc1.cnt > 0 && x.lc1.last == x.pc then
      if x.lc1.cnt > 1 then { x with pc := x.lc1.first, lc1 := { x.lc1 with cnt := x.lc1.cnt - 1 } }
      else if x.lc0.cnt > 0 && x.lc0.last == x.pc then
        if x.lc0.cnt > 1 then
          { x with pc := x.lc0.first, lc1 := { x.lc1 with cnt := 0 }, lc0 := { x.lc0 with cnt := x.lc0.cnt - 1 } }
        else { x with pc := x.pc + 1, lc1 := { x.lc1 with cnt := 0 }, lc0 := { x.lc0 with cnt := 0 } }
      else { x with pc := x.pc + 1, lc1 := { x.lc1 with cnt := 0 } }
    else if x.lc0.cnt > 0 && x.lc0.last == x.pc then
      if x.lc0.cnt > 1 then { x with pc := x.lc0.first, lc0 := { x.lc0 with cnt := x.lc0.cnt - 1 } }
      else { x with pc := x.pc + 1, lc0 := { x.lc0 with cnt := 0 } }
    else { x with pc := x.pc + 1 }

/-- The bundle's results written: registers, then the flags, then the sticky bits of ST. -/
def Engine.writeBack (x : Engine) : Engine :=
  let z := x.writes.foldl Engine.apply1 x
  { z with st := (match x.flagW with | some f => (z.st &&& 0xFFFFFF0F) ||| f | none => z.st) ||| x.stickyW }

/-- The engine with nothing of a bundle pending. -/
def Engine.clearBundle (x : Engine) : Engine :=
  { x with writes := [], jump := none, waitW := none, flagW := none, stickyW := 0 }

/-- A whole bundle's end: results written, the next bundle found, a WAIT begun (R177, R181). -/
def Engine.endBundle (x : Engine) : Engine :=
  let y := x.writeBack.advance
  let r : RunSt := match x.waitW with
    | none => .running
    | some (m, all) => if x.eventMet m all then .running else .waiting m all
  { y.clearBundle with run := r }

/-! ## Lanes and the messages of Spar (R47, R274, R275, Table RP-3) -/

/-- The status bits of a lane, as Table DL-3 lays them out; a lane without a port register keeps them in the state. -/
def State.laneBits (s : State) (l : Nat) : Nat :=
  if l < 48 then s.rd 0x2011 (l + 1) else Tab.get 0x188 l s.pair.laneSt

/-- Is a lane UP (R47)? -/
def State.laneUp (s : State) (l : Nat) : Bool := (s.laneBits l).testBit 0

/-- The home lane of a ring: SPL0 for the even ones, SPL1 for the odd (R275). -/
def homeLane (r : Nat) : BitVec 2 := if r % 2 = 0 then 1 else 2

/-- The bridge lane of a ring. -/
def State.bridgeLane (s : State) (r : Nat) : BitVec 2 := if (s.ring r).bridgeLane1 then 2 else 1

/-- The lanes of a message by its KIND (Table RP-3): bit 0 SPL0, bit 1 SPL1. -/
def State.sparHome (s : State) : SparMsg → BitVec 2
  | .hb _ => 3
  | .respReq r _ _ => homeLane r
  | .relay r _ unreq _ => if unreq then s.bridgeLane r else homeLane r
  | .waleReport r _ _ _ _ => homeLane r
  | .bridged r _ => s.bridgeLane r
  | .blockNotice _ _ => 3
  | .mirror _ _ _ => 1
  | .fwd _ _ _ _ => 2
  | .cfg _ _ _ _ _ _ _ => 2
  | .ack _ _ => 1

/-- The place of a message in the precedence of a lane (R275). Each message leaves with the command that makes it, and the messages of one
command are made in this order (log entry 188). -/
def SparMsg.rank : SparMsg → Nat
  | .blockNotice _ _ => 1
  | .hb _ => 2
  | .bridged _ _ => 3
  | .respReq _ _ _ => 4
  | .relay _ _ _ _ => 4
  | .waleReport _ _ _ _ _ => 4
  | .mirror _ _ _ => 5
  | .fwd _ _ _ _ => 6
  | .cfg _ _ _ _ _ _ _ => 6
  | .ack _ _ => 6

/-- The lanes on which a message leaves: while one lane lacks UP all traffic uses the other (R275). -/
def State.sparLanes (s : State) (want : BitVec 2) : BitVec 2 :=
  if s.laneUp 48 && !s.laneUp 49 then 1 else if s.laneUp 49 && !s.laneUp 48 then 2 else want

/-- Put a message on lanes of Spar, with the header of R274: END the own PAIRSEL, SEQ the tick. -/
def State.sparOn (s : State) (lanes : BitVec 2) (m : SparMsg) : State :=
  s.send (.spar lanes s.sys.straps.pairselB (s.clk.tick.truncate 16) m)

/-- How a frame for a host leaves: on the ES port; on E0 in Single mode; else on both ports, with a PRP trailer or an HSR tag (Table OD-7,
R308). -/
def State.ethOut (s : State) (onEs : Bool) : EthOut :=
  let m := s.rd 0x1100 1
  { e0 := !onEs, e1 := !onEs && m != 0, es := onEs,
    red := if onEs || m == 0 then .none else if m = 1 then .prp s.net.redSeq else .hsr s.net.redSeq }

/-- Send a frame to a host: each redundant frame takes the next sequence number. -/
def State.sendHost (s : State) (onEs : Bool) (m : EthOut → TxItem) : State :=
  let t : State := if (s.ethOut onEs).red = .none then s else { s with net.redSeq := s.net.redSeq + 1 }
  t.send (m (s.ethOut onEs))

/-- Is the ES port in service (R310)? -/
def State.esOn (s : State) : Bool := s.rdBit 0x1100 10 0 && decide (s.fw.lifecycle ≠ 2)

/-- Does a session hear its peer: open, and its port in service (R310)? -/
def State.sessUp (s : State) (i : Nat) : Bool :=
  let x := Tab.get Session.init i s.net.sessions
  x.isOpen && (!x.onEs || s.esOn)

/-- Does a datagram of a host reach the device: a port in service, an IP version that is on, the configured UDP port (R308 to R310)? An
IPv4 peer's address is the IPv4-mapped one. -/
def State.reaches (s : State) (v : HostVia) (addr : Nat) : Bool :=
  let v4 := decide (addr / 2 ^ 32 = 0xFFFF)
  let ip := if v4 then s.rd 0x1100 3 != 0 else s.rd 0x1100 6 != 0
  decide (v.udp = s.rd 0x1100 8) && (match v.port with
    | .e0 => ip
    | .e1 => ip && s.rd 0x1100 1 != 0
    | .es => s.esOn && v4 && s.rd 0x1100 11 != 0)

/-- Send a message over Spar. -/
def State.sendSpar (s : State) (m : SparMsg) : State := s.sparOn (s.sparLanes (s.sparHome m)) m

/-! ## Exceptions (R192) -/

/-- The ACTIVE sends an engine's mirror region when the engine completes or is stopped (R197, R288). -/
def State.mirrorSend (s : State) (e : Nat) : State :=
  if s.sys.role = .active then
    match (s.engine e).pkg with
    | some p =>
      if p.mirrorLen = 0 then s
      else s.sendSpar (.mirror e s.clk.tick (Tab.readBytes (s.engine e).data (4 * p.mirrorOff) p.mirrorLen))
    | none => s
  else s

/-- Is an engine still at work in its tick? -/
def Engine.unfinished (x : Engine) : Bool :=
  match x.run with
  | .running => true
  | .waiting _ _ => true
  | .idle => false
  | .halted => false
  | .missed => false
  | .excepted => false
  | .stopped => false
  | .debug => false

/-- Is a queue entry a CSM access, and not a SIGNAL or DONE that waits for one? -/
def CsmOp.access : CsmOp → Bool
  | .xfer .. => true | .store .. => true | .signal _ => false | .done => false

/-- No SIGNAL or DONE waits any more; the accesses under way go on. -/
def Engine.dropMarks (x : Engine) : Engine := { x with csmQ := x.csmQ.filter CsmOp.access }

/-- An exception stops the engine at once: its cause bit sets, the bundle's address is recorded, the counter and the
engine-class exception source follow. What it has not released is discarded at t_dl (R22). -/
def State.engExc (s : State) (e cause : Nat) : State :=
  let x := s.engine e
  let s := s.setEngine e { x.clearBundle.dropMarks with run := .excepted }
  let s := s.wrBit (0x3000 + e) 0x0C cause true
  let s := s.wr (0x3000 + e) 0x0D (Nat.min 8191 x.pc)
  ((s.count (0x3000 + e) 0x0B).occur (0x30 + e)).mirrorSend e

/-- A port error: its cause bit sets; it is no exception (Table CE-13, [9]). -/
def State.portErr (s : State) (e : Nat) : State := s.wrBit (0x3000 + e) 0x0C 9 true

/-- The last syllable of a bundle ends it, where the engine still runs; execution past bundle 8,191 is an exception. -/
def State.endBundle (s : State) (y : Syl) : State :=
  let x := s.engine y.eng.val
  if y.last = true ∧ x.run = .running then
    let x' := x.endBundle
    let s := s.setEngine y.eng.val x'
    if x'.pc > 8191 then s.engExc y.eng.val 6 else s
  else s

/-- One syllable of a running engine: a slot that does not take its class, or a cause that `f` answers, is an
exception; an engine that does not run executes nothing. -/
def State.syl (s : State) (y : Syl) (ok : VSlot → Bool) (f : Engine → Except Nat Engine) : State :=
  let x := s.engine y.eng.val
  if x.run ≠ .running then s
  else if ok y.slot = false then s.engExc y.eng.val 2
  else match f x with
    | .error c => s.engExc y.eng.val c
    | .ok x' => (s.setEngine y.eng.val x').endBundle y

/-- As `State.syl`, for a syllable that acts on more than its engine. -/
def State.sylS (s : State) (y : Syl) (ok : VSlot → Bool) (f : State → Except Nat State) : State :=
  if (s.engine y.eng.val).run ≠ .running then s
  else if ok y.slot = false then s.engExc y.eng.val 2
  else match f s with
    | .error c => s.engExc y.eng.val c
    | .ok s' => s'.endBundle y

/-! ## What an engine reads -/

/-- Engine cycles from entry to t_dl (Table CM-6): W * 1.2 per ns. -/
def State.budget (s : State) : Nat := (s.tNs * 68 / 100 - 2000) * 6 / 5

/-- ENGST (Table CE-7). -/
def State.engst (s : State) (e : Nat) : Word :=
  let x := s.engine e
  let bit (b : Bool) (n : Nat) : Nat := if b then 2 ^ n else 0
  BitVec.ofNat 32 (bit x.bankSel 8 + 64 * roleCode s.sys.role + bit (x.mirrorOk && s.sys.role == .standby) 5 +
    bit x.first 4 + bit x.excLast 3 + bit x.missLast 2 + bit x.cmdErrLast 1 +
    bit (s.sys.dev == .ready || s.sys.role == .standby) 0)

/-- The visible time of a time base: bits [55:16] of its accumulator are 32 bits of ns and 8 of fraction (R113). -/
def State.tbVis (s : State) (b : Nat) : BitVec 40 := (s.tbs b).acc.extractLsb' 16 40

/-- Bytes of the coefficient bank an engine reads. -/
def Engine.active (x : Engine) : Tab Byte := if x.bankSel then x.bank1 else x.bank0

/-- Bytes of the bank a host writes. -/
def Engine.inactive (x : Engine) : Tab Byte := if x.bankSel then x.bank0 else x.bank1

/-- A coefficient word, as K pointers read it. -/
def Engine.coef (x : Engine) (k : Word) : Int :=
  toSigned 16 (Tab.readLE x.active (2 * (k.extractLsb' 0 11).toNat) 2)

/-- Notch unit `u`. -/
def Engine.notchU (x : Engine) (u : Nat) : Notch := Tab.get Notch.init u x.notch
/-- Following-error unit `u`. -/
def Engine.followU (x : Engine) (u : Nat) : Follow := Tab.get Follow.init u x.follow
/-- A transfer channel at rest. -/
def Xfer.init : Xfer := { csm := 0, loc := 0, len := 0 }
/-- Transfer channel `c`. -/
def Engine.chan (x : Engine) (c : Nat) : Xfer := Tab.get Xfer.init c x.xfer

/-- ERR of a following-error unit: REF - FB, saturated to Q15 (Table CE-15). -/
def Follow.err (f : Follow) : Int := satInt 16 (f.ref.toInt - f.fb.toInt)

/-- A notch unit's register at its offset (Table CE-14); `none` where the table lists none or it is write-only. -/
def Notch.read (n : Notch) (off : Nat) : Option Nat :=
  if off ≤ 0x10 then some (n.staged.getD (off / 4) 0).toNat
  else if off = 0x14 then some ((if n.en then 8 else 0) + (if n.chain then 4 else 0))
  else if off = 0x1C then some (ofSigned 32 n.y.toInt)
  else if off = 0x20 then some (if n.sat then 1 else 0)
  else none

/-- A following-error unit's register at its offset (Table CE-15). -/
def Follow.read (f : Follow) (off : Nat) : Option Nat :=
  if off = 0x08 then some f.limit
  else if off = 0x0C then some f.tmax
  else if off = 0x10 then some ((if f.leaky then 2 else 0) + (if f.en then 1 else 0))
  else if off = 0x14 then some ((if f.updated then 0 else 0x20000) + (if f.tripped then 0x10000 else 0) + f.count)
  else if off = 0x18 then some (ofSigned 32 f.err)
  else none

/-- Status of the allocator port of string `s` (Table SS-10). -/
def State.allocStatus (s : State) (st : Nat) : Nat :=
  let x := s.string st
  let bit (b : Bool) (n : Nat) : Nat := if b then 2 ^ n else 0
  bit x.rdy 31 + (x.swaps % 256) * 65536 + bit x.swapcap 10 + bit x.nclamp 9 + bit x.dir 8 + x.nForce % 256

/-- SORTST of string `s` (Table CE-10). -/
def State.sortSt (s : State) (st : Nat) : Nat :=
  let x := s.string st
  (if x.sortValid then 0x80000000 else 0) + x.keysRanked * 65536 + x.sortTick.toNat

/-- A word of the I/O window (Table CE-10); `none` where the table lists no readable register. CYCLE is time spent,
which the model leaves free. -/
def State.ioRead (s : State) (e off : Nat) : Option Nat :=
  let x := s.engine e
  if off = 0x000 then some (e + 256 * devCode s.sys.dev + 4096 * roleCode s.sys.role)
  else if off = 0x004 then some s.clk.tick.toNat
  else if off = 0x008 then some s.tNs
  else if off = 0x00C then some (Sys2Proof.Config.freeWord s.fresh).toNat
  else if off = 0x010 then some s.budget
  else if off = 0x014 then some (s.engst e).toNat
  else if off = 0x018 then some x.events.toNat
  else if 0x040 ≤ off ∧ off < 0x060 then
    let v := (s.tbVis ((off - 0x040) / 8)).toNat
    some (if (off - 0x040) % 8 = 0 then v % 2 ^ 32 else v / 2 ^ 32)
  else if 0x100 ≤ off ∧ off < 0x1C0 then
    let n := (off - 0x100) / 4
    some (s.rd (0x2710 + n) 2 * 65536 + s.rd (0x2710 + n) 3)
  else if 0x200 ≤ off ∧ off < 0x2C0 then
    let st := (off - 0x200) / 32
    let o := (off - 0x200) % 32
    if o = 4 then some (s.allocStatus st)
    else if o = 8 ∨ o = 12 ∨ o = 16 then some (((s.string st).setF.toNat / 2 ^ (8 * (o - 8))) % 2 ^ 32)
    else none
  else if 0x300 ≤ off ∧ off < 0x318 then some (s.sortSt ((off - 0x300) / 4))
  else if 0x400 ≤ off ∧ off < 0x480 then some (Tab.get (0 : Word) ((off - 0x400) / 4) x.stage).toNat
  else if off = 0x488 then some (if x.cmdRefused then 2 else 0)
  else if 0x500 ≤ off ∧ off < 0x600 then (x.notchU ((off - 0x500) / 64)).read ((off - 0x500) % 64)
  else if 0x600 ≤ off ∧ off < 0x700 then (x.followU ((off - 0x600) / 32)).read ((off - 0x600) % 32)
  else if 0x900 ≤ off ∧ off < 0x940 then
    let c := x.chan ((off - 0x900) / 16)
    if off % 16 = 0 then some c.csm.toNat
    else if off % 16 = 4 then some c.loc.toNat
    else if off % 16 = 8 then some c.len.toNat
    else none
  else none

/-- A load of `n` bytes (2, 4 or 8) at an address: the value, or the cause of the exception (R178, R179). -/
def State.engLoad (s : State) (e addr n : Nat) : Except Nat Nat :=
  let x := s.engine e
  if 0x10000000 ≤ addr ∧ addr < 0x10040000 then
    if addr % n = 0 then .ok (Tab.readLE x.data (addr - 0x10000000) n) else .error 3
  else if 0x20000000 ≤ addr ∧ addr < 0x20001000 then
    if addr % n = 0 then .ok (Tab.readLE x.active (addr - 0x20000000) n) else .error 3
  else if 0x30000000 ≤ addr ∧ addr < 0x30400000 then
    if addr % n = 0 then .ok (Tab.readLE s.cpu.csm (addr - 0x30000000) n) else .error 3
  else if 0x40000000 ≤ addr ∧ addr < 0x40001000 then
    let off := addr - 0x40000000
    if addr % n ≠ 0 then .error 3
    else match s.ioRead e (off - off % 4) with
      | none => .error 4
      | some w =>
        if n = 2 then .ok ((w / 2 ^ (8 * (off % 4))) % 65536)
        else if n = 4 then .ok w
        else match s.ioRead e (off + 4) with
          | none => .error 4
          | some h => .ok (w + h * 2 ^ 32)
  else .error 4

/-- The address of a memory operand and the update of its P register (F-L, R177): MODE 0b00 addresses PB + DISP,
MODE 0b01 PB and then adds DISP to PB; the others are reserved. -/
def Engine.memAddr (x : Engine) (m : MemOp) : Except Nat (Word × Option Word) :=
  let p := x.preg m.pb.val
  let q := p + BitVec.signExtend 32 m.disp
  if m.mode = 0 then .ok (q, none)
  else if m.mode = 1 then .ok (p, some q)
  else .error 2

/-- The P register update of a memory operand, as a write of the bundle. -/
def Engine.putP (x : Engine) (m : MemOp) (q : Option Word) : Except Nat Engine :=
  match q with
  | none => .ok x
  | some v => x.put (.p m.pb.val v)

end Sys2Proof.Machine
end

