-- ==== Sys2Proof/Machine/Cells.lean ====
section
/-! DEFINITION. Cells and strings: configuration, availability, status, Sorter keys and ranks, the Level allocator, the
string status block (chapter "String and cell control services"). -/

namespace Sys2Proof.Machine

/-! ## Configuration -/

/-- Cell type, 0x2200+c.01: 0 unused, 1 H, 2 F, 3 D. -/
def State.cellType (s : State) (c : Nat) : Nat := s.rd (0x2200 + c) 1
/-- The string of a cell. -/
def State.cellStr (s : State) (c : Nat) : Nat := s.rd (0x2200 + c) 2 / 256
/-- The index of a cell in its string. -/
def State.cellIdx (s : State) (c : Nat) : Nat := s.rd (0x2200 + c) 2 % 256
/-- The MV node slot of a cell. -/
def State.mvSlot (s : State) (c : Nat) : Nat := s.rd (0x2200 + c) 3
/-- The LV node slot of a type D cell. -/
def State.lvSlot (s : State) (c : Nat) : Nat := s.rd (0x2200 + c) 4 % 512
/-- Is the cell the second one of its LV node? -/
def State.lvSecond (s : State) (c : Nat) : Bool := s.rdBit (0x2200 + c) 4 15
/-- The commanding engine of a cell. -/
def State.cellEng (s : State) (c : Nat) : Nat := s.rd (0x2200 + c) 5
/-- BYP_EN of a cell (Table SS-3). -/
def State.bypEn (s : State) (c : Nat) : Bool := s.rdBit (0x2200 + c) 6 0

/-- The configured cells. -/
def State.cellList (s : State) : List Nat := (List.range 192).filter (fun c => s.cellType c != 0)
/-- The configured cells of string `st`. -/
def State.cellsOf (s : State) (st : Nat) : List Nat :=
  (List.range 192).filter (fun c => s.cellType c != 0 && s.cellStr c == st)
/-- The cell of a string with a given index. -/
def State.cellAt (s : State) (st i : Nat) : Option Nat := (s.cellsOf st).find? (fun c => s.cellIdx c == i)
/-- Is string `st` enabled? -/
def State.strEn (s : State) (st : Nat) : Bool := s.rd (0x2100 + st) 1 == 1

/-- Bit `i` of an OCTETS bit map of `n` bytes: bit i mod 8 of byte i / 8, byte 0 first (chapter 07). -/
def mapBitPos (n i : Nat) : Nat := 8 * (n - 1 - i / 8) + i % 8
/-- The bit map of a string's entry, as bits by index. -/
def State.strMap (s : State) (st sub : Nat) : BitVec 96 :=
  BitVec.ofNat 96 (((List.range 96).filter (fun i => (s.rd (0x2100 + st) sub).testBit (mapBitPos 12 i))).foldl
    (fun a i => a + 2 ^ i) 0)
/-- The OCTETS(12) value of a set of indices. -/
def mapOfBits (m : BitVec 96) : Nat :=
  ((List.range 96).filter (fun i => m.getLsbD i)).foldl (fun a i => a + 2 ^ mapBitPos 12 i) 0

/-- The assigned mask of engine `e` (0x3000+e.02): the strings it serves, R201, and the local legs, Table LA-3. -/
def State.assigned (s : State) (e : Nat) : BitVec 7 :=
  let strs := ((List.range 6).filter (fun st => s.strEn st &&
    (s.rd (0x2100 + st) 3 == e || (s.cellsOf st).any (fun c => s.cellEng c == e)))).foldl (fun a st => a + 2 ^ st) 0
  let loc := (List.range 12).any (fun n => s.rd (0x2600 + n) 2 != 0 && s.rd (0x2600 + n) 4 == e)
  BitVec.ofNat 7 (strs + if loc then 64 else 0)

/-- Cells assigned to engine `e` (0x3000+e.03). -/
def State.cellsAssigned (s : State) (e : Nat) : Nat := (s.cellList.filter (fun c => s.cellEng c == e)).length

/-- The ring address of a slot as node number ring * 16 + position; `none` where unassigned or unused. -/
def State.slotNode (s : State) (n : Nat) : Option Nat :=
  let a := s.rd (0x2400 + n) 1
  if a = 0xFFFF ∨ s.rd (0x2400 + n) 2 = 0 then none else some a

/-- The slot configured at a node number. -/
def State.nodeSlot (s : State) (node : Nat) : Option Nat :=
  (List.range 384).find? (fun n => s.slotNode n == some node)

/-- Slots configured on a ring, by ascending position. -/
def State.ringSlots (s : State) (r : Nat) : List Nat := (List.range 16).filterMap (fun p => s.nodeSlot (r * 16 + p))

/-- Is ring `r` in use (Table DL-2, EN)? -/
def State.ringEn (s : State) (r : Nat) : Bool := s.rdBit 0x2010 (r + 1) 0

/-- Does a leg beyond the named ones serve the second cell (LEGCELL, Table NC-4)? -/
def State.legSecond (s : State) (n leg : Nat) : Bool :=
  if leg < 4 then decide (2 ≤ leg) else (s.slot n).ident.any (fun i => i.legcell.getLsbD leg)

/-- The cell that a node leg belongs to (Tables SS-1 and NC-7). -/
def State.legCell (s : State) (n leg : Nat) : Option Nat :=
  s.cellList.find? (fun c => s.mvSlot c == n ||
    (s.cellType c == 3 && s.lvSlot c == n && s.lvSecond c == s.legSecond n leg))

/-- Command form of a builder leg (Table SW-4). -/
def State.legForm (s : State) (h : Nat) : Nat :=
  if 0x8000 ≤ h then s.rd (0x2600 + (h - 0x8000)) 2 else bitsN (s.rd (0x2400 + h / 8) 9) (2 * (h % 8) + 1) (2 * (h % 8))

/-- Profile of a builder leg. -/
def State.legProf (s : State) (h : Nat) : Nat :=
  if 0x8000 ≤ h then s.rd (0x2600 + (h - 0x8000)) 1 else bitsN (s.rd (0x2400 + h / 8) 8) (4 * (h % 8) + 3) (4 * (h % 8))

/-- The transformer bridge legs of a type D cell: MV legs 2 and 3, then the LV node's legs of the cell. -/
def State.pairLegs (s : State) (c : Nat) : List Nat :=
  let o := if s.lvSecond c then 2 else 0
  [s.mvSlot c * 8 + 2, s.mvSlot c * 8 + 3, s.lvSlot c * 8 + o, s.lvSlot c * 8 + o + 1]

/-- Which leg of its bridge pair a leg is: 0 primary a, 1 primary b, 2 secondary a, 3 secondary b (R152). -/
def State.pairRole (s : State) (c h : Nat) : Nat :=
  if h / 8 = s.mvSlot c then (h % 8) - 2 else 2 + h % 2

/-- Every leg of a node slot that has a command form. -/
def State.slotLegs (s : State) (n : Nat) : List Nat :=
  ((List.range 8).map (fun l => n * 8 + l)).filter (fun h => s.legForm h != 0)

/-- The node slots of a string's cells. -/
def State.strSlots (s : State) (st : Nat) : List Nat :=
  ((s.cellsOf st).flatMap (fun c => if s.cellType c = 3 then [s.mvSlot c, s.lvSlot c] else [s.mvSlot c])).eraseDups

/-- The legs with a command form of a string's cells. -/
def State.strLegs (s : State) (st : Nat) : List Nat :=
  (s.strSlots st).flatMap (fun n => (s.slotLegs n).filter (fun h =>
    (s.legCell n (h % 8)).any (fun c => s.cellStr c == st)))

/-- The strings whose cells a node slot serves. -/
def State.slotStrs (s : State) (n : Nat) : List Nat :=
  ((s.cellList.filter (fun c => s.mvSlot c == n || (s.cellType c == 3 && s.lvSlot c == n))).map s.cellStr).eraseDups

/-- The local legs with a command form, as builder legs. -/
def State.localLegs (s : State) : List Nat :=
  ((List.range 12).map (0x8000 + ·)).filter (fun h => s.legForm h != 0)

/-- The schedule-class source of a leg: 0x80 plus its string, 0x86 for a local leg (Table SF-8). -/
def State.legSrc (s : State) (h : Nat) : Nat :=
  if 0x8000 ≤ h then 0x86 else 0x80 + ((s.legCell (h / 8) (h % 8)).map s.cellStr).getD 0

/-- Is string `st` blocked, by a cluster block or a ladder block (R202, Table SS-7 [1])? -/
def State.strBlocked (s : State) (st : Nat) : Bool := !s.live || s.rdBit 0x4200 4 st

/-! ## Cell status and availability (Table SS-4, R203, R204) -/

/-- Does a node's last valid Response show it down, or has none come since bring-up? -/
def SlotSt.down (x : SlotSt) : Bool :=
  match x.resp with
  | none => true
  | some r => decide (r.nstate = .off ∨ r.nstate = .block ∨ r.nstate = .fault ∨ r.nstate = .bypass)

/-- The slots of a cell's nodes. -/
def State.cellSlots (s : State) (c : Nat) : List Nat :=
  if s.cellType c = 3 then [s.mvSlot c, s.lvSlot c] else [s.mvSlot c]

/-- Does a leg of the cell report a leg fault? -/
def State.cellLegFlt (s : State) (c : Nat) : Bool :=
  (s.cellSlots c).any (fun n => (List.range 8).any (fun l =>
    s.legCell n l == some c && (s.slot n).resp.any (fun r => r.legflt.getLsbD l)))

/-- Bits [7:1] of the cell status: why the cell is not available. -/
def State.cellBits (s : State) (c : Nat) : Nat :=
  let x := s.cell c
  let i := s.cellIdx c
  let st := s.cellStr c
  let bit (b : Bool) (n : Nat) : Nat := if b then 2 ^ n else 0
  bit ((s.cellSlots c).any (fun n => (s.slot n).down)) 1 + bit (s.cellLegFlt c) 2 +
  bit (decide (s.rd (0x2100 + st) 10 ≤ x.staleCnt)) 3 + bit ((s.strMap st 13).getLsbD i) 4 + bit x.bypFail 5 +
  bit ((s.strMap st 12).getLsbD i) 6 + bit x.bypConf 7

/-- The cell status of Table SS-4. -/
def State.cellStatus (s : State) (c : Nat) : Nat :=
  if s.cellType c = 0 then 0
  else
    let st := s.cellStr c
    s.cellBits c + (if (s.string st).avail.getLsbD (s.cellIdx c) then 1 else 0) +
      (if (s.string st).setF.getLsbD (s.cellIdx c) then 256 else 0)

/-- Available cells of a string now (R203). -/
def State.availNow (s : State) (st : Nat) : BitVec 96 :=
  if s.strEn st && !s.strBlocked st then
    BitVec.ofNat 96 (((s.cellsOf st).filter (fun c => s.cellBits c == 0)).foldl (fun a c => a ||| 2 ^ s.cellIdx c) 0)
  else 0

/-- Number of members of a bit map. -/
def count96 (m : BitVec 96) : Nat := popN m.toNat 96

/-- The stale limit of a cell has been reached at this gather (R204). -/
def State.sampleStale (s : State) (c : Nat) : Bool :=
  (s.cellSlots c).any (fun n => (s.slot n).stale || (s.slot n).resp.isNone) ||
  (s.slot (s.mvSlot c)).resp.any (fun r =>
    decide (r.meas.getD (s.rd (0x2100 + s.cellStr c) 4 % 8) (-32768) = -32768))

/-- Take a cell's sample at t_gather: its raw key in offset binary, or a stale sample counted (R204, R207). -/
def State.takeSample (s : State) (c : Nat) : State :=
  let x := s.cell c
  if s.sampleStale c then s.setCell c { x with staleCnt := Nat.min 64 (x.staleCnt + 1) }
  else
    let m := ((s.slot (s.mvSlot c)).resp.map (fun r => r.meas.getD (s.rd (0x2100 + s.cellStr c) 4 % 8) 0)).getD 0
    s.setCell c { x with staleCnt := 0, key := (ofSigned 16 m) ^^^ 0x8000 }

/-! ## Sorter (R207, R208) -/

/-- The effective key of a cell: the raw key, with the bias of its index where BIAS_EN is set, held to 16 bits. -/
def State.effKey (s : State) (c : Nat) : Nat :=
  let st := s.cellStr c
  let k := (s.cell c).key
  if s.rdBit (0x2100 + st) 4 4 then
    let b := toSigned 16 (Tab.readLE s.cpu.csm (s.rd (0x2100 + st) 5 + 2 * s.cellIdx c) 2)
    (clampI 0 65535 ((k : Int) + b)).toNat
  else k

/-- Insert an index by key, lower index first among equal keys. -/
def rankIns (key : Nat → Nat) (i : Nat) : List Nat → List Nat
  | [] => [i]
  | j :: t => if key i < key j ∨ (key i = key j ∧ i < j) then i :: j :: t else j :: rankIns key i t

/-- Rank indices in ascending key. -/
def rankSort (key : Nat → Nat) : List Nat → List Nat
  | [] => []
  | i :: t => rankIns key i (rankSort key t)

/-- The effective key of the cell at an index of a string; 0 where absent. -/
def State.keyAt (s : State) (st i : Nat) : Nat := ((s.cellAt st i).map s.effKey).getD 0

/-- The key by which the Sorter ranks an index: as it stands, once t_start has passed as it stood then (R207). -/
def State.sortKey (s : State) (st i : Nat) : Nat :=
  match (s.string st).lateKeys with
  | some t => Tab.get 0 i t
  | none => s.keyAt st i

/-- The effective keys of a string's cells, by index. -/
def State.stringKeys (s : State) (st : Nat) : Tab Nat :=
  (s.cellsOf st).foldl (fun (t : Tab Nat) c => Tab.set 0 (s.cellIdx c) (s.effKey c) t) []

/-- The 32-byte beats of the Sorter area that the Sorter writes (R208): of RANKED (0 to 2) those whose positions the configured cells
take, of RANK (3 to 5) those that hold a configured index (log entry 160). -/
def sorterBeats (conf : List Nat) : List Nat :=
  (List.range 3).filter (fun b => decide (32 * b < conf.length)) ++
  ((List.range 3).filter (fun b => conf.any (fun i => i / 32 == b))).map (3 + ·)

/-- The bytes of the Sorter area of a string (Table SS-8). -/
def sorterBytes (order : List Nat) (conf : List Nat) : List Byte :=
  let unav := (List.range 96).filter (fun i => conf.contains i && !order.contains i)
  let ranked := order ++ unav
  (List.range 96).map (fun r => BitVec.ofNat 8 (ranked.getD r 0xFF)) ++
  (List.range 96).map (fun i =>
    if !conf.contains i then 0xFF
    else if order.contains i then BitVec.ofNat 8 (order.findIdx (· == i)) else 0xFE)

/-! ## Level allocator (R209 to R211) -/

/-- The first index of an order that a map holds. -/
def mostPref (order : List Nat) (m : BitVec 96) : Option Nat := order.find? (fun i => m.getLsbD i)

/-- The map with an index added or removed. -/
def mapPut (m : BitVec 96) (i : Nat) (b : Bool) : BitVec 96 :=
  if b then m ||| BitVec.ofNat 96 (2 ^ i) else m &&& ~~~ BitVec.ofNat 96 (2 ^ i)

/-- Remove the least preferred members until `n` remain. -/
def shrinkSet (order : List Nat) (n : Nat) : Nat → BitVec 96 → BitVec 96
  | 0, m => m
  | f + 1, m =>
    if count96 m ≤ n then m
    else match mostPref order.reverse m with
      | none => m
      | some i => shrinkSet order n f (mapPut m i false)

/-- Add the most preferred available cells until `n` are in. -/
def growSet (order : List Nat) (avail : BitVec 96) (n : Nat) : Nat → BitVec 96 → BitVec 96
  | 0, m => m
  | f + 1, m =>
    if n ≤ count96 m then m
    else match mostPref order (avail &&& ~~~ m) with
      | none => m
      | some i => growSet order avail n f (mapPut m i true)

/-- Does swapping cell `i` of the set for cell `o` outside gain more than the band (R209)? -/
def swapGain (key : Nat → Nat) (dir : Bool) (band o i : Nat) : Bool :=
  if dir then decide (key i + band < key o) else decide (key o + band < key i)

/-- The swap loop of R209: the set and the swaps made. -/
def swapLoop (order : List Nat) (key : Nat → Nat) (dir : Bool) (band : Nat) (avail : BitVec 96) :
    Nat → BitVec 96 → Nat → BitVec 96 × Nat
  | 0, m, k => (m, k)
  | f + 1, m, k =>
    match mostPref order (avail &&& ~~~ m), mostPref order.reverse m with
    | some o, some i =>
      if swapGain key dir band o i then
        swapLoop order key dir band avail f (mapPut (mapPut m i false) o true) (k + 1)
      else (m, k)
    | _, _ => (m, k)

/-- Would one more swap gain? -/
def swapMore (order : List Nat) (key : Nat → Nat) (dir : Bool) (band : Nat) (avail m : BitVec 96) : Bool :=
  match mostPref order (avail &&& ~~~ m), mostPref order.reverse m with
  | some o, some i => swapGain key dir band o i
  | _, _ => false

/-- The allocation of R209 on a string with the request (n, dir): the set in force, N in force and the status. A
blocked string's allocation inserts no cell (R211). -/
def allocate (x : StringSt) (key : Nat → Nat) (band swmax n : Nat) (dir blocked : Bool) : StringSt :=
  let order := if dir then x.order.reverse else x.order
  let avail := if blocked then 0 else x.avail
  let m := x.setF &&& avail
  let want := Nat.min n (count96 avail)
  let m := growSet order avail want 96 (shrinkSet order want 96 m)
  let r := swapLoop order key dir band avail swmax m 0
  { x with
    setF := r.1, nForce := want, dir := dir, swaps := r.2, nclamp := decide (count96 avail < n),
    swapcap := decide (r.2 = swmax) && swapMore order key dir band avail r.1, rdy := true, req := none }

/-! ## The string status block (R205, Tables SS-6 and SS-7) -/

/-- The string flags (Table SS-7). -/
def strFlags (s : State) (st : Nat) (derated : Bool) : Nat :=
  let x := s.string st
  let bit (b : Bool) (n : Nat) : Nat := if b then 2 ^ n else 0
  bit (s.strEn st) 0 + bit (s.strBlocked st) 1 + bit derated 2 + bit x.margin 3 + bit x.belowMin 4 +
  bit x.nclampPrev 5 + bit x.sortLatePrev 6 + bit x.mirrored 7

/-- The little-endian bytes of a number. -/
def leBytes (v : Nat) : Nat → List Byte
  | 0 => []
  | n + 1 => BitVec.ofNat 8 v :: leBytes (v / 256) n

/-- The 128 bytes of a string's status block: LADDER is `level`, DERATED and DERATE follow `derated`. -/
def statusBlock (s : State) (st level : Nat) (derated : Bool) : List Byte :=
  let x := s.string st
  let byp := BitVec.ofNat 96 ((s.cellsOf st).foldl (fun a c => if (s.cell c).bypConf then a ||| 2 ^ s.cellIdx c else a) 0)
    ||| s.strMap st 12
  leBytes (count96 x.avail) 2 ++ leBytes (s.cellsOf st).length 2 ++ leBytes (strFlags s st derated) 2 ++
  leBytes (if derated then s.rd (0x2100 + st) 11 else 32767) 2 ++ leBytes s.clk.tick.toNat 4 ++
  leBytes level 1 ++ leBytes (s.rd (0x2100 + st) 8) 1 ++ leBytes (s.rd (0x2100 + st) 14) 1 ++
  leBytes (s.rd (0x2100 + st) 15) 1 ++ leBytes x.avail.toNat 12 ++ leBytes 0 4 ++ leBytes byp.toNat 12 ++ leBytes 0 4 ++
  leBytes x.setF.toNat 12 ++ leBytes 0 4 ++ leBytes x.staleMap.toNat 12 ++ leBytes 0 4 ++
  leBytes (x.availPrev &&& ~~~ x.avail).toNat 12 ++ leBytes 0 36

end Sys2Proof.Machine
end

