-- ==== Sys2Proof/Machine/Builder.lean ====
section
/-! DEFINITION. The Weave builder: requests of the three command forms, dead time, minimum pulse, bootstrap refresh,
reloads, update points, coast patterns (chapter "Legs, edges and the switching schedule"). Times are in 1/256 ns
relative to the boundary of the tick in progress. -/

namespace Sys2Proof.Machine

/-- A leg profile (Tables SW-1 and SW-2), times in 1/256 ns. -/
structure Prof where
  outmode : Nat
  adapt : Bool
  bsrEn : Bool
  stretch : Bool
  updMid : Bool
  dtR : Int
  dtF : Int
  mpw : Int
  bsrMax : Int
  bsrW : Int
  deriving DecidableEq, Repr

/-- Profile `p` in force. -/
def State.prof (s : State) (p : Nat) : Prof :=
  let r (sub : Nat) : Nat := s.rd (0x2060 + p) sub
  { outmode := bitsN (r 1) 5 4, adapt := (r 1).testBit 3, bsrEn := (r 1).testBit 2, stretch := (r 1).testBit 1,
    updMid := (r 1).testBit 0, dtR := 256 * r 2, dtF := 256 * r 3, mpw := 256 * r 4, bsrMax := 256000 * r 5,
    bsrW := 256 * r 6 }

/-! ## Requests -/

/-- The on-state a request's two bits ask for: [1] high, [0] low (Table SW-7). -/
def reqState (r : Nat) : EdgeSt :=
  match r % 4 with
  | 0 => .off | 1 => .low | 2 => .high | _ => .reject

/-- A request under OUTMODE (R154): 1 drops the low bit, 2 the high bit. -/
def outReq (mode : Nat) (r : EdgeSt) : EdgeSt :=
  if mode = 1 then (match r with
    | .high => .high | .reject => .high | .low => .off | .off => .off)
  else if mode = 2 then (match r with
    | .low => .low | .reject => .low | .high => .off | .off => .off)
  else r

/-- The requests of one carrier period that starts at `s`, HIGH being `h1` in its first half and `h2` in its second
(R151). -/
def carrierPeriod (saw : Bool) (p h1 h2 : Nat) (s : Int) : List (Int × EdgeSt) :=
  let half : Int := (p / 2 : Nat)
  if saw then
    if h1 = 0 then [(s, .low)]
    else (s, .high) ::
      (if h1 ≤ p / 2 then (if h1 = p then [] else [(s + h1, EdgeSt.low)])
       else if h2 = p then [] else [(s + (if (h2 : Int) < half then half else (h2 : Int)), .low)])
  else
    let fall : List (Int × EdgeSt) := if h2 = p then [] else [(s + half + ((h2 - h2 / 2 : Nat) : Int), .low)]
    if h1 = 0 then [(s, .low)]
    else if h1 = p then (s, .high) :: fall
    else (s, .low) :: (s + half - ((h1 / 2 : Nat) : Int), .high) :: fall

/-- The first period start at or after `t`. -/
def periodAt (p : Nat) (a t : Int) : Int := a + -(Int.fdiv (a - t) (p : Int)) * (p : Int)

/-- The period starts from `t` on that lie before `u`. -/
def periodStarts (p : Nat) (a t u : Int) : List Int :=
  let s := periodAt p a t
  ((List.range 60).map (fun (i : Nat) => s + (i : Int) * (p : Int))).filter (fun x => decide (x < u))

/-- One transition of a bridge leg in half-period `h` (R152): role 0 primary a, 1 primary b, 2 secondary a, 3 secondary b. -/
def pspTrans (role h p : Nat) (s phi : Int) (d1 d2 : Nat) : Int × EdgeSt :=
  let o : Int := if role = 0 then 0 else if role = 1 then (d1 : Int) else if role = 2 then phi else phi + (d2 : Int)
  (s + (if h = 0 then 0 else ((p / 2 : Nat) : Int)) + o, if (role + h) % 2 = 0 then .high else .low)

/-- Ordering of requests by time, stable. -/
def insReq (x : Int × EdgeSt) : List (Int × EdgeSt) → List (Int × EdgeSt)
  | [] => [x]
  | y :: t => if x.1 < y.1 then x :: y :: t else y :: insReq x t

/-- Requests in ascending time, equal times in the order given. -/
def sortReq (l : List (Int × EdgeSt)) : List (Int × EdgeSt) := l.foldl (fun a x => insReq x a) []

/-- A request with the start of the half-period, or period, that it belongs to. -/
structure WReq where
  s : Int
  r : Int × EdgeSt
  deriving DecidableEq, Repr

/-- The requests of a set whose half-period, or period, starts in [lo, hi), each with that start. -/
def setWReqs (role : Nat) (c : CmdSet) (lo hi : Int) : List WReq :=
  match c with
  | .carrier saw p a h => (periodStarts p a lo hi).flatMap (fun s => (carrierPeriod saw p h h s).map (fun x => ⟨s, x⟩))
  | .explicit _ => []
  | .psp p a phi d1 d2 _ =>
    (periodStarts p a (lo - p) hi).flatMap (fun s =>
      let m := s + ((p / 2 : Nat) : Int)
      (if lo ≤ s then [⟨s, pspTrans role 0 p s phi d1 d2⟩] else []) ++
      (if lo ≤ m ∧ m < hi then [⟨m, pspTrans role 1 p s phi d1 d2⟩] else []))

/-- The requests of a set whose half-period, or period, starts in [lo, hi). -/
def setReqs (role : Nat) (c : CmdSet) (lo hi : Int) : List (Int × EdgeSt) := (setWReqs role c lo hi).map (·.r)

/-- The period of a set; 0 for the explicit form. -/
def CmdSet.per : CmdSet → Nat
  | .carrier _ p _ _ => p | .explicit _ => 0 | .psp p _ _ _ _ _ => p
/-- The anchor of a set. -/
def CmdSet.anc : CmdSet → Int
  | .carrier _ _ a _ => a | .explicit _ => 0 | .psp _ a _ _ _ _ => a
/-- The set with another anchor. -/
def CmdSet.withAnc (c : CmdSet) (a : Int) : CmdSet :=
  match c with
  | .carrier saw p _ h => .carrier saw p a h
  | .explicit r => .explicit r
  | .psp p _ phi d1 d2 c => .psp p a phi d1 d2 c
/-- The set seen from a boundary `d` later. -/
def CmdSet.shift (c : CmdSet) (d : Int) : CmdSet := c.withAnc (c.anc - d)

/-- Do two sets differ in PERIOD or ANCHOR? -/
def CmdSet.newWave (o n : CmdSet) : Bool :=
  !decide (o.per = n.per ∧ Int.fmod (o.anc - n.anc) (2 ^ 40 : Nat) = 0)

/-- The state a set's waveform gives at a time. -/
def setState (role : Nat) (c : CmdSet) (t : Int) : EdgeSt :=
  ((sortReq ((setReqs role c (t - 3 * c.per) (t + 1 + c.per)).filter (fun x => decide (x.1 ≤ t)))).getLast?.map (·.2)).getD .off

/-- What a change from the set `o` to the set `n` at `u` makes of the requests placed up to `far`: a first set, or one with a new
PERIOD or ANCHOR, cuts what was before (R150); a phase-shift pair's transition belongs to the set in force at the start of its
half-period (R152); a mid-period of a carrier changes only what follows it (R151). -/
def changeReqs (role : Nat) (o : Option CmdSet) (n : CmdSet) (u far : Int) (l : List WReq) : List WReq :=
  let before := l.filter (fun x => decide (x.r.1 < u))
  let cut := before ++ ⟨u, (u, setState role n u)⟩ :: (setWReqs role n (u - 3 * n.per) far).filter (fun x => decide (u < x.r.1))
  match o, n with
  | some (.carrier saw p a h), .carrier _ _ _ h' =>
    if CmdSet.newWave (.carrier saw p a h) n then cut
    else if Int.fmod (u - a) p = 0 then before ++ setWReqs role n u far
    else
      let s := u - ((p / 2 : Nat) : Int)
      before ++ ((carrierPeriod saw p h h' s).filter (fun x => decide (u ≤ x.1))).map (fun x => ⟨s, x⟩) ++ setWReqs role n (s + p) far
  | some (.psp p a x y z w), .psp .. =>
    if CmdSet.newWave (.psp p a x y z w) n then cut
    else l.filter (fun x => decide (x.s < u)) ++ setWReqs role n u far
  | _, _ => cut

/-- The requests of a leg from `lo` to `far`: the set `first` to begin with, each set of `l` from its instant on. -/
def waveReqs (role : Nat) (first : Option CmdSet) (l : List (Int × CmdSet)) (lo far : Int) : List (Int × EdgeSt) :=
  let base := (first.map (fun c => setWReqs role c (lo - 3 * c.per) far)).getD []
  let r := l.foldl (fun (a : Option CmdSet × List WReq) x =>
    if far ≤ x.1 then a else (some x.2, changeReqs role a.1 x.2 x.1 far a.2)) (first, base)
  sortReq ((r.2.map (·.r)).filter (fun x => decide (lo ≤ x.1 ∧ x.1 < far)))

/-- The longest period of the sets of a leg. -/
def longest (first : Option CmdSet) (l : List (Int × CmdSet)) : Nat :=
  l.foldl (fun a x => Nat.max a x.2.per) ((first.map CmdSet.per).getD 0)

/-- The state that the sets of a leg give it at a time; both-off before the first. -/
def waveAt (role : Nat) (first : Option CmdSet) (l : List (Int × CmdSet)) (t : Int) : EdgeSt :=
  let m : Int := longest first l
  (((waveReqs role first l (t - 2 * m) (t + 1 + 2 * m)).filter (fun x => decide (x.1 ≤ t))).getLast?.map (·.2)).getD .off

/-- The changes that a list of ended sets and the set in force after them show. -/
def changesOf (cur : Option CmdSet) : List (Option CmdSet × Int) → List (Int × CmdSet)
  | [] => []
  | (_, u) :: t => (((t.head?.map (·.1)).getD cur).map (fun c => (u, c))).toList ++ changesOf cur t

/-- The set that a leg's history begins with. -/
def LegB.firstSet (l : LegB) : Option CmdSet := (l.past.head?.map (·.1)).getD l.inForce

/-! ## Edges of transitions (R153 to R156) -/

/-- A leg's state after an edge; an edge to the state it has changes nothing. -/
def LegW.feed (w : LegW) (e : TEdge) : LegW :=
  if (e.st = .high ∧ w.cur = .high) ∨ (e.st = .low ∧ w.cur = .low) then w
  else match e.st with
  | .high => { w with cur := .high, onAt := e.t, bsr := some e.t }
  | .low => { w with cur := .low, onAt := e.t, bsr := none }
  | _ => match w.cur with
    | .high => { w with cur := .off, offHigh := e.t, bsr := none }
    | .low => { w with cur := .off, offLow := e.t, bsr := none }
    | _ => { w with bsr := none }

/-- A leg's state after a list of edges. -/
def LegW.feedAll (w : LegW) (l : List TEdge) : LegW := l.foldl LegW.feed w

/-- What the builder has placed for a leg in one reload: the state at its start, the edges (latest first; the oldest `fix` of
them stand since an earlier reload, R160) and what happened on the way. -/
structure Walk where
  base : LegW
  es : List TEdge
  fix : Nat
  mpw : Bool
  bsr : Bool
  late : Bool
  ilk : Bool
  deriving DecidableEq, Repr

/-- A reload begins: the edges that stand come first. -/
def Walk.start (w : LegW) (fixed : List TEdge) : Walk := ⟨w, fixed.reverse, fixed.length, false, false, false, false⟩

/-- The leg's state after the edges placed so far. -/
def Walk.w (a : Walk) : LegW := a.base.feedAll a.es.reverse

/-- The latest edge where this reload has placed it. -/
def Walk.own (a : Walk) : Option TEdge := if a.fix < a.es.length then a.es.head? else none

/-- The edges this reload has placed, in order. -/
def Walk.placed (a : Walk) : List TEdge := (a.es.take (a.es.length - a.fix)).reverse

/-- Place an edge of the transition that began at `tr` (at this edge: `none`); no two edges of a leg share a time, and none is
placed ahead of one that stands. -/
def Walk.put (a : Walk) (t : Int) (st : EdgeSt) (tr : Option Int) : Walk :=
  let t := match a.es.head? with
    | some e => max t (e.t + 1)
    | none => t
  { a with es := ⟨t, st, 0, tr.getD t⟩ :: a.es }

/-- Is an edge an on-edge? -/
def edgeOn : EdgeSt → Bool
  | .high => true | .low => true | .off => false | .reject => false

/-- Turn the switch that is on off at `t`, under the minimum pulse (R155): a short pulse is dropped where its on-edge is
of this reload and the mode drops, else stretched. -/
def Walk.turnOff (p : Prof) (a : Walk) (t : Int) : Walk :=
  let w := a.w
  if w.cur = .off ∨ w.cur = .highZ then a
  else if p.mpw ≠ 0 ∧ t - w.onAt < p.mpw then
    if a.own.any (fun e => edgeOn e.st) && !p.stretch then { a with es := a.es.drop 1, mpw := true }
    else { a.put (w.onAt + p.mpw) .off none with mpw := true }
  else a.put t .off none

/-- Turn a switch on at `t`, not before the dead time after the opposite switch went off (R153). -/
def Walk.turnOn (p : Prof) (a : Walk) (t : Int) (high : Bool) (tr : Option Int) : Walk :=
  let w := a.w
  let t := if high then max t (w.offLow + p.dtR) else max t (w.offHigh + p.dtF)
  a.put t (if high then .high else .low) tr

/-- A transition from one switch to the other: the off-edge, then the on-edge at `t + dt`. -/
def Walk.swap (p : Prof) (a : Walk) (t dt : Int) (high : Bool) : Walk :=
  let b := a.turnOff p t
  b.turnOn p (t + dt) high (if a.es.length < b.es.length then b.es.head?.map (·.t) else none)

/-- A pending on-edge at or after `t` is removed and never executes (R153); one that an earlier reload placed stands (R160). -/
def Walk.unpend (a : Walk) (t : Int) : Walk :=
  if a.own.any (fun e => edgeOn e.st && decide (t ≤ e.t)) then { a with es := a.es.drop 1 } else a

/-- The time of a transition's first edge: centred dead time in a phase-shift pair (Table SW-9). -/
def firstEdge (p : Prof) (psp : Bool) (t : Int) (r : EdgeSt) : Int :=
  if psp then t - Int.fdiv (if r = .high then p.dtR else p.dtF) 2 else t

/-- Place the edges of one requested transition (Table SW-9, R153, R154); one whose first edge lies before `lo` is late
and dropped whole (R161). A STATE 0b11 edge stands at its time however short the pulse it ends (R154): that R155 does not filter
that pulse is the model's reading (log entry 143). -/
def Walk.request (p : Prof) (psp : Bool) (lo : Int) (a : Walk) (t : Int) (r : EdgeSt) : Walk :=
  let first := firstEdge p psp t r
  if (a.w.cur = .high ∧ r = .high) ∨ (a.w.cur = .low ∧ r = .low) ∨ (a.w.cur = .off ∧ r = .off) then a
  else if first < lo then { a with late := true }
  else
    let b := a.unpend first
    let on := match b.w.cur with
      | .high => true | .low => true | _ => false
    match r with
    | .off => b.turnOff p first
    | .reject => { b.put first .reject none with ilk := true }
    | .high =>
      if b.w.cur = .high then b
      else if on then b.swap p first p.dtR true
      else b.turnOn p (if psp then first + p.dtR else t) true none
    | .low =>
      if b.w.cur = .low then b
      else if on then b.swap p first p.dtF false
      else b.turnOn p (if psp then first + p.dtF else t) false none

/-- Bootstrap refreshes whose t_r lies before both `hi` and the time the schedule leaves high-on (R156, Table SW-10). -/
def Walk.refresh (p : Prof) (lo hi leave : Int) : Nat → Walk → Walk
  | 0, a => a
  | f + 1, a =>
    match a.w.bsr with
    | none => a
    | some b =>
      let tr := max lo (b + p.bsrMax)
      if p.bsrEn && p.outmode == 0 && decide (tr < hi ∧ tr + p.dtF + p.bsrW + p.dtR ≤ leave) then
        Walk.refresh p lo hi leave f
          { (((a.put tr .off (some tr)).put (tr + p.dtF) .low (some tr)).put (tr + p.dtF + p.bsrW) .off (some tr)).put
              (tr + p.dtF + p.bsrW + p.dtR) .high (some tr) with bsr := true }
      else a

/-- The time at which a list of requests first leaves high-on; far away where it does not. -/
def leaveAt (p : Prof) (psp : Bool) (far : Int) : List (Int × EdgeSt) → Int
  | [] => far
  | x :: t => if outReq p.outmode x.2 = .high then leaveAt p psp far t else firstEdge p psp x.1 (outReq p.outmode x.2)

/-- Place all requests whose first edge lies before `hi`; later ones only tell when high-on is left. -/
def Walk.run (p : Prof) (psp : Bool) (lo hi : Int) : List (Int × EdgeSt) → Walk → Walk
  | [], a => Walk.refresh p lo hi (hi + 2000000000) 8 a
  | x :: t, a =>
    let a := Walk.refresh p lo hi (leaveAt p psp (hi + 2000000000) (x :: t)) 8 a
    let r := outReq p.outmode x.2
    if firstEdge p psp x.1 r < hi then Walk.run p psp lo hi t (a.request p psp lo x.1 r) else a

/-! ## Coast patterns (R165 to R167) -/

/-- The entries of one period of a leg's repeated requests, offsets from `a`: the second of the periods placed, so that dead
time and minimum pulse stand as in a placed schedule; the state held where no edge falls in a period (R166). -/
def patEntries (p : Prof) (psp : Bool) (per : Nat) (a : Int) (reqs : List (Int × EdgeSt)) : List (Nat × EdgeSt) :=
  let x := Walk.run { p with bsrEn := false } psp a (a + 3 * (per : Int)) reqs
    (Walk.start { LegW.init with offHigh := a - 2000000, offLow := a - 2000000 } [])
  let es := (x.es.reverse.filter (fun e => decide (a + (per : Int) ≤ e.t ∧ e.t < a + 2 * (per : Int)))).map
    (fun e => ((e.t - a - (per : Int)).toNat, e.st))
  if es.isEmpty then (match x.w.cur with
    | .high => [(0, .high)] | .low => [(0, .low)] | _ => [])
  else es

/-- The entries of a carrier or phase-shift-pair set; PHI is replaced by CPHI. -/
def legPattern (p : Prof) (psp : Bool) (role : Nat) (c : CmdSet) : List (Nat × EdgeSt) :=
  let c := match c with
    | .psp per a _ d1 d2 cphi => CmdSet.psp per a cphi d1 d2 cphi
    | x => x
  let a := c.anc
  patEntries p psp c.per a
    (sortReq ((a, setState role c a) :: (setReqs role c (a - 2 * c.per) (a + 3 * c.per)).filter (fun x => decide (a < x.1))))

/-- The entries of a coast set: its requests, with dead time and minimum pulse as for a placed schedule (R166). -/
def coastPattern (p : Prof) (c : CoastSet) : List (Nat × EdgeSt) :=
  patEntries p false c.period c.anchor
    ((List.range 3).flatMap (fun (i : Nat) => c.ents.map (fun e => (c.anchor + (i * c.period + e.1 : Nat), reqState e.2))))

/-- The coast pattern of one leg, derived from its set in force, or from its coast set for an explicit leg, with the strength
codes of the moment (R165, R166). -/
def LegB.derive (p : Prof) (form role : Nat) (l : LegB) : Option LegPat :=
  let q : Option (Nat × Int × List (Nat × EdgeSt)) :=
    if form = 2 then l.coastSet.map (fun c => (c.period, c.anchor, if c.ents.isEmpty then [] else coastPattern p c))
    else l.inForce.map (fun c => (c.per, c.anc, if c.per = 0 then [] else legPattern p (form == 3) role c))
  q.map (fun x =>
    { period := x.1, anchor := x.2.1, refresh := p.bsrEn && p.outmode == 0 && x.2.2 == [(0, .high)],
      ents := x.2.2.map (fun e => (e.1, e.2, if edgeOn e.2 then l.sOn else l.sOff)) })

/-- The pattern kept, or derived again at a reload that has changed the set in force or the coast set (R165). -/
def LegB.derived (p : Prof) (form role : Nat) (o l : LegB) : LegB :=
  if o.inForce = l.inForce ∧ o.coastSet = l.coastSet then l else { l with pat := l.derive p form role }

/-- How many times a leg's entries stand in a common pattern of period `m`: once per own period; a leg that holds one state
throughout needs its one entry only once. -/
def patReps (m : Nat) (x : LegPat) : Nat := if x.ents.length = 1 then 1 else m / x.period

/-- The entries a leg needs in a common pattern of period `m`: four for a refresh (R166). -/
def patCount (m : Nat) (x : LegPat) : Nat := if x.refresh then 4 else x.ents.length * patReps m x

/-- The leg number within its pattern. -/
def patLeg (h : Nat) : Nat := if 0x8000 ≤ h then h - 0x8000 else h % 8

/-- The legs included in a common pattern: a leg stays out where the least common multiple of the periods would exceed
1 ms or a leg would need more than 16 entries (R167). -/
def joinPats : List (Nat × LegPat) → Nat → List (Nat × LegPat) → Nat × List (Nat × LegPat)
  | [], m, acc => (m, acc)
  | x :: t, m, acc =>
    let m' := Nat.lcm m x.2.period
    if m' ≤ 256000000 ∧ (acc ++ [x]).all (fun y => decide (patCount m' y.2 ≤ 16)) then
      joinPats t m' (acc ++ [x])
    else joinPats t m acc

/-- The four entries of a refresh at the start of a pattern period (R166); none where the period is too short for it. -/
def refreshEnts (p : Prof) (m : Nat) (x : LegPat) : List (Int × EdgeSt × Nat) :=
  let s := ((x.ents.head?).map (·.2.2)).getD 0
  if p.dtF + p.bsrW + p.dtR < (m : Int) then
    [(0, .off, s), (p.dtF, .low, s), (p.dtF + p.bsrW, .off, s), (p.dtF + p.bsrW + p.dtR, .high, s)]
  else [(0, .high, s)]

/-- Pattern entries by ascending offset, stable. -/
def insEnt (x : Int × EdgeSt × Nat) : List (Int × EdgeSt × Nat) → List (Int × EdgeSt × Nat)
  | [] => [x]
  | y :: t => if x.1 < y.1 then x :: y :: t else y :: insEnt x t

/-- The entries of a leg in the common pattern of period `m` and anchor `a`, by ascending offset. -/
def spreadPat (p : Prof) (m : Nat) (a : Int) (h : Nat) (x : LegPat) : List CoastEnt :=
  let es := if x.refresh then refreshEnts p m x
    else (List.range (patReps m x)).flatMap (fun (i : Nat) => x.ents.map (fun e =>
      (Int.fmod (x.anchor + (e.1 : Int) + (i : Int) * (x.period : Int) - a) (m : Int), e.2)))
  (es.foldl (fun l e => insEnt e l) []).map (fun e => { leg := patLeg h, st := e.2.1, strength := e.2.2, offset := e.1.toNat })

/-- The coast pattern of a group of legs as derived at a boundary (R167), its anchor as a TB0 stamp, and the legs left
out. A leg without entries does not join. -/
def State.derivePat (s : State) (hs : List Nat) : CoastPat × List Nat :=
  let ps := hs.filterMap (fun h => (s.leg h).pat.bind (fun q => if q.ents.isEmpty then none else some (h, q)))
  let r := joinPats ps 1 []
  match r.2 with
  | [] => ({ pver := 0, anchor := s.clk.bnd, period := 256000, ents := [] }, ps.map (·.1))
  | x :: _ =>
    let a := periodAt x.2.period x.2.anchor (1 - (x.2.period : Int))
    ({ pver := 0, anchor := tbAdd s.clk.bnd a, period := r.1,
       ents := r.2.flatMap (fun y => spreadPat (s.prof (s.legProf y.1)) r.1 a y.1 y.2) },
     (ps.map (·.1)).filter (fun h => !(r.2.map (·.1)).contains h))

/-- Do two patterns replay the same edges: equal periods and entries, anchors a whole number of periods apart? -/
def patSame (p q : CoastPat) : Bool :=
  decide (p.period = q.period ∧ p.ents = q.ents ∧
    (p.ents = [] ∨ Int.fmod (tbDiff p.anchor q.anchor) p.period = 0))

/-- The edges that a pattern gives a leg in [lo, hi). -/
def State.patEdges (s : State) (p : CoastPat) (leg : Nat) (lo hi : Int) : List TEdge :=
  let a := tbDiff p.anchor s.clk.bnd
  let es := (periodStarts p.period a (lo - p.period) hi).flatMap (fun x =>
    (p.ents.filter (fun e => e.leg == leg)).map (fun e => (⟨x + e.offset, e.st, e.strength, x + e.offset⟩ : TEdge)))
  es.filter (fun e => decide (lo ≤ e.t ∧ e.t < hi))

/-- The state that a pattern gives a leg at a time: that of its latest entry; both-off for a leg without entries. -/
def State.patState (s : State) (p : CoastPat) (leg : Nat) (t : Int) : EdgeSt :=
  (((s.patEdges p leg (t - 2 * p.period) (t + 1)).getLast?).map (·.st)).getD .off

/-- The interlock floor of a leg in 1/256 ns: its node's (copied to ILKDT), or the output stage's. -/
def State.legFloor (s : State) (h : Nat) : Int :=
  256 * (if 0x8000 ≤ h then s.rd (0x2600 + (h - 0x8000)) 6 else s.rd (0x2400 + h / 8) 5)

/-- The edges of leg `h` as it replays a pattern in [lo, hi): first to the pattern's state at `lo`, through the interlock
(R106), then the entries. -/
def State.coastEdges (s : State) (h : Nat) (q : CoastPat) (w : LegW) (lo hi : Int) : List TEdge :=
  let p := s.prof (s.legProf h)
  let a := Walk.run { p with mpw := 0, bsrEn := false, dtR := s.legFloor h, dtF := s.legFloor h } false lo hi
    [(lo, s.patState q (patLeg h) lo)] (Walk.start w [])
  let es := s.patEdges q (patLeg h) (lo + 1) hi
  (a.es.reverse.filter (fun e => es.head?.all (fun x => decide (e.t < x.t)))) ++ es

/-! ## Reloads (R148 to R150, R160 to R164) -/

/-- How long before an update point a set's transitions may begin (R152); `p` holds the longest dead times of the pair. That
a transition lies where its first edge lies, half the dead time early, is the model's reading (log entry 142). -/
def CmdSet.lead (p : Prof) : CmdSet → Int
  | .psp _ _ phi _ d2 _ => max 0 (max (-phi) (-(phi + d2))) + Int.fdiv (max p.dtR p.dtF + 1) 2
  | _ => 0

/-- The update point of a latched set (R150): the first period start of the new set where it changes the waveform or is
the first; else the first update point of the set in force, a period start only where it landed late (R149). -/
def updatePoint (p : Prof) (old : Option CmdSet) (n : CmdSet) (startOnly : Bool) (lo : Int) : Int :=
  let lo := lo + n.lead p
  match old with
  | none => periodAt n.per n.anc lo
  | some o =>
    if o.newWave n then periodAt n.per n.anc lo
    else
      let st := periodAt o.per o.anc lo
      if p.updMid && !startOnly then min st (periodAt o.per (o.anc + ((o.per / 2 : Nat) : Int)) lo) else st

/-- Where a leg that a block has left takes up the waveform (R170), with the time of its first edge: the first period start of the
set in force whose first edge a reload from `lo` on places, or a new waveform's or first set's own instant where that comes before.
`first` gives the first edge's time of a resumption at an instant. -/
def resumeAt (first : Int → Int) (old : Option CmdSet) (cand : Option (CmdSet × Int)) (lo : Int) : Option (Int × Int) :=
  match old with
  | none => cand.map (fun c => (c.2, c.2))
  | some o =>
    let r := periodAt o.per o.anc lo
    let r := if lo ≤ first r then r else r + o.per
    match cand with
    | none => some (r, first r)
    | some (n, u) => some (if r < u ∨ o.newWave n = false then (r, first r) else (u, u))

/-- Sticky status bit set. -/
def orBit (b : Bool) (n : Nat) (x : BitVec 16) : BitVec 16 := if b then x ||| BitVec.ofNat 16 (2 ^ n) else x
/-- Live status bit. -/
def putBit (b : Bool) (n : Nat) (x : BitVec 16) : BitVec 16 :=
  if b then x ||| BitVec.ofNat 16 (2 ^ n) else x &&& ~~~ BitVec.ofNat 16 (2 ^ n)

/-- The strength of an edge: the turn-on code for an on-edge, else the turn-off code (R158). -/
def withStrength (l : LegB) (e : TEdge) : TEdge := { e with str := if edgeOn e.st then l.sOn else l.sOff }

/-- The set that a reload holds for a leg, with its update point: the one it latches, or the one that still waits. -/
def LegB.cand (q : Prof) (form : Nat) (lo : Int) (l : LegB) : Option (CmdSet × Int) :=
  if form = 2 then none
  else match l.port with
    | some n => some (n, updatePoint q l.inForce n l.lateStart lo)
    | none => l.next

/-- A reload has taken what its leg's port held; a coast set changes with it (R149, R407). -/
def LegB.latch (l : LegB) : LegB :=
  { l with
    port := l.portLate.map (·.1), portLate := none, lateStart := l.portLate.any (·.2),
    coastSet := l.coastPort.orElse (fun _ => l.coastSet), coastPort := l.coastLate, coastLate := none,
    reloaded := true, held := none, coastNext := false, learnt := false }

/-- The explicit requests that a reload latches, their times counted from `base` (R150). -/
def LegB.explicitReqs (form : Nat) (base : Int) (l : LegB) : List (Int × EdgeSt) :=
  match form, l.port with
  | 2, some (.explicit rs) => rs.map (fun r => (base + r.1, reqState r.2))
  | _, _ => []

/-- A leg at an instant `lo` of the tick that an earlier reload has built: a set that takes effect only from there on waits again,
and a resumption that lies there has not come (R150, R170). -/
def LegB.rewind (lo : Int) (l : LegB) : LegB :=
  let l := if l.resumed.any (fun f => decide (lo ≤ f)) then { l with blocked := true, resumed := none } else l
  match l.past.getLast? with
  | some (o, u) => if lo ≤ u then { l with past := l.past.dropLast, inForce := o, next := l.inForce.map (fun c => (c, u)) } else l
  | none => l

/-- A set takes effect at `u`; ended sets too old to bear on the requests from `lo` on are forgotten. -/
def LegB.follow (n : Option CmdSet) (u lo : Int) (l : LegB) : LegB :=
  let per : Int := (n.map CmdSet.per).getD 0
  { l with inForce := n, past := (l.past ++ [(l.inForce, u)]).dropWhile (fun x => decide (x.2 < lo - 2 * per)) }

/-- Reload one leg: latch its last committed sets and place its edges from `lo` to `hi`; `base` is the start of the tick
that an explicit set's offsets count from, `start` the leg's state before `lo`, `fixed` the edges that stand; with `sync` the leg takes
the state that its sets give at `lo`. `p` is the leg's profile, `q` decides its update points. A set whose update point is past
governs already. -/
def buildLeg (p q : Prof) (form role : Nat) (sync : Bool) (lo hi base : Int) (start : LegW)
    (fixed : List TEdge) (l : LegB) : LegB :=
  let l := l.rewind lo
  let c := l.cand q form lo
  let early := c.any (fun x => decide (x.2 < lo))
  let m := if early then l.follow (c.map (·.1)) ((c.map (·.2)).getD lo) lo else l
  let cand := if early then none else c
  let chg := changesOf m.inForce m.past ++ (cand.map (fun x => (x.2, x.1))).toList
  let far := hi + 2000000 + 2 * (longest m.firstSet chg : Int)
  let edgeOf (r : Int) : Int := firstEdge p (form == 3) r (outReq p.outmode (waveAt role m.firstSet chg r))
  let ready := resumeAt edgeOf m.inForce cand lo
  let reqs := if form = 2 then m.explicitReqs form base
    else if m.blocked then (match ready with
      | none => []
      | some r => (r.1, waveAt role m.firstSet chg r.1) :: waveReqs role m.firstSet chg (r.1 + 1) far)
    else (if sync && m.inForce.isSome then [(lo - (edgeOf lo - lo), waveAt role m.firstSet chg lo)] else []) ++
      waveReqs role m.firstSet chg lo far
  let a := Walk.run p (form == 3) lo hi reqs (Walk.start start fixed)
  let all := fixed ++ a.placed.map (withStrength m)
  let due := cand.any (fun x => decide (x.2 < hi))
  let m' := if due then m.follow (cand.map (·.1)) ((cand.map (·.2)).getD hi) lo else m
  { m'.latch with
    inForce := if form = 2 then none else m'.inForce, past := if form = 2 then [] else m'.past,
    next := if due then none else cand,
    blocked := m.blocked && m.inForce.isSome && ready.any (fun r => decide (hi ≤ r.2)),
    resumed := if m.blocked then (ready.map (·.2)).filter (fun f => decide (f < hi)) else m.resumed,
    both := if form = 2 then (reqs.getLast?.map (fun x => outReq p.outmode x.2 == .reject)).getD m.both else false,
    sched := all.filter (fun e => decide (e.t < hi)), carried := all.filter (fun e => decide (hi ≤ e.t)),
    status := putBit (all.any (fun e => decide (hi ≤ e.t))) 8 (orBit a.mpw 4 (orBit a.bsr 3 (orBit a.late 6 (orBit a.ilk 1 m.status)))) }

/-- A leg whose commands are dropped: no edge placed, nothing carried, both-off (R157, R170). -/
def LegB.dropped (l : LegB) : LegB :=
  { l with
    port := none, portLate := none, lateStart := false, coastPort := none, coastLate := none, next := none, past := [],
    sched := [], carried := [], blocked := true, resumed := none, reloaded := true, held := none, coastNext := false, learnt := false, suppOut := false,
    status := putBit false 8 l.status }

/-- Is a leg one of a type D cell that is being bypassed, on an LV node that takes no bypass command: it receives no further commands
and stays both-off (R213)? -/
def State.legOut (s : State) (h : Nat) : Bool :=
  decide (h < 0x8000) && (s.legCell (h / 8) (h % 8)).any (fun c =>
    h / 8 == s.lvSlot c && s.cellType c == 3 && (s.strMap (s.cellStr c) 12).getLsbD (s.cellIdx c) && !s.rdBit (0x2200 + c) 6 1)

/-- Is a leg blocked: its string or the cluster, a local leg's gates, or a leg fault, or after a gate an interlock bit not yet
cleared (R157, R170, R230)? In READY the builder discards all commands (R174). -/
def State.legBlocked (s : State) (h : Nat) : Bool :=
  let l := s.leg h
  !s.running || l.status.getLsbD 0 ||
  (if 0x8000 ≤ h then
     let x := s.loc (h - 0x8000)
     x.gTrip || x.gComp || x.gDrven || x.gFlt || x.gReset || x.gDebug || x.gBlock || x.gString ||
     (l.blocked && (l.status.getLsbD 1 || l.status.getLsbD 10))
   else (s.legCell (h / 8) (h % 8)).any (fun c => s.strBlocked (s.cellStr c)) || s.legOut h)

/-- Raise the source of a leg for the status bits that have come up since `before` (R146). -/
def State.legRaise (s : State) (h : Nat) (before : BitVec 16) : State :=
  let now := (s.leg h).status &&& ~~~ before
  if now &&& 0x0467 = 0 then s else s.occur (s.legSrc h)

/-- Set status bits of a leg, raising its source where R146 says so. -/
def State.legFlag (s : State) (h : Nat) (bits : BitVec 16) : State :=
  let l := s.leg h
  (s.setLeg h { l with status := l.status ||| bits }).legRaise h l.status

/-- The role of a leg in its phase-shift pair. -/
def State.legRole (s : State) (h : Nat) : Nat := ((s.legCell (h / 8) (h % 8)).map (fun k => s.pairRole k h)).getD 0

/-- The pattern that a leg replays: the one its node was sent last and has stored, or the local legs' (R165). -/
def State.patOf (s : State) (h : Nat) : CoastPat :=
  if 0x8000 ≤ h then s.fld.localPat else (s.slot (h / 8)).patSent.getD (s.slot (h / 8)).pat

/-- The legs of a leg's phase-shift pair; the leg alone in every other form. -/
def State.unitLegs (s : State) (h : Nat) : List Nat :=
  if s.legForm h = 3 then ((s.legCell (h / 8) (h % 8)).map s.pairLegs).getD [h] else [h]

/-- The profile that decides a leg's update points. A phase-shift pair has one latch for its four legs (R152): the longest dead
times of the four, and UPD_MID of the leg whose handle commits the set. -/
def State.updProf (s : State) (h : Nat) : Prof :=
  let ps := (s.unitLegs h).map (fun j => s.prof (s.legProf j))
  let p := s.prof (s.legProf h)
  { p with
    updMid := (ps.head?.map (·.updMid)).getD p.updMid, dtR := ps.foldl (fun a x => max a x.dtR) p.dtR,
    dtF := ps.foldl (fun a x => max a x.dtF) p.dtF }

/-- Do a blocked leg's commands go on all the same: a phase-shift pair of which another leg is not blocked (R170)? -/
def State.unitGoesOn (s : State) (h : Nat) : Bool := (s.unitLegs h).any (fun j => !s.legBlocked j)

/-- What a leg's reload at t_dl makes of it (R148). After a coasted tick it starts from the pattern's state (R164). -/
def State.reloadTo (s : State) (h : Nat) (l : LegB) : LegB :=
  let p := s.prof (s.legProf h)
  let role := s.legRole h
  let lo : Int := s.tTb
  (buildLeg p (s.updProf h) (s.legForm h) role (l.coasting || l.learnt) lo (2 * lo) lo (l.w.feedAll l.remain) l.carried l).derived p (s.legForm h) role l

/-- The largest strength code of a node leg: the profile's, held to the node's STRN - 1 (R158). -/
def State.strMax (s : State) (h : Nat) : Nat :=
  let m := bitsN (s.rd (0x2060 + s.legProf h) 11) 2 0
  match (s.slot (h / 8)).ident with
  | some i => Nat.min m (i.strn - 1)
  | none => m

/-- The initial strength code of a leg (R158). -/
def State.strInit (s : State) (h : Nat) : Nat := Nat.min (s.strMax h) (bitsN (s.rd (0x2060 + s.legProf h) 11) 10 8)

/-- A blocked leg drops its commands; its strength codes stay at the initial ones to the end of the block (R158, R170). -/
def State.droppedLeg (s : State) (h : Nat) : LegB := { (s.leg h).dropped with sOn := s.strInit h, sOff := s.strInit h }

/-- A leg that is left out of service turns off at the start of tick k + 1, with no set and no entry in a pattern (R213). -/
def State.outLeg (s : State) (h : Nat) : LegB :=
  let p := s.prof (s.legProf h)
  let lo : Int := s.tTb
  let l := s.leg h
  let a := Walk.run { p with mpw := 0, bsrEn := false } false lo (2 * lo) [(lo, .off)] (Walk.start (l.w.feedAll l.remain) [])
  { s.droppedLeg h with sched := a.placed.map (withStrength l), inForce := none, pat := none, coastSet := none }

/-- Reload a leg at t_dl for tick k + 1. Of a pair leg blocked alone only the pair's set goes on. -/
def State.reloadLeg (s : State) (h : Nat) : State :=
  let l := s.leg h
  if s.legOut h && s.running && !l.status.getLsbD 0 then s.setLeg h (s.outLeg h)
  else if s.legBlocked h then
    if s.unitGoesOn h then
      let x := s.reloadTo h { l with blocked := false, resumed := none }
      s.setLeg h { s.droppedLeg h with
        port := x.port, portLate := x.portLate, lateStart := x.lateStart, inForce := x.inForce, past := x.past, next := x.next,
        pat := x.pat }
    else s.setLeg h (s.droppedLeg h)
  else (s.setLeg h (s.reloadTo h l)).legRaise h l.status

/-- Let a leg replay its coast pattern in tick k + 1. -/
def State.coastLeg (s : State) (h : Nat) : State :=
  let l := s.leg h
  let lo : Int := s.tTb
  if s.legBlocked h then s.setLeg h { l with
    sched := if s.legOut h then l.sched else [], carried := [], blocked := true, resumed := none, coastNext := true }
  else s.setLeg h { l with
    sched := s.coastEdges h (s.patOf h) (l.w.feedAll l.remain) lo (2 * lo),
    carried := [], coastNext := true, status := putBit false 8 l.status }

/-- The reload of a leg without a schedule for tick k + 1 (R22): its sets are latched in their turn, no edge of them stands. -/
def State.lostLeg (s : State) (h : Nat) : State :=
  let l := s.leg h
  if s.legBlocked h then s.reloadLeg h
  else s.setLeg h { s.reloadTo h l with
    sched := [], carried := [], status := putBit false 8 l.status, both := l.both, blocked := l.blocked, resumed := none }

/-- Where a release changes an explicit leg in tick k: the first edge of the first of its requests that lies in tick k and is
not late (R161, R162). -/
def explicitCut (p : Prof) (hor t : Int) (reqs : List (Int × EdgeSt)) : Option Int :=
  ((reqs.map (fun x => firstEdge p false x.1 x.2)).filter (fun x => decide (hor ≤ x ∧ x < t))).head?

/-- What a leg's release reload makes of it (R148, R160, R162): the transitions that began before `cut` stand, but for one that runs
on into tick k + 1 and begins at or after the horizon; the rest of tick k from the horizon on and tick k + 1 are built from the released
set. A phase-shift-pair leg is rebuilt from tick k + 1 only; the
schedule of an explicit leg stands up to the first released request in tick k (log entry 144). -/
def State.releaseTo (s : State) (hor : Int) (h : Nat) (l : LegB) : LegB :=
  let p := s.prof (s.legProf h)
  let f := s.legForm h
  let t : Int := s.tTb
  let cut := if f = 3 then t else if f = 2 then (explicitCut p hor t (l.explicitReqs f t)).getD t else hor
  let lo := if f = 3 then t else hor
  let begun (e : TEdge) : Bool := f == 3 || decide (e.tr < hor)
  let kept := l.remain.filter (fun e => decide (e.tr < cut) && (begun e || !l.carried.any (fun c => decide (c.tr = e.tr))))
  let carried := l.carried.filter begun
  let before := kept.filter (fun e => decide (e.t < lo))
  let x := (buildLeg p (s.updProf h) f (s.legRole h) (f == 1 || l.coasting || l.learnt) lo (2 * t) t (l.w.feedAll before)
    (kept.filter (fun e => decide (lo ≤ e.t)) ++ carried) l).derived p f (s.legRole h) l
  let sup := x.sched.filter (fun e => decide (e.t < t))
  { x with
    remain := before ++ sup, sched := x.sched.filter (fun e => decide (t ≤ e.t)),
    suppOut := decide (before ++ sup ≠ l.remain) && !sup.isEmpty }

/-- A supplementary record can replace a node leg's schedule of tick k only from an edge of its own on (R162): where the release
leaves none to send, a node leg keeps its schedule of tick k whole (log entry 144). -/
def State.releaseFit (s : State) (hor : Int) (h : Nat) (l : LegB) : LegB :=
  let x := s.releaseTo hor h l
  if h < 0x8000 ∧ x.suppOut = false ∧ x.remain ≠ l.remain then s.releaseTo s.tTb h l else x

/-- The release reload of a leg; a blocked leg's commands are dropped. -/
def State.releaseLeg (s : State) (hor : Int) (h : Nat) : State :=
  let l := s.leg h
  if s.legBlocked h then s.reloadLeg h
  else (s.setLeg h (s.releaseFit hor h l)).legRaise h l.status

/-- The legs that R164 leaves out of a node's record: some leg above 8 edges, or the node above its reservation. -/
def State.slotOver (s : State) (n : Nat) : List Nat :=
  let hs := s.slotLegs n
  let full := hs.filter (fun h => decide (8 < (s.leg h).sched.length))
  if full ≠ [] then full
  else if s.rd (0x2400 + n) 4 < (hs.map (fun h => (s.leg h).sched.length)).foldl (· + ·) 0 then
    hs.filter (fun h => !(s.leg h).sched.isEmpty)
  else []

/-- Does a slot's node coast the next tick, so that no record names it? -/
def State.slotCoasts (s : State) (n : Nat) : Bool := (s.slotLegs n).any (fun h => (s.leg h).coastNext)

/-- Apply R164 to a node slot: EDGE_OVF on the offending legs, and the node's legs coast; with one leg that coasts all of them do. -/
def State.slotFit (s : State) (n : Nat) : State :=
  if s.slotCoasts n then ((s.slotLegs n).filter (fun h => !(s.leg h).coastNext)).foldl (fun s h => s.coastLeg h) s
  else match s.slotOver n with
  | [] => s
  | full => (s.slotLegs n).foldl (fun s h => s.coastLeg h) (full.foldl (fun s h => s.legFlag h 0x20) s)

/-- Derive a node slot's coast pattern again (R165), keeping the one held where it replays the same edges, and set
COAST_PART on the legs left out. -/
def State.slotPattern (s : State) (n : Nat) : State :=
  let hs := s.slotLegs n
  let r := s.derivePat hs
  let x := s.slot n
  let s := if patSame x.pat r.1 then s else s.setSlot n { x with pat := r.1 }
  hs.foldl (fun s h => s.setLeg h { s.leg h with status := putBit (r.2.contains h) 9 (s.leg h).status }) s

/-- As `slotPattern`, for the local legs. -/
def State.localPattern (s : State) : State :=
  let r := s.derivePat s.localLegs
  let s := if patSame s.fld.localPat r.1 then s else { s with fld.localPat := r.1 }
  s.localLegs.foldl (fun s h => s.setLeg h { s.leg h with status := putBit (r.2.contains h) 9 (s.leg h).status }) s

/-- A leg's state seen from a boundary `d` later. -/
def LegW.back (w : LegW) (d : Int) : LegW :=
  { w with onAt := max farPast (w.onAt - d), offHigh := max farPast (w.offHigh - d), offLow := max farPast (w.offLow - d),
           bsr := w.bsr.map (· - d) }

/-- A leg seen from the next boundary, `d` later: its state moves past the tick that ends, the schedule of the new tick
comes into force. -/
def LegB.nextTick (d : Int) (l : LegB) : LegB :=
  let sh (e : TEdge) : TEdge := { e with t := e.t - d, tr := e.tr - d }
  { l with
    w := (l.w.feedAll l.remain).back d, wPrev := l.w.back d, coasted := l.coasting,
    pat := l.pat.map (fun q => { q with anchor := q.anchor - d }),
    remain := l.sched.map sh, sched := [], carried := l.carried.map sh, execd := 0,
    port := l.port.map (·.shift d), portLate := l.portLate.map (fun x => (x.1.shift d, x.2)), inForce := l.inForce.map (·.shift d),
    past := l.past.map (fun x => (x.1.map (·.shift d), x.2 - d)),
    resumed := (l.resumed.map (· - d)).filter (fun f => decide (0 ≤ f)), held := none,
    next := l.next.map (fun x => (x.1.shift d, x.2 - d)),
    coastPort := l.coastPort.map (fun c => { c with anchor := c.anchor - d }),
    coastLate := l.coastLate.map (fun c => { c with anchor := c.anchor - d }),
    coastSet := l.coastSet.map (fun c => { c with anchor := c.anchor - d }),
    reloaded := false, coasting := l.coastNext, coastNext := false, suppOut := false }

/-- Every builder leg that has a command form. -/
def State.formLegs (s : State) : List Nat :=
  (List.range 384).flatMap (fun n => if (s.slotNode n).isSome then s.slotLegs n else []) ++ s.localLegs

/-- Every leg starts a READY with no set in force, both-off, at its initial strengths (R150, R158). -/
def State.legsToReady (s : State) : State :=
  let t : State := { s with fld.legs := Tab.mapV LegB.init (fun l => { LegB.init with status := l.status }) s.fld.legs }
  s.formLegs.foldl (fun t h => t.setLeg h { t.leg h with sOn := s.strInit h, sOff := s.strInit h }) t

/-- A block reaches legs: their edges not yet executed are cancelled, their commands discarded (R170). -/
def LegB.cut (l : LegB) : LegB :=
  let w := l.w.feedAll (l.remain.take l.execd)
  { l.dropped with
    remain := [], execd := 0, w := { w with cur := .off, bsr := none }, reloaded := l.reloaded, coasting := false }

/-- Cut every leg that a test names; its strength codes return to the initial one (R158). -/
def State.cutLegs (s : State) (p : Nat → Bool) : State :=
  { s with fld.legs := Tab.mapKV LegB.init (fun h l => if p h then { l.cut with sOn := s.strInit h, sOff := s.strInit h } else l) s.fld.legs }

/-! ## Validation of sets (R147, R152, R183, R407) -/

/-- A staged word of an engine. -/
def Engine.stw (x : Engine) (i : Nat) : Nat := (Tab.get (0 : Word) i x.stage).toNat

/-- A staged 40-bit anchor, relative to the boundary of the tick in progress. -/
def State.stAnchor (s : State) (x : Engine) : Int :=
  tbDiff (BitVec.ofNat 40 (x.stw 2 * 2 ^ 32 + x.stw 3)) s.clk.bnd

/-- The explicit requests staged: offset and REQ. -/
def stReqs (x : Engine) (n : Nat) : List (Int × Nat) :=
  (List.range n).map (fun i => (toSigned 32 (x.stw (1 + i)), bitsN (x.stw 9) (2 * i + 1) (2 * i)))

/-- Are numbers strictly increasing? -/
def increasing : List Int → Bool
  | [] => true
  | [_] => true
  | a :: b :: t => decide (a < b) && increasing (b :: t)

/-- The command set staged for a leg of a form, where it obeys its table (R147, Tables SW-6 to SW-8, CE-12). -/
def State.stagedSet (s : State) (x : Engine) (form : Nat) (old : Option CmdSet) : Option CmdSet :=
  let t := s.tTb
  if form = 1 then
    let p := x.stw 1
    if x.stw 0 ≤ 1 ∧ x.stw 2 < 256 ∧ t ≤ 2 * p ∧ p ≤ 256000000 ∧ x.stw 4 ≤ p then
      some (.carrier (x.stw 0 == 1) p (s.stAnchor x) (x.stw 4))
    else none
  else if form = 2 then
    let n := x.stw 0
    let rs := stReqs x n
    if n ≤ 8 ∧ x.stw 9 < 65536 ∧ increasing (rs.map (·.1)) ∧ rs.all (fun r => decide (-(t : Int) ≤ r.1 ∧ r.1 < t)) then
      some (.explicit rs)
    else none
  else if form = 3 then
    let p := x.stw 1
    let phi := toSigned 32 (x.stw 4)
    let cphi := toSigned 32 (x.stw 7)
    let step (q : Nat) (a b : Int) : Bool := decide (4 * (a - b).natAbs < q)
    if x.stw 0 = 0 ∧ x.stw 2 < 256 ∧ t ≤ 2 * p ∧ p ≤ 256000000 ∧ 2 * phi.natAbs < p ∧ 2 * cphi.natAbs < p ∧
        2 * x.stw 5 ≤ p ∧ 2 * x.stw 6 ≤ p ∧
        (match old with
         | some (.psp po _ f e1 e2 _) =>
           step (min p po) phi f && step (min p po) (x.stw 5) e1 && step (min p po) (x.stw 6) e2
         | _ => true) = true then
      some (.psp p (s.stAnchor x) phi (x.stw 5) (x.stw 6) cphi)
    else none
  else none

/-- The coast set staged, where it is valid (R407). -/
def State.stagedCoast (s : State) (x : Engine) : Option CoastSet :=
  let n := x.stw 0
  let offs := (List.range n).map (fun i => x.stw (5 + i))
  if n ≤ 16 ∧ x.stw 2 < 256 ∧ 256000 ≤ x.stw 1 ∧ x.stw 1 ≤ 256000000 ∧ offs.all (fun o => decide (o < x.stw 1)) ∧
      increasing (offs.map (fun (o : Nat) => (o : Int))) then
    some { period := x.stw 1, anchor := s.stAnchor x,
           ents := (List.range n).map (fun i => (x.stw (5 + i), bitsN (x.stw 4) (2 * i + 1) (2 * i))) }
  else none

end Sys2Proof.Machine
end

