-- ==== Sys2Proof/Machine/Protect.lean ====
section
/-! DEFINITION. The protective reactions: gates of the local legs, the Block injector, entry to SAFE and BLOCKED, SF5, the
READY conditions and the reaction ladder (R29, R62, R225, R254, R262 to R267, R408). -/

namespace Sys2Proof.Machine

/-! ## Ports and rings (R42) -/

/-- Is the device configured as a member of a pair (0x5000.01)? -/
def State.paired (s : State) : Bool := s.rd 0x5000 1 == 1
/-- The ring that a port serves: DLPn serves ring n in a pair, ring n / 2 in a simplex cluster. -/
def State.portRing (s : State) (p : Nat) : Nat := if s.paired then p else p / 2
/-- Is a port its ring's end B? -/
def State.portEndB (s : State) (p : Nat) : Bool := if s.paired then s.sys.straps.pairselB else p % 2 == 1
/-- The ports on which the device drives ends of ring `r`. -/
def State.ringPorts (s : State) (r : Nat) : List Nat := if s.paired then [r] else [2 * r, 2 * r + 1]
/-- The rings in use. -/
def State.rings (s : State) : List Nat := (List.range (if s.paired then 48 else 24)).filter s.ringEn
/-- Nodes on a ring (Table DL-2). -/
def State.ringNodes (s : State) (r : Nat) : Nat := bitsN (s.rd 0x2010 (r + 1)) 12 8
/-- The ports the device drives, a bit each. -/
def State.driven (s : State) : BitVec 48 :=
  BitVec.ofNat 48 ((s.rings.flatMap s.ringPorts).foldl (fun a p => a ||| 2 ^ p) 0)
/-- Does the commanding end of a ring stand at end B? In a pair it is the ACTIVE's own end. -/
def State.cmdEndB (s : State) (r : Nat) : Bool :=
  if s.paired then s.sys.straps.pairselB else s.rdBit 0x2010 (r + 1) 4
/-- Port status bit (Table DL-3). -/
def State.portBit (s : State) (p i : Nat) : Bool := s.rdBit 0x2011 (p + 1) i
/-- Set a port status bit. -/
def State.setPortBit (s : State) (p i : Nat) (b : Bool) : State := s.wrBit 0x2011 (p + 1) i b
/-- The strings that a ring serves. -/
def State.ringStrs (s : State) (r : Nat) : Nat :=
  (s.cellList.filter (fun c => (s.cellSlots c).any (fun n => (s.slotNode n).any (fun a => a / 16 == r)))).foldl
    (fun a c => a ||| 2 ^ s.cellStr c) 0

/-! ## A base whose rate source is gone (R118) -/

/-- The source of a base's rate has changed or vanished: the base runs on at its last active increment. -/
def State.freerun (s : State) (b : Nat) : State := s.wrBit (0x1201 + b) 7 3 true

/-- TB2 in ENGINE mode whose engine has failed or stopped runs on (R118, R126). -/
def State.tb2Alone (s : State) : State := if bitsN (s.rd 0x1203 1) 2 0 = 4 then s.freerun 2 else s

/-! ## Delays of a ring (R69, R72) and the far side of its break (R76) -/

/-- The larger of two integers. -/
def maxI (a b : Int) : Int := if a < b then b else a

/-- Two lists of integers added place by place, the longer one's rest kept. -/
def addL : List Int → List Int → List Int
  | [], m => m
  | l, [] => l
  | a :: l, b :: m => (a + b) :: addL l m

/-- Two sets of delays added. -/
def ProbeSet.add (p q : ProbeSet) : ProbeSet :=
  { n := p.n + q.n, dAB := p.dAB + q.dAB, dBA := p.dBA + q.dBA, fromA := addL p.fromA q.fromA,
    fromB := addL p.fromB q.fromB, toA := addL p.toA q.toA, toB := addL p.toB q.toB }

/-- The average of the pairs that a sum holds. -/
def ProbeSet.mean (p : ProbeSet) : ProbeSet :=
  let d (x : Int) : Int := divRound x (p.n : Int)
  { n := p.n, dAB := d p.dAB, dBA := d p.dBA, fromA := p.fromA.map d, fromB := p.fromB.map d, toA := p.toA.map d,
    toB := p.toB.map d }

/-- The delays of a ring: what its last prepare measured, or the pairs made so far. -/
def RingSt.delays (x : RingSt) : ProbeSet := if x.pref.n = 0 then x.psum.mean else x.pref

/-- Byte time of a ring in 1/256 ns times 10 (Table DL-4: 0.8 ns or 1.6 ns). -/
def State.byteTime10 (s : State) (r : Nat) : Int := if s.rdBit 0x2010 (r + 1) 5 then 4096 else 2048

/-- The edge reservation of a ring's node position (0x2400+s.04). -/
def State.reserved (s : State) (r j : Nat) : Nat := ((s.nodeSlot (r * 16 + j)).map (fun k => s.rd (0x2400 + k) 4)).getD 0

/-- The bytes of a Wale from an end up to the end of the record of position `j`, farthest node first (R72). -/
def State.waleBytes (s : State) (r : Nat) (endB : Bool) (j : Nat) : Nat :=
  ((List.range (s.ringNodes r)).filter (fun i => if endB then decide (i ≤ j) else decide (j ≤ i))).foldl
    (fun a i => a + 8 + 4 * s.reserved r i) 32

/-- The time from a Wale's start at an end to the end of the record of position `j` there (R72), in tenths of 1/256 ns. -/
def State.waleAt10 (s : State) (r : Nat) (endB : Bool) (j : Nat) : Int :=
  let d := (s.ring r).delays
  10 * (if endB then d.fromB else d.fromA).getD j 0 + (s.waleBytes r endB j : Int) * s.byteTime10 r

/-- Is a position beyond a ring's break, seen from the commanding end (Table DL-1, R76)? -/
def State.beyondBreak (s : State) (r pos : Nat) : Bool :=
  let loc := s.rd 0x2016 (r + 1)
  let nearA := if loc = 0x10 then 0 else loc + 1
  if s.cmdEndB r then decide (pos < nearA) else decide (nearA ≤ pos)

/-- Is a position on the far side of a bridged ring? -/
def State.farSide (s : State) (r pos : Nat) : Bool := (s.ring r).bridged && s.beyondBreak r pos

/-! ## Trace triggers (R195) -/

/-- Trigger the trace, once per arming (R195). -/
def State.traceFire (s : State) : State :=
  if s.rdBit 0x3100 1 0 && !s.rdBit 0x3100 4 1 then
    let s := (s.wrBit 0x3100 4 1 true).wr 0x3100 5 s.clk.tick.toNat
    { s with cpu.traceTrigNow := true, cpu.tracePost := if s.rdBit 0x3100 1 1 then some (s.rd 0x3100 2) else none }
  else s

/-- A trigger source of Table CE-18 acts where it is the one selected. -/
def State.traceSource (s : State) (src : Nat) : State :=
  if bitsN (s.rd 0x3100 1) 7 4 = src then s.traceFire else s

/-! ## Gates (R225) -/

/-- Force both pins of a leg low. -/
def LocalLeg.low (now : BitVec 40) (x : LocalLeg) : LocalLeg :=
  { x with
    pinH := false, pinL := false, fallH := if x.pinH then some now else x.fallH,
    fallL := if x.pinL then some now else x.fallL, heldH := false, heldL := false }

/-- Has the interlock floor (ns) elapsed since the other pin fell? -/
def floorOver (now : BitVec 40) (floor : Nat) (fell : Option (BitVec 40)) : Bool :=
  fell.all (fun f => decide (((256 * floor : Nat) : Int) ≤ tbDiff now f))

/-- The falls of a leg's pins seen past a boundary at which TB0 has moved by `d`: a fall that no floor reaches any more, 2,000 ns being
the longest, is dropped, so that none outlasts the half of the wrap (R34). -/
def LocalLeg.falls (x : LocalLeg) (now : BitVec 40) (d : Int) : LocalLeg :=
  let f (o : Option (BitVec 40)) : Option (BitVec 40) := (o.map (fun t => tbAdd t d)).filter (fun t => decide (tbDiff now t < 512000))
  { x with fallH := f x.fallH, fallL := f x.fallL }

/-- Does a gate cause hold for a local leg? -/
def LocalLeg.gated (x : LocalLeg) : Bool :=
  x.gTrip || x.gComp || x.gDrven || x.gFlt || x.gReset || x.gDebug || x.gBlock || x.gString

/-- A held pin rises once its floor has elapsed, unless a gate holds the leg (R227, R225). The state keeps the fall of the other pin, so
that the pin's level at every instant follows; the leg's next edge, gate or boundary writes it down. -/
def LocalLeg.settle (x : LocalLeg) (now : BitVec 40) (floor : Nat) : LocalLeg :=
  if x.heldH && floorOver now floor x.fallL && !x.gated then { x with pinH := true, heldH := false }
  else if x.heldL && floorOver now floor x.fallH && !x.gated then { x with pinL := true, heldL := false }
  else x

/-- The TB0 instant at which a gate's pins fall: no command carries it, so it is a free value between the leg's last executed edge and
the next boundary (log entry 161). -/
def State.gateAt (s : State) (n : Nat) : BitVec 40 :=
  let l := s.leg (0x8000 + n)
  let lo := if l.execd = 0 then 0 else ((l.remain[l.execd - 1]?).map (fun e => e.t.toNat)).getD 0
  tbAdd s.clk.bnd ((lo + Sys2Proof.Config.freeNat (s.fresh + n) % Nat.max 1 (s.tTb - lo) : Nat) : Int)

/-- Change every local leg that a mask names, with its pins forced low, and cut its edges in the builder (R170, R225). -/
def State.gate (s : State) (mask : Nat) (f : LocalLeg → LocalLeg) : State :=
  let s := forUpTo (fun n s => if mask.testBit n then
      s.setLoc n (f (((s.loc n).settle (s.gateAt n) (s.rd (0x2600 + n) 6)).low (s.gateAt n))) else s) 12 s
  let s : State := { s with fresh := s.fresh + 12 }
  s.cutLegs (fun h => decide (0x8000 ≤ h) && mask.testBit (h - 0x8000))

/-- Change every local leg without a new gate. -/
def State.mapLocs (s : State) (f : Nat → LocalLeg → LocalLeg) : State :=
  forUpTo (fun n s => s.setLoc n (f n (s.loc n))) 12 s

/-- The local legs associated with a set of strings (0x2600+n.05). -/
def State.assocLegs (s : State) (strs : Nat) : Nat :=
  ((List.range 12).filter (fun n => s.rd (0x2600 + n) 5 &&& strs != 0)).foldl (fun a n => a + 2 ^ n) 0

/-! ## The Block injector (R62) -/

/-- The rings bridged through the pair, a bit each. -/
def State.bridgedMask (s : State) : BitVec 48 :=
  BitVec.ofNat 48 ((List.range 48).foldl (fun a r => if (s.ring r).bridged then a ||| 2 ^ r else a) 0)

/-- In a pair the partner hears of an injected set, to repeat it on the bridged rings (R76, Table RP-3). -/
def State.blockNoticeOut (s : State) (b : BlockSet) : State := if s.paired then s.sendSpar (.blockNotice b s.bridgedMask) else s

/-- Start a Block ordered set: 8 copies on every driven port, then one at every boundary while the block lasts. -/
def State.inject (s : State) (scope mask cause : Nat) : State :=
  let b : BlockSet := { scope := scope, strmask := BitVec.ofNat 6 mask, cause := cause, devid := s.devid, wellFormed := true }
  let s := (s.send (.blockSet s.driven 8 b)).blockNoticeOut b
  { s with saf.blocks := if s.saf.blocks.contains b then s.saf.blocks else s.saf.blocks ++ [b] }

/-- The copies of blocks of some causes end. -/
def State.endBlocks (s : State) (p : BlockSet → Bool) : State :=
  { s with saf.blocks := s.saf.blocks.filter (fun b => !p b) }

/-- The legs of node slots of some strings are cut in the builder, or of all where the block is the cluster's. -/
def State.cutStrings (s : State) (strs : Nat) : State :=
  s.cutLegs (fun h => decide (h < 0x8000) && (s.legCell (h / 8) (h % 8)).any (fun c => strs.testBit (s.cellStr c)))

/-- Every leg of the cluster is cut. -/
def State.cutAll (s : State) : State := s.cutLegs (fun _ => true)

/-! ## SAFE and BLOCKED -/

/-- Every engine stops where it stands and its commands of the tick are discarded (R408): no signal or completion that waited for
its transfers comes any more. -/
def Engine.stop (x : Engine) : Engine :=
  match x.run with
  | .debug => x.dropMarks
  | _ => { x.clearBundle.dropMarks with run := .stopped }

/-- No supplementary edge waits any more on any ring (R170, R408). -/
def State.dropSupp (s : State) : State :=
  { s with fld.rings := Tab.mapV RingSt.init (fun x => { x with supp := [] }) s.fld.rings }

/-- A pending request is superseded by a safety function or a group-wide block (Table CM-12, 0x05). -/
def State.supersede (s : State) : State :=
  if s.sys.preparing || s.sys.due.any (fun d => decide (d.kind < 0x10)) then
    ({ s with sys.preparing := false, sys.due := s.sys.due.filter (fun d => decide (0x10 ≤ d.kind)) } : State).wr 0x1001 4 5
  else s

/-- Enter SAFE at the instant the cause acts (R408); in the pause of an activation the protection acts at once and the state
follows at B(r) (R353). -/
def State.enterSafe (s : State) : State :=
  let s := s.dropSupp
  if s.sys.dev = .safe then s.cutAll
  else if s.fw.pause then ({ s with fw.pauseSafe := true } : State).cutAll
  else
    let s := s.supersede.tb2Alone
    let s := s.setDev .safe
    let s := { s with sys.pins.safeN := false, cpu.engines := Tab.mapV Engine.init Engine.stop s.cpu.engines }
    (s.cutAll).traceSource 5

/-- A cluster action of a safety function: its record in the circulating area (R245). -/
def State.clusterAction (s : State) (f : Nat) : State := s.ev 6 2 f evAction 0

/-- Gate all local legs for a block. -/
def State.gateBlock (s : State) : State := s.gate 0xFFF (fun x => { x with gBlock := true })

/-- The condition of source 0x1D is the disjunction of the diagnostics that last (Table SF-4). -/
def State.sf5Present (s : State) : Bool :=
  s.saf.clkBad || s.saf.railBad || s.saf.wcBad || !s.saf.eccBad.isEmpty || s.saf.cycBad || s.saf.lockstepWait ||
  s.saf.thrFail != 0 || (s.sys.booted && !s.sys.bistOk)

/-- Bring the own condition of source 0x1D to the diagnostics' present state. -/
def State.sf5Sync (s : State) : State := if s.sf5Present then s.setOwn 0x1D true else s.setOwn 0x1D false

/-- SF5 acts (R254, R171): local legs gated, Block ordered set with CAUSE 0x03, or 0x09 for a debug halt or the clock
monitor, SAFE, source 0x1D. In role STANDBY a cause outside R171 sends no Block ordered set (R267). -/
def State.sf5 (s : State) (cause : Nat) : State :=
  let s := s.gate 0xFFF (fun x => if cause = 9 then { x with gDebug := true, gBlock := true } else { x with gBlock := true })
  let s := if s.sys.role = .standby ∧ cause = 3 then s else s.inject 0 0 cause
  let s := if s.causePresent 0x1D then s.sf5Sync else (s.sf5Sync).occur 0x1D
  (s.enterSafe).clusterAction 5

/-- Entry to BLOCKED: the off-state diagnostics must pass anew, all legs are blocked, every string's rainflow is due to
be saved (Table CM-11 [2], R222, R225). -/
def State.enterBlocked (s : State) : State :=
  let s := (s.setDev .blocked).wrBit 0x1001 5 2 true
  ({ s with sys.preparing := false, evr.rainDue := true } : State).gateBlock.cutAll

/-- A block of the cluster by a host, the group or the ladder: Block ordered set, gates, and BLOCKED from READY, RUN and
COAST (Table CM-10). -/
def State.blockCluster (s : State) (cause : Nat) : State :=
  let s := if s.sys.role = .standby then s else s.inject 0 0 cause
  let s := s.gateBlock.cutAll
  if s.live then s.enterBlocked else s

/-! ## READY conditions (Table CM-11) -/

/-- Does a class at L3 or above keep a fault unacknowledged, or a source at L3 or above its cause? -/
def State.faultCond (s : State) : Bool := (List.range 16).any (fun c => decide (3 ≤ s.rd 0x4205 (c + 1)))

/-- Table CM-7: nodes per ring. -/
def State.nodeLimit (s : State) : Nat := Nat.min 16 (s.tRing / 64)
/-- Table CM-7: cells per engine. -/
def State.cellLimit (s : State) : Nat := Nat.min 48 ((s.budget - 600) / 180)
/-- Table CM-7: edges per ring per tick. -/
def State.edgeBudget (s : State) (r : Nat) : Nat :=
  8 * ((if s.rdBit 0x2010 (r + 1) 5 then 16 else 32) * Nat.min s.tNs 10000 / 10000)

/-- RES_CFG: the configuration exceeds Table CM-7, a slot names a position beyond its ring's nodes (R42), or the edge
reservations of a ring exceed its budget (R72). -/
def State.resCfg (s : State) : Bool :=
  s.rings.any (fun r => decide (s.nodeLimit < s.ringNodes r)) ||
  (List.range 16).any (fun e => decide (s.cellLimit < s.cellsAssigned e)) ||
  (List.range 384).any (fun n => (s.slotNode n).any (fun a => decide (s.ringNodes (a / 16) ≤ a % 16))) ||
  s.rings.any (fun r => decide (s.edgeBudget r < ((s.ringSlots r).map (fun n => s.rd (0x2400 + n) 4)).foldl (· + ·) 0))

/-- THRESH_SET (0x4000.04 [1]): every enabled string with cells has its thresholds. -/
def State.threshSet (s : State) : Bool :=
  (List.range 6).all (fun st => !s.strEn st || (s.cellsOf st).isEmpty ||
    (s.rd (0x4001 + st) 1 != 0 && s.rd (0x4001 + st) 2 != 0 &&
     (!(s.cellsOf st).any (fun c => s.cellType c == 3) || s.rd (0x4001 + st) 3 != 0)))

/-- Is a configured node in N-READY, as its last valid Response shows (or N-RUN, N-COAST)? -/
def SlotSt.ready (x : SlotSt) : Bool :=
  x.resp.any (fun r => decide (r.nstate = .ready ∨ r.nstate = .run ∨ r.nstate = .coast))

/-- PAIR_CFG (R6, R259, R272, R281, R290): the coast window too short, check values that differ, a partner not configured as
one, or both members strapped alike. -/
def State.pairCfgBad (s : State) : Bool :=
  s.paired && (s.pair.prepBad || (Tab.get 0 1 s.saf.cause).testBit 14 || decide (8 ≤ s.pair.chkBad) ||
    s.pair.partner.any (fun h => !h.pairCfgd || h.pairselB == s.sys.straps.pairselB))

/-- The READY conditions (Table CM-11); a node that has failed its identity check or its configuration keeps NODES set (R88, R248): TRANSIT, OSD, CFG_DIGEST, COMPAT and DUP_DEVID as their rules have set
them; the others from the state. -/
def State.readyConds (s : State) : Nat :=
  let r := s.rd 0x1001 5
  let r := setBitN r 10 ((List.range 16).any (fun e => s.rd (0x3000 + e) 1 == 1 && !(s.engine e).verified))
  let r := setBitN r 9 (s.rdBit 0x1300 1 2)
  let r := setBitN r 8 s.pairCfgBad
  let r := setBitN r 7 s.resCfg
  let r := setBitN r 3 ((List.range 384).any (fun n => (s.slotNode n).isSome &&
    (!(s.slot n).ready || (s.slot n).step == 1 || decide (2 ≤ s.rd (0x2400 + n) 7))))
  let r := setBitN r 1 s.faultCond
  setBitN r 0 (s.rd 0x4000 1 != s.rd 0x4000 2 || !s.threshSet)

/-- Bring 0x1001.05 to the conditions as they stand. -/
def State.refreshReady (s : State) : State := s.wr 0x1001 5 s.readyConds

/-! ## The ladder (R264 to R267) -/

/-- The scope of a source (Table SF-8): a bit per string [5:0], [6] local legs, [7] cluster. -/
def State.scopeOf (s : State) (src : Nat) : Nat :=
  let c := src / 16
  let n := src % 16
  let clusterIf0 (m : Nat) : Nat := if m = 0 then 0x80 else m
  if c = 0 then (if n < 8 then 0x80 else clusterIf0 (s.rd (0x4110 + (n - 8)) 6))
  else if c = 1 then (if n < 6 then 2 ^ n else if n < 12 then 2 ^ (n - 6) else if n = 12 then 0x40 else 0x80)
  else if c ≤ 4 then clusterIf0 (s.assigned n).toNat
  else if c ≤ 7 then s.ringStrs (16 * (c - 5) + n)
  else if c = 8 then (if n < 6 then 2 ^ n else 0x40)
  else if c = 12 then (if n < 5 then 0x80 else 2 ^ (n - 5))
  else if c ≤ 13 then 2 ^ (n % 6)
  else 0x80

/-- The union of the scopes of a class's set sources. -/
def State.classScope (s : State) (c : Nat) : Nat :=
  ((List.range 16).filter (fun n => s.rdBit 0x4201 (c + 1) n)).foldl (fun a n => a ||| s.scopeOf (16 * c + n)) 0

/-- The highest class level (HIGHEST of Table SF-11). -/
def State.highest (s : State) : Nat := (List.range 16).foldl (fun a c => Nat.max a (s.rd 0x4205 (c + 1))) 0

/-- The highest ladder level among a string's sources. -/
def State.strLevel (s : State) (st : Nat) : Nat :=
  (List.range 16).foldl (fun a c =>
    if (s.classScope c).testBit st || (s.classScope c).testBit 7 then Nat.max a (s.rd 0x4205 (c + 1)) else a) 0

/-- The level of a class after an evaluation (R264). -/
def newLevel (lvl sticky prev : Nat) (occurred : Bool) : Nat :=
  if sticky = 0 then 0
  else if occurred then (if prev = 0 then 1 else Nat.min 5 (lvl + 1))
  else lvl

/-- Is the partner able to take over (R266)? -/
def State.partnerAble (s : State) : Bool :=
  s.pair.partnerSeen && s.pair.partner.any (fun h => decide (h.role = 2 ∧ h.ladder < 4 ∧ 3 ≤ h.state ∧ h.state ≤ 6))

/-- Level 3 acts on a class's scope: the block recorded, the Block ordered set for the strings, the local legs gated. A
cluster scope acts as L4. -/
def State.actL3 (s : State) (scope : Nat) : State :=
  let strs := scope % 64
  let s := s.wr 0x4200 4 (s.rd 0x4200 4 ||| (scope % 128))
  let s := if strs = 0 then s
    else ((s.inject 1 strs 5).gate (s.assocLegs strs) (fun x => { x with gString := true })).cutStrings strs
  if scope.testBit 6 then s.gate 0xFFF (fun x => { x with gString := true }) else s

/-- A forwarding message: FSEQ one on, kept until acknowledged (R277). -/
def State.forwardAs (s : State) (mk : BitVec 32 → SparMsg) : State :=
  let f := s.pair.fseq + 1
  ({ s with pair.fseq := f, pair.fwds := s.pair.fwds ++ [⟨f, mk f, s.clk.tick⟩] } : State).sendSpar (mk f)

/-- A forwarding message of the ACTIVE of a pair. -/
def State.forward (s : State) (mk : BitVec 32 → SparMsg) : State := if s.sys.role = .active then s.forwardAs mk else s

/-- Content cut into segments of 1,024 bytes, at least one. -/
def segments : Nat → List Byte → List (List Byte)
  | 0, l => [l]
  | n + 1, l => if l.length ≤ 1024 then [l] else l.take 1024 :: segments n (l.drop 1024)

/-- A configuration forward of the ACTIVE, in segments, each a message with its own FSEQ (R277, R289, Table RP-12). -/
def State.forwardCfg (s : State) (ctype : Nat) (target : BitVec 32) (unit : Nat) (content : List Byte) : State :=
  let l := segments (content.length / 1024) content
  forUpTo (fun i s => s.forward (fun f => .cfg f ctype target unit i (i + 1 == l.length) (l.getD i []))) l.length s

/-- An item of a WRITE as bytes (Table OD-11). -/
def wItemBytes (w : WItem) : List Byte :=
  beBytes w.idx 2 ++ beBytes w.sub 1 ++ beBytes w.ty 1 ++ beBytes w.offset 2 ++ beBytes w.len 2 ++ beBytes w.val w.len

/-- The items of a WRITE that bytes hold, at most `n` of them. -/
def itemsOf : Nat → List Byte → List WItem
  | 0, _ => []
  | n + 1, l =>
    let f (a k : Nat) : Nat := beNat ((l.drop a).take k) 0
    if l.length < 8 then []
    else ⟨f 0 2, f 2 1, f 3 1, f 4 2, f 6 2, f 8 (f 6 2)⟩ :: itemsOf n (l.drop (8 + f 6 2))

/-- Level 4: the cluster is blocked; the ACTIVE forwards it as a block request (R265, R31). -/
def State.actL4 (s : State) : State :=
  (s.blockCluster 6).forward (fun f => .fwd f 3 (s.clk.tick + 1) 0)

/-- What a level above 3 includes of level 3: strings and local legs of the scope that the ladder does not block yet are blocked until
released (Table SF-9). -/
def State.actBelow (s : State) (scope : Nat) : State := s.actL3 (scope % 128 &&& (127 - s.rd 0x4200 4 % 128))

/-- The reaction to a class that has risen to level `lvl` (Table SF-9, R265 to R267). -/
def State.actLevel (s : State) (c lvl : Nat) : State :=
  let scope := s.classScope c
  if s.sys.role = .standby then
    if lvl = 4 then (if s.live then s.enterBlocked else s)
    else if lvl = 5 then ({ s with saf.safeClasses := s.saf.safeClasses ||| BitVec.ofNat 16 (2 ^ c) } : State).enterSafe
    else s
  else if lvl = 3 then (if scope.testBit 7 then (s.actBelow scope).actL4 else s.actL3 scope)
  else if lvl = 4 then (s.actBelow scope).actL4
  else if lvl = 5 then
    let s := s.actBelow scope
    if s.partnerAble then
      let s := s.blockCluster 6
      { s with pair.handover := true, sys.due := s.sys.due ++ [⟨0x81, s.clk.tick + 2, 0⟩] }
    else
      let s := ({ s with saf.safeClasses := s.saf.safeClasses ||| BitVec.ofNat 16 (2 ^ c) } : State).inject 0 0 8
      s.gateBlock.enterSafe
  else s

/-- Severity of a level change (R265). -/
def levelSev (lvl : Nat) : Nat := if lvl ≤ 1 then 1 else if lvl ≤ 3 then 4 else if lvl = 4 then 5 else 7

/-- Evaluate one class of the collector (R264). -/
def State.evalClass (s : State) (c : Nat) : State :=
  let lvl := s.rd 0x4205 (c + 1)
  let sticky := s.rd 0x4201 (c + 1)
  let prev := (Tab.get (0 : BitVec 16) c s.saf.prevSticky).toNat
  let n := newLevel lvl sticky prev (s.saf.newOcc.getLsbD c)
  let s := { s with saf.prevSticky := Tab.set 0 c (BitVec.ofNat 16 sticky) s.saf.prevSticky }
  if n = lvl then s
  else
    let s := (s.wr 0x4205 (c + 1) n).ev (levelSev n) 0 (16 * c) evLevel n
    if lvl < n then s.actLevel c n else s

/-- A class that is at L5 and has a new occurrence: the actions of the levels below take in what its scope has gained (R264, Table
SF-9). -/
def State.evalTop (s : State) (c : Nat) : State :=
  if s.rd 0x4205 (c + 1) = 5 ∧ s.saf.newOcc.getLsbD c = true ∧ s.sys.role ≠ .standby then s.actBelow (s.classScope c) else s

/-- The trace source of the ladder (R195). -/
def State.traceLadder (s : State) : State :=
  if bitsN (s.rd 0x3100 1) 10 8 ≤ s.highest ∧ 0 < s.highest then s.traceSource 2 else s

/-- FAULT_N is low while HIGHEST is 2 or more (Table PK-8). -/
def State.faultPin (s : State) : State :=
  let b := decide (s.highest < 2)
  { s with sys.pins.faultN := b }

/-- Every class evaluated, the notes of new occurrences used up. -/
def State.evalAll (s : State) : State :=
  let t := (List.range 16).foldl (fun s c => (s.evalClass c).evalTop c) s
  { t with saf.newOcc := 0 }

/-- Has a class risen to L3 or above between `s` and `t`, with a source in it that had no occurrence before B(a) (Table FW-8)? -/
def State.risenL3 (t s : State) : Bool :=
  (List.range 16).any (fun c => decide (s.rd 0x4205 (c + 1) < t.rd 0x4205 (c + 1) ∧ 3 ≤ t.rd 0x4205 (c + 1)) &&
    (List.range 16).any (fun i => t.rdBit 0x4201 (c + 1) i && !t.fw.occBefore.contains (16 * c + i)))

/-- NO_NEW_L3 fails where a class reaches L3 through a new source while a confirmation is pending (Table FW-8). -/
def State.noteL3 (t s : State) : State :=
  if t.fw.confirming && t.risenL3 s then { t with fw.newL3 := true } else t

/-- Evaluate the collector at t_gather: every class, then the trace source of the ladder and FAULT_N (R262, R264). -/
def State.collector (s : State) : State := (s.evalAll.noteL3 s).traceLadder.faultPin

end Sys2Proof.Machine
end

