-- ==== Sys2Proof/Machine/EnginePort.lean ====
section
/-! DEFINITION. What a store to an engine's I/O window does (Table CE-10): completion, release, signals, the allocator
port, commits, transfers, trace, notch and following-error units; and the stores of R178 and R179. -/

namespace Sys2Proof.Machine

/-! ## Notch units (R188) -/

/-- A coefficient as the unit in use holds it. -/
def Notch.cf (n : Notch) (i : Nat) : Int := (n.coef.getD i 0).toInt

/-- One sample of a notch unit: a pending LOAD takes effect first; a unit with EN clear returns its input. -/
def Notch.sample (n : Notch) (x : BitVec 16) : Notch :=
  let n := if n.loadPend then { n with coef := n.staged, loadPend := false } else n
  if n.en then
    let acc := n.cf 0 * x.toInt + n.cf 1 * n.x1 + n.cf 2 * n.x2 - n.cf 3 * n.y1 - n.cf 4 * n.y2
    let r := roundShift 1 14 (satInt 40 acc)
    let y := satInt 16 r
    { n with
      x1 := x.toInt, x2 := n.x1, y1 := y, y2 := n.y1, y := BitVec.ofInt 16 y, sat := n.sat || decide (y ≠ r) }
  else { n with y := x }

/-- The unit with zero state (CLR). -/
def Notch.clr (n : Notch) : Notch := { n with x1 := 0, x2 := 0, y1 := 0, y2 := 0, y := 0 }

/-- Change notch unit `u`. -/
def Engine.setNotch (x : Engine) (u : Nat) (n : Notch) : Engine := { x with notch := Tab.set Notch.init u n x.notch }

/-- A sample of unit `u`; each unit above it with CHAIN set takes the Y below it as its X (Table CE-14). -/
def Engine.notchRun (x : Engine) (u : Nat) (v : BitVec 16) : Nat → Engine
  | 0 => x
  | f + 1 =>
    let n := (x.notchU u).sample v
    let y := x.setNotch u n
    if u < 3 ∧ (y.notchU (u + 1)).chain = true then y.notchRun (u + 1) n.y f else y

/-- A store to a register of notch unit `u`; `none` where the offset is not writable. -/
def Engine.notchStore (x : Engine) (u off : Nat) (w : Word) : Option Engine :=
  let n := x.notchU u
  if off ≤ 0x10 then some (x.setNotch u { n with staged := n.staged.set (off / 4) (w.extractLsb' 0 16) })
  else if off = 0x14 then
    let n := { n with en := w.getLsbD 3, chain := w.getLsbD 2 && decide (u ≠ 0) }
    let n := if w.getLsbD 1 then n.clr else n
    some (x.setNotch u (if w.getLsbD 0 then { n with loadPend := true } else n))
  else if off = 0x18 then some (x.notchRun u (w.extractLsb' 0 16) 4)
  else if off = 0x20 then some (x.setNotch u (if w.getLsbD 0 then { n with sat := false } else n))
  else none

/-! ## Following-error units (R189, R190) -/

/-- Change following-error unit `u`. -/
def Engine.setFollow (x : Engine) (u : Nat) (f : Follow) : Engine := { x with follow := Tab.set Follow.init u f x.follow }

/-- A write of 1 to TRIPPED clears it while COUNT is 0 (R190). -/
def Follow.clrTrip (f : Follow) : Follow := if f.count = 0 then { f with tripped := false } else f

/-- A store to a register of following-error unit `u`; a value outside a register's range changes nothing. -/
def Engine.followStore (x : Engine) (u off : Nat) (w : Word) : Option Engine :=
  let f := x.followU u
  let v := w.toNat
  if off = 0x00 then some (x.setFollow u { f with ref := w.extractLsb' 0 16 })
  else if off = 0x04 then some (x.setFollow u { f with fb := w.extractLsb' 0 16, updated := true })
  else if off = 0x08 then some (if 1 ≤ v ∧ v ≤ 32767 then x.setFollow u { f with limit := v } else x)
  else if off = 0x0C then some (if 1 ≤ v ∧ v ≤ 65535 then x.setFollow u { f with tmax := v } else x)
  else if off = 0x10 then some (x.setFollow u { f with leaky := w.getLsbD 1, en := w.getLsbD 0 })
  else if off = 0x14 then some (x.setFollow u (if w.getLsbD 16 then f.clrTrip else f))
  else none

/-! ## Release (R148, R162, R163, R185) -/

/-- Engines that command a leg of string `st`. -/
def State.strOwners (s : State) (st : Nat) : List Nat :=
  (List.range 16).filter (fun e => (s.cellsOf st).any (fun c => s.cellEng c == e))

/-- Engines that command a local leg. -/
def State.locOwners (s : State) : List Nat :=
  (List.range 16).filter (fun e => (List.range 12).any (fun n => s.rd (0x2600 + n) 2 != 0 && s.rd (0x2600 + n) 4 == e))

/-- Has every engine with a leg of string `b` (6: of the local legs) released it in this tick? -/
def State.allReleased (s : State) (b : Nat) : Bool :=
  let os := if b = 6 then s.locOwners else s.strOwners b
  !os.isEmpty && os.all (fun e => (s.engine e).released.getLsbD b)

/-- The release cycle, in ns from t0: a time between t_start and t_dl that the model leaves free. -/
def State.tRel (s : State) : Nat :=
  s.tGather + 400 + Sys2Proof.Config.freeNat s.fresh % (s.tDl - (s.tGather + 400) + 1)

/-- The end from which a position's records leave: beyond a break the other one (R76). -/
def State.recEnd (s : State) (r pos : Nat) : Bool := if s.farSide r pos then !s.cmdEndB r else s.cmdEndB r

/-- The bytes of a ring's supplementary Wale up to the end of a position's record with `own` edges: the header and the records that
wait for nodes farther from the end it leaves from, farthest first (R55, R72, R162). -/
def State.suppBytes (s : State) (r pos own : Nat) : Nat :=
  let e := s.recEnd r pos
  (((s.ring r).supp.filter (fun q => s.farSide r q.pos == s.farSide r pos && (if e then decide (q.pos < pos) else decide (pos < q.pos)))).foldl
    (fun a q => a + 8 + 4 * q.edges.length) 32) + 8 + 4 * own

/-- The horizon of a slot's legs where its supplementary record has `own` edges (R162): the release cycle, t_fin, the delivery of its
record, L_acc and the builder's margin, in 1/256 ns, a part of a unit counted up. -/
def State.nodeHorizon (s : State) (rel n own : Nat) : Int :=
  let a := (s.slotNode n).getD 0
  let r := a / 16
  let d := (s.ring r).delays
  let at10 := 10 * (if s.recEnd r (a % 16) then d.fromB else d.fromA).getD (a % 16) 0 + (s.suppBytes r (a % 16) own : Int) * s.byteTime10 r
  256 * ((rel + 600 + 1200 + 50 : Nat) : Int) - Int.fdiv (-at10) 10

/-- The horizon of the local legs (R162). -/
def State.locHorizon (s : State) : Int := 256 * ((s.tRel + 600 + 1200 : Nat) : Int)

/-- Put back a leg whose supplementary edges do not go: it keeps its schedule of tick k, and the released set feeds the
regular reload (R163). -/
def State.restoreLeg (s : State) (h : Nat) : State :=
  let l := s.leg h
  let p := Tab.get LegB.init h s.fld.priors
  if l.blocked then s
  else s.setLeg h { p with
    portLate := (l.port.map (fun n => (n, l.lateStart))).orElse (fun _ => p.portLate), coastLate := l.coastPort.orElse (fun _ => p.coastLate),
    reloaded := false, held := some (p.port, p.lateStart, p.coastPort), status := l.status }

/-- The release reload of one leg, its state before it kept while its supplementary record has not left; a merge of more
than 8 edges leaves the leg out of the record. -/
def State.releaseOne (s : State) (hor : Int) (h : Nat) : State :=
  let s := { s with fld.priors := Tab.set LegB.init h (s.leg h) s.fld.priors }
  let t := s.releaseLeg hor h
  if (t.leg h).suppOut && decide (8 < (t.leg h).remain.length) then t.restoreLeg h else t

/-- The supplementary edges of a leg: from its horizon on, as descriptors. -/
def State.suppEdges (s : State) (hor : Int) (h : Nat) : List Edge :=
  if (s.leg h).suppOut then
    ((s.leg h).remain.filter (fun e => decide (hor ≤ e.t))).map (fun e =>
      { leg := h % 8, st := e.st, strength := e.str, offset := e.t.toNat })
  else []

/-- The descriptors of a record in ascending offset (R57). -/
def insEdge (e : Edge) : List Edge → List Edge
  | [] => [e]
  | f :: t => if e.offset < f.offset then e :: f :: t else f :: insEdge e t

/-- Descriptors sorted by offset, stable. -/
def sortEdges (l : List Edge) : List Edge := l.foldl (fun a e => insEdge e a) []

/-- The legs of string `st` at a slot. -/
def State.strSlotLegs (s : State) (st n : Nat) : List Nat := (s.slotLegs n).filter (fun h => (s.strLegs st).contains h)

/-- The supplementary edges of the legs of string `st` at a slot, from a horizon on. -/
def State.recEdgesAt (s : State) (st n : Nat) (hor : Int) : List Edge :=
  sortEdges ((s.strSlotLegs st n).flatMap (fun h => s.suppEdges hor h))

/-- The supplementary record of the legs of string `st` at a slot, if it has any edges. -/
def State.suppRec (s : State) (st n : Nat) (hor : Int) : Option NodeRec :=
  let es := s.recEdgesAt st n hor
  if es.isEmpty then none
  else (s.slotNode n).map (fun a => { pos := a % 16, cmd := 0, arg := 0, edges := es, rcrcOk := true })

/-- Add a record to those of a supplementary Wale; a node has one record in a Wale, with the edges of every release (R55, R163). -/
def addRec (r : NodeRec) : List NodeRec → List NodeRec
  | [] => [r]
  | q :: t => if q.pos = r.pos then { q with edges := sortEdges (q.edges ++ r.edges) } :: t else q :: addRec r t

/-- Add a slot's supplementary record to its ring's next supplementary Wale. -/
def State.queueSupp (s : State) (st n : Nat) (hor : Int) : State :=
  match s.slotNode n, s.suppRec st n hor with
  | some a, some r =>
    let g := s.ring (a / 16)
    s.setRing (a / 16) { g with supp := addRec r g.supp }
  | _, _ => s

/-- The legs of string `st` at a slot reload at a horizon. -/
def State.releaseAt (s : State) (st n : Nat) (hor : Int) : State :=
  (s.strSlotLegs st n).foldl (fun a h => a.releaseOne hor h) s

/-- The edges that wait in a slot's record of its ring's next supplementary Wale. -/
def State.suppWaiting (s : State) (n : Nat) : Nat :=
  let a := (s.slotNode n).getD 0
  (((s.ring (a / 16)).supp.find? (fun q => q.pos == a % 16)).map (fun q => q.edges.length)).getD 0

/-- The earliest horizon of a slot: the smallest length of its record that holds the edges then placed (R162). The record's length
counts towards its delivery and the horizon decides which edges it carries: the model's reading (log entry 144). -/
def State.fitHorizon (s : State) (rel st n : Nat) : Nat → Nat → Int
  | 0, c => s.nodeHorizon rel n c
  | f + 1, c =>
    let hor := s.nodeHorizon rel n c
    if s.suppWaiting n + ((s.releaseAt st n hor).recEdgesAt st n hor).length ≤ c then hor else s.fitHorizon rel st n f (c + 1)

/-- The release of a string's legs at one slot: they reload, the pattern follows, the limits of R164 apply, the record queues. -/
def State.releaseSlot (s : State) (rel st n : Nat) : State :=
  let hor := s.fitHorizon rel st n 64 (s.suppWaiting n + 1)
  (((s.releaseAt st n hor).slotPattern n).slotFit n).queueSupp st n hor

/-- How far a slot's node stands from the end that its records leave from. -/
def State.slotDist (s : State) (n : Nat) : Nat :=
  let a := (s.slotNode n).getD 0
  if s.recEnd (a / 16) (a % 16) then 15 - a % 16 else a % 16

/-- The release of a string: its slots in the order of their records, the farthest nodes first (R55). -/
def State.releaseString (s : State) (st : Nat) : State :=
  let s := s.setString st { s.string st with releasedNow := true }
  let rel := s.tRel
  let t := ((List.range 16).reverse.flatMap (fun d => (s.strSlots st).filter (fun n => s.slotDist n == d))).foldl
    (fun a n => a.releaseSlot rel st n) s
  { t with fresh := s.fresh + 1 }

/-- The local legs' edges exceed 8 on some leg (R164). -/
def State.locOver (s : State) : List Nat := s.localLegs.filter (fun h => decide (8 < (s.leg h).sched.length))

/-- Apply R164 to the local legs: EDGE_OVF on the offending legs, and all local legs coast. -/
def State.locFit (s : State) : State :=
  match s.locOver with
  | [] => s
  | full => (s.localLegs).foldl (fun s h => s.coastLeg h) (full.foldl (fun s h => s.legFlag h 0x20) s)

/-- The release of the local legs. -/
def State.releaseLocal (s : State) : State :=
  let t := (s.localLegs).foldl (fun a h => a.releaseLeg s.locHorizon h) { s with fld.localReleased := true }
  { t.localPattern.locFit with fresh := s.fresh + 1 }

/-- Did an engine fail its tick, so that what it has not released is discarded? -/
def Engine.failed (x : Engine) : Bool := decide (x.run = .missed ∨ x.run = .excepted)

/-- The engine that commands a leg, and the bit that releases it (R185). -/
def State.legOwner (s : State) (h : Nat) : Option (Nat × Nat) :=
  if 0x8000 ≤ h then some (s.rd (0x2600 + (h - 0x8000)) 4, 6)
  else (s.legCell (h / 8) (h % 8)).map (fun c => (s.cellEng c, s.cellStr c))

/-- A leg's port as its failed engine leaves it: what the engine had released, and no reload has latched yet, stands; the rest is
discarded (R22, R192). -/
def LegB.discard (l : LegB) : LegB :=
  let x := l.held.getD (none, false, none)
  { l with port := x.1, lateStart := x.2.1, coastPort := x.2.2, portLate := none, coastLate := none }

/-- The commands of a failed engine that it has not released are discarded (R22, R192). -/
def State.dropUnreleased (s : State) : State :=
  { s with fld.legs := Tab.mapKV LegB.init (fun h l =>
      if (s.legOwner h).any (fun o => (s.engine o.1).failed) then l.discard else l) s.fld.legs }

/-- An engine releases the legs it commands of string `b` (6: of the local legs): what their ports hold stands from now on (R22). -/
def State.holdReleased (s : State) (e b : Nat) : State :=
  ((if b = 6 then s.localLegs else s.strLegs b).filter (fun h => s.legOwner h == some (e, b) && !(s.leg h).reloaded)).foldl
    (fun s h => let l := s.leg h; s.setLeg h { l with held := some (l.port, l.lateStart, l.coastPort) }) s

/-- The release reload of whatever the last release completes. -/
def State.releaseCheck (s : State) (b : Nat) : State :=
  if s.allReleased b then
    if b = 6 then (if s.fld.localReleased then s else s.dropUnreleased.releaseLocal)
    else if (s.string b).releasedNow || !s.strEn b then s else s.dropUnreleased.releaseString b
  else s

/-- The strings and the local legs of which an engine commands a leg. -/
def State.ownMask (s : State) (e : Nat) : Nat :=
  ((List.range 6).filter (fun st => (s.strOwners st).contains e)).foldl (fun a b => a + 2 ^ b)
    (if s.locOwners.contains e then 64 else 0)

/-- An engine releases what a mask names (R185): bits with no leg of the engine are ignored; bits outside its assigned
mask count as port errors. -/
def State.releaseBits (s : State) (e mask : Nat) : State :=
  let x := s.engine e
  let s := if mask % 128 &&& (127 - (s.assigned e).toNat) ≠ 0 then s.portErr e else s
  let s := (List.range 7).foldl (fun s b => if (mask &&& s.ownMask e).testBit b && !x.released.getLsbD b then s.holdReleased e b else s) s
  let s := s.setEngine e { x with released := x.released ||| BitVec.ofNat 7 (mask &&& s.ownMask e) }
  (List.range 7).foldl (fun s b => if mask.testBit b then s.releaseCheck b else s) s

/-! ## Completion and signals (R173, R181) -/

/-- A near miss: counted, its source raised at every thousandth (R191). -/
def State.nearMissCheck (s : State) (e used : Nat) : State :=
  let th := s.rd (0x3000 + e) 8
  if th = 0 ∨ used ≤ th then s
  else
    let n := Tab.get 0 e s.saf.nearMiss + 1
    let s := { s with saf.nearMiss := Tab.set 0 e (n % 1000) s.saf.nearMiss }
    let s := s.count (0x3000 + e) 9
    if n = 1000 then s.occur (0x20 + e) else s

/-- Completion: the engine halts, its cycles are recorded (a free number within the budget), all it commands counts as
released, the ACTIVE sends its mirror region. -/
def State.complete (s : State) (e : Nat) : State :=
  let x := s.engine e
  let used := Sys2Proof.Config.freeNat s.fresh % (s.budget + 1)
  let s := s.setEngine e { x.clearBundle.dropMarks with run := .halted }
  let s := ({ s with fresh := s.fresh + 1 } : State).wr (0x3000 + e) 6 used
  let s := s.wr (0x3000 + e) 7 (Nat.max (s.rd (0x3000 + e) 7) used)
  ((s.nearMissCheck e used).releaseBits e (s.ownMask e)).mirrorSend e

/-- Is an entry of the queue a transfer? -/
def CsmOp.isXfer : CsmOp → Bool
  | .xfer .. => true | .store .. => false | .signal _ => false | .done => false

/-- Is an access a transfer of channel `c`? -/
def CsmOp.isChan (c : Nat) : CsmOp → Bool
  | .xfer d _ _ _ => d == c
  | .store .. => false | .signal _ => false | .done => false

/-- Does an access write the CSM? -/
def CsmOp.out : CsmOp → Bool
  | .xfer _ _ _ len => len.getLsbD 31
  | .store .. => true | .signal _ => false | .done => false

/-- Is a channel busy? -/
def Engine.chanBusy (x : Engine) (c : Nat) : Bool := x.csmQ.any (CsmOp.isChan c)

/-- Does an engine have CSM accesses under way (R173)? -/
def Engine.xferBusy (x : Engine) : Bool := !x.csmQ.isEmpty

/-- Does an engine have transfers or stores to the CSM under way (R181)? -/
def Engine.xferOut (x : Engine) : Bool := x.csmQ.any CsmOp.out

/-- A SIGNAL behind the last access that writes the CSM: it waits for no other (R181). -/
def afterOut (f : BitVec 16) : List CsmOp → List CsmOp
  | [] => []
  | o :: t => if t.any CsmOp.out then o :: afterOut f t else if o.out then o :: .signal f :: t else o :: t

/-- A store to DONE: completion once every access issued before it is complete (R173). -/
def State.portDone (s : State) (e : Nat) : State :=
  let x := s.engine e
  if x.xferBusy then s.setEngine e { x with csmQ := x.csmQ ++ [.done] } else s.complete e

/-- Set global flags in every engine's event word. -/
def State.setFlags (s : State) (f : BitVec 16) : State :=
  forUpTo (fun i s => s.setEngine i { s.engine i with events := (s.engine i).events ||| (f ++ (0 : BitVec 16)) }) 16 s

/-- A store to SIGNAL: the flags set once the engine's transfers to the CSM are complete. -/
def State.portSignal (s : State) (e : Nat) (f : BitVec 16) : State :=
  let x := s.engine e
  if x.xferOut then s.setEngine e { x with csmQ := afterOut f x.csmQ } else s.setFlags f

/-- A store to EVCLR clears bits [9:0] of EVENTS. -/
def State.portEvclr (s : State) (e : Nat) (m : Word) : State :=
  s.setEngine e { s.engine e with events := (s.engine e).events &&& ~~~ (m &&& 0x3FF) }

/-! ## TB2, the allocator port, trace -/

/-- Is engine `e` the owner of TB2: ENGINE mode with SRC `e` (R126)? -/
def State.tb2Owner (s : State) (e : Nat) : Bool :=
  decide (bitsN (s.rd 0x1203 1) 2 0 = 4 ∧ bitsN (s.rd 0x1203 1) 7 4 = e)

/-- A store to TB2INC: the pending increment, with which FREERUN ends (R118), refused outside the range of Table TM-4 (R114); from an engine that does
not own TB2, an exception. -/
def State.portTb2inc (s : State) (e : Nat) (v : Word) : Except Nat State :=
  if !s.tb2Owner e then .error 5
  else if 0x999999 ≤ v.toNat ∧ v.toNat ≤ 0x1000000 then .ok ((s.wr 0x1203 2 v.toNat).wrBit 0x1203 7 3 false) else .ok s

/-- A step of a base waits for the next boundary (R117). -/
def State.addStep (s : State) (b : Nat) (d : Int) : State :=
  let x := s.tbs b
  (s.setTb b { x with stepPend := x.stepPend + d }).wrBit (0x1201 + b) 7 1 true

/-- A store to TB2STEP: a signed number of nanoseconds at the next boundary. -/
def State.portTb2step (s : State) (e : Nat) (v : Word) : Except Nat State :=
  if !s.tb2Owner e then .error 5 else .ok (s.addStep 2 v.toInt)

/-- A write of N and DIR to a string's allocator port (R182, Table SS-9). -/
def State.portAlloc (s : State) (e st : Nat) (w : Word) : State :=
  let x := s.string st
  if (s.assigned e).getLsbD st = false ∨ x.req.isSome ∨ x.rdy ∨ 512 ≤ w.toNat then s.portErr e
  else s.setString st { x with req := some (w.toNat % 256, w.getLsbD 8) }

/-- The compare condition of the trace (0x3100.08) between the channel's previous and new value. -/
def traceCond (c : Nat) (old new th : Int) : Bool :=
  if c = 0 then decide (th < new)
  else if c = 1 then decide (new < th)
  else if c = 2 then decide (old ≤ th ∧ th < new)
  else decide (th ≤ old ∧ new < th)

/-- A store to a trace channel; the channel-compare trigger looks at the channel it names (R195). -/
def State.portTrace (s : State) (e ch : Nat) (v : Word) : State :=
  let x := s.engine e
  let old := Tab.get (0 : Word) ch x.trace
  let s := s.setEngine e { x with trace := Tab.set 0 ch v x.trace }
  let sel := s.rd 0x3100 7
  if sel / 16 = e ∧ sel % 8 = ch ∧ traceCond (s.rd 0x3100 8) old.toInt v.toInt (s.rdInt 0x3100 9 32) = true then
    s.traceSource 3
  else s

/-! ## Commits (R147, R149, R183, R184) -/

/-- The builder leg that a handle names, where it is well formed and the engine commands it (Table CE-11, R183). -/
def State.handleLeg (s : State) (e : Nat) (h : Word) : Option Nat :=
  let v := h.toNat
  if v < 0x1000 then
    let n := v / 8
    let l := v % 8
    if 384 ≤ n then none
    else match s.legCell n l with
      | some c =>
        if s.cellEng c = e ∧ (s.legForm (n * 8 + l) = 3 → n = s.mvSlot c ∧ l = 2) then some (n * 8 + l) else none
      | none => none
  else if 0x8000 ≤ v ∧ v < 0x8010 then
    let n := v - 0x8000
    if n < 12 ∧ s.rd (0x2600 + n) 4 = e then some v else none
  else none

/-- Note a refused commit in CMDST. -/
def State.commitMark (s : State) (e : Nat) (refused err : Bool) : State :=
  let x := s.engine e
  s.setEngine e { x with cmdRefused := refused, cmdErrNow := x.cmdErrNow || err }

/-- Land a set in a leg's port. In the reload cycle of the leg LATE_COMMIT sets, and the set waits for the next reload: behind
what the reload still to come latches, or, that reload being done, in the port itself (R149); a set after the leg's reload of the
tick is latched by the next one too (R184). -/
def landSet (inReload : Bool) (n : CmdSet) (l : LegB) : LegB :=
  if inReload then
    let l := { l with status := l.status ||| 0x80 }
    if l.reloaded then { l with port := some n, lateStart := true } else { l with portLate := some (n, true) }
  else { l with port := some n, lateStart := false }

/-- As `landSet`, for a coast set (R407). -/
def landCoast (inReload : Bool) (n : CoastSet) (l : LegB) : LegB :=
  if inReload then
    let l := { l with status := l.status ||| 0x80 }
    if l.reloaded then { l with coastPort := some n } else { l with coastLate := some n }
  else { l with coastPort := some n }

/-- Does an explicit set end in a request for both switches? -/
def CmdSet.endsBoth : CmdSet → Bool
  | .explicit rs => rs.getLast?.any (fun r => r.2 % 4 == 3)
  | .carrier .. => false
  | .psp .. => false

/-- Has the leg's string been released in the tick and the leg got back its schedule, so that the released set waits for the regular
reload (R163)? A commit then waits for the reload after that (R186). -/
def State.legRestored (s : State) (h : Nat) : Bool :=
  !(s.leg h).reloaded && decide (h < 0x8000) && (s.legOwner h).any (fun o => (s.string o.2).releasedNow)

/-- A set reaches a leg. A blocked leg's commands are discarded (R170, R174), but its last request still tells whether a both-on
request is in force (R229). -/
def State.landLeg (s : State) (inReload : Bool) (n : CmdSet) (h : Nat) : State :=
  let l := s.leg h
  if s.legBlocked h && !s.unitGoesOn h then s.setLeg h { l with both := n.endsBoth }
  else if s.legRestored h then s.setLeg h { l with portLate := some (n, inReload), status := if inReload then l.status ||| 0x80 else l.status }
  else s.setLeg h (landSet inReload n l)

/-- Does an unassigned bit of the staging words of a form read 1? The words W0 to W9 of a set (R183). -/
def stExtra (x : Engine) (form : Nat) : Bool :=
  if form = 1 then decide (1 < x.stw 0)
  else if form = 2 then decide (15 < x.stw 0 ∨ 65535 < x.stw 9)
  else decide (x.stw 0 ≠ 0)

/-- A store to COMMIT: the port's check, then the builder's; a refused set leaves the set in force and sets CMD_ERR. -/
def State.portCommit (s : State) (e : Nat) (h : Word) (inReload : Bool) : State :=
  match s.handleLeg e h with
  | none => s.commitMark e true true
  | some k =>
    let x := s.engine e
    let f := s.legForm k
    let l := s.leg k
    match (if stExtra x f then none else s.stagedSet x f l.inForce) with
    | none => (s.commitMark e false true).legFlag k 4
    | some n => (s.unitLegs k).foldl (fun s j => s.landLeg inReload n j) (s.commitMark e false false)

/-- A store to COMMIT_COAST: the coast set of an explicit-edge leg. -/
def State.portCommitCoast (s : State) (e : Nat) (h : Word) (inReload : Bool) : State :=
  match s.handleLeg e h with
  | none => s.commitMark e true true
  | some k =>
    match (if s.legForm k = 2 then s.stagedCoast (s.engine e) else none) with
    | none => (s.commitMark e false true).legFlag k 4
    | some n =>
      let l := s.leg k
      if s.legBlocked k then s.commitMark e false false
      else (s.commitMark e false false).setLeg k (if s.legRestored k then
        { l with coastLate := some n, status := if inReload then l.status ||| 0x80 else l.status } else landCoast inReload n l)

/-! ## Transfers (R180) -/

/-- One entry of an engine's queue completes: a transfer's beats move whole between the CSM and data memory and its XDONE sets; a store's bytes reach
the CSM. -/
def State.csmDo (s : State) (e : Nat) : CsmOp → State
  | .store a n v => { s with cpu.csm := Tab.writeLE a v n s.cpu.csm }
  | .signal f => s.setFlags f
  | .done => if (s.engine e).unfinished then s.complete e else s
  | .xfer c csm loc len =>
    let x := s.engine e
    let n := 32 * (len.extractLsb' 0 9).toNat
    let a := loc.toNat - 0x10000000
    let t : State := if len.getLsbD 31 then { s with cpu.csm := Tab.writeBytes csm.toNat (Tab.readBytes x.data a n) s.cpu.csm }
      else s.setEngine e { x with data := Tab.writeBytes a (Tab.readBytes s.cpu.csm csm.toNat n) x.data }
    t.setEngine e { t.engine e with events := (t.engine e).events ||| BitVec.ofNat 32 (2 ^ c) }

/-- The oldest entries of an engine's queue complete in their order; `left` is what is still under way. A completion ends the waits
behind it. -/
def State.csmRun (s : State) (e : Nat) (done left : List CsmOp) : State :=
  done.foldl (fun s o => s.csmDo e o) (s.setEngine e { s.engine e with csmQ := left })

/-- The entries that have completed when a channel's transfer is done: it and all before it, and what waited next behind it, up to
the next transfer. -/
def csmUpTo (c : Nat) : List CsmOp → List CsmOp × List CsmOp
  | [] => ([], [])
  | o :: t =>
    if o.isChan c then (o :: t.takeWhile (fun x => !x.isXfer), t.dropWhile (fun x => !x.isXfer))
    else (o :: (csmUpTo c t).1, (csmUpTo c t).2)

/-- The last beat of a channel is done: XDONE sets. The accesses issued before it are complete too (R179). -/
def State.xferFinish (s : State) (e c : Nat) : State :=
  let x := s.engine e
  if x.chanBusy c then s.csmRun e (csmUpTo c x.csmQ).1 (csmUpTo c x.csmQ).2 else s

/-- A load from the CSM window waits until the engine's accesses issued before it are complete (R179). -/
def State.loadWait (s : State) (e addr : Nat) : State :=
  if 0x30000000 ≤ addr ∧ addr < 0x30400000 ∧ (s.engine e).csmQ ≠ [] then s.csmRun e (s.engine e).csmQ [] else s

/-- A store to LEN starts the channel, once it is free; a range error raises an exception and starts nothing. An engine that a waiting
DONE halts as the channel becomes free starts nothing more (R173). -/
def State.portXfer (s : State) (e c : Nat) (len : Word) : Except Nat State :=
  let r := (s.engine e).run
  let s := s.xferFinish e c
  let x := s.engine e
  let ch := x.chan c
  let n := (len.extractLsb' 0 9).toNat
  if x.run ≠ r then .ok s
  else if n = 0 ∨ 256 < n ∨ 0x400000 < ch.csm.toNat + 32 * n ∨ (len.getLsbD 31 = true ∧ ch.csm.toNat < 0x10000) ∨
      ch.loc.toNat < 0x10000000 ∨ 0x10040000 < ch.loc.toNat + 32 * n then .error 4
  else if ch.csm.toNat % 32 ≠ 0 then .error 3
  else .ok (s.setEngine e { x with
    xfer := Tab.set Xfer.init c { ch with len := len } x.xfer, csmQ := x.csmQ ++ [.xfer c ch.csm ch.loc len] })

/-- A posted store to the CSM: at once where no access is under way, else behind those issued before it (R179). -/
def State.csmStore (s : State) (e a n v : Nat) : State :=
  let x := s.engine e
  if x.csmQ = [] then s.csmDo e (.store a n v) else s.setEngine e { x with csmQ := x.csmQ ++ [.store a n v] }

/-! ## Stores -/

/-- A word store to the I/O window. -/
def State.ioWrite (s : State) (e off : Nat) (w : Word) : Except Nat State :=
  let x := s.engine e
  if off = 0x01C then .ok (s.portEvclr e w)
  else if off = 0x020 then .ok (s.portDone e)
  else if off = 0x024 then .ok (s.releaseBits e (w.toNat % 128))
  else if off = 0x028 then .ok (s.portSignal e (w.extractLsb' 0 16))
  else if off = 0x060 then s.portTb2inc e w
  else if off = 0x064 then s.portTb2step e w
  else if 0x200 ≤ off ∧ off < 0x2C0 ∧ off % 32 = 0 then .ok (s.portAlloc e ((off - 0x200) / 32) w)
  else if 0x400 ≤ off ∧ off < 0x480 then
    .ok (s.setEngine e { x with stage := Tab.set 0 ((off - 0x400) / 4) w x.stage })
  else if off = 0x480 then .ok (s.portCommit e w false)
  else if off = 0x484 then .ok (s.portCommitCoast e w false)
  else if 0x500 ≤ off ∧ off < 0x600 then
    match x.notchStore ((off - 0x500) / 64) ((off - 0x500) % 64) w with
    | some y => .ok (s.setEngine e y)
    | none => .error (if (x.notchU 0).read ((off - 0x500) % 64) = none then 4 else 5)
  else if 0x600 ≤ off ∧ off < 0x700 then
    match x.followStore ((off - 0x600) / 32) ((off - 0x600) % 32) w with
    | some y => .ok (s.setEngine e y)
    | none => .error (if (x.followU 0).read ((off - 0x600) % 32) = none then 4 else 5)
  else if 0x800 ≤ off ∧ off < 0x820 then .ok (s.portTrace e ((off - 0x800) / 4) w)
  else if off = 0x820 then .ok (s.traceSource 1)
  else if 0x900 ≤ off ∧ off < 0x940 then
    let c := (off - 0x900) / 16
    let ch := x.chan c
    if off % 16 = 0 then .ok (s.setEngine e { x with xfer := Tab.set Xfer.init c { ch with csm := w } x.xfer })
    else if off % 16 = 4 then .ok (s.setEngine e { x with xfer := Tab.set Xfer.init c { ch with loc := w } x.xfer })
    else if off % 16 = 8 then s.portXfer e c w
    else .error 4
  else if (s.ioRead e off).isSome then .error 5
  else .error 4

/-- A store of `n` bytes (2, 4 or 8) of `v` at an address (R178, R179). -/
def State.engStore (s : State) (e addr n v : Nat) : Except Nat State :=
  let x := s.engine e
  if 0x10000000 ≤ addr ∧ addr < 0x10040000 then
    if addr % n = 0 then .ok (s.setEngine e { x with data := Tab.writeLE (addr - 0x10000000) v n x.data }) else .error 3
  else if addr < 0x20000 ∨ (0x20000000 ≤ addr ∧ addr < 0x20001000) then .error 5
  else if 0x30000000 ≤ addr ∧ addr < 0x30400000 then
    if addr % 32 ≠ 0 then .error 3
    else if addr < 0x30010000 then .error 5
    else .ok (s.csmStore e (addr - 0x30000000) n v)
  else if 0x40000000 ≤ addr ∧ addr < 0x40001000 then
    let off := addr - 0x40000000
    if addr % n ≠ 0 then .error 3
    else if n = 4 then s.ioWrite e off (BitVec.ofNat 32 v)
    else if n = 2 then
      let o := off - off % 4
      let w := (s.ioRead e o).getD 0
      s.ioWrite e o (BitVec.ofNat 32 (if off % 4 = 0 then w / 65536 * 65536 + v % 65536 else w % 65536 + v % 65536 * 65536))
    else match s.ioWrite e off (BitVec.ofNat 32 v) with
      | .ok t => t.ioWrite e (off + 4) (BitVec.ofNat 32 (v / 2 ^ 32))
      | .error c => .error c
  else .error 4

end Sys2Proof.Machine
end

