-- ==== Sys2Proof/Machine/NodeOps.lean ====
section
/-! DEFINITION. The operations of a node: its legs under the interlock, blocks, the Response, coast, its registers and
Management (chapter "The node contract"). -/

namespace Sys2Proof.Machine

/-! ## Legs (R102, R103, R83) -/

/-- A node's leg. -/
def Node.leg (x : Node) (l : Nat) : NodeLeg := Tab.get NodeLeg.init l x.legs
/-- Change a node's leg. -/
def Node.setLeg (x : Node) (l : Nat) (g : NodeLeg) : Node := { x with legs := Tab.set NodeLeg.init l g x.legs }

/-- A leg goes both-off at `t`; a leg in high impedance stays there. -/
def NodeLeg.off (g : NodeLeg) (t : BitVec 40) : NodeLeg :=
  match g.st with
  | .high => { g with st := .off, offHigh := some t, delayed := none }
  | .low => { g with st := .off, offLow := some t, delayed := none }
  | .off => { g with delayed := none }
  | .highZ => { g with delayed := none }

/-- A leg both-off with nothing pending. -/
def NodeLeg.cut (t : BitVec 40) (g : NodeLeg) : NodeLeg := { g.off t with edges := [], suppFrom := none, coastAt := none }

/-- Every leg both-off with nothing pending. -/
def Node.cutAll (x : Node) (t : BitVec 40) : Node := { x with legs := Tab.mapV NodeLeg.init (NodeLeg.cut t) x.legs }

/-- A time `d` ns after another. -/
def tbNs (t : BitVec 40) (d : Nat) : BitVec 40 := t + BitVec.ofNat 40 (256 * d)

/-- The interlock of R102 on an edge to an on-state at `t` with floor `dt`: the leg and whether INTLK sets. -/
def NodeLeg.goOn (g : NodeLeg) (t : BitVec 40) (dt : Nat) (high : Bool) : NodeLeg × Bool :=
  let on : LegSt := if high then .high else .low
  if g.st = on ∨ g.st = .highZ then ({ g with delayed := none }, false)
  else if g.st ≠ .off then ({ g.off t with delayed := some (tbNs t dt, on) }, true)
  else
    match (if high then g.offLow else g.offHigh) with
    | some o =>
      if 0 ≤ tbDiff t o ∧ tbDiff t o < 256 * (dt : Int) then ({ g with delayed := some (tbNs o dt, on) }, true)
      else ({ g with st := on, delayed := none }, false)
    | none => ({ g with st := on, delayed := none }, false)

/-- An edge of a leg at `t` (R102): its state or both-off, then the interlock. -/
def NodeLeg.edge (g : NodeLeg) (t : BitVec 40) (dt : Nat) (st : EdgeSt) : NodeLeg × Bool :=
  match st with
  | .high => g.goOn t dt true
  | .low => g.goOn t dt false
  | .off => (g.off t, false)
  | .reject => (g.off t, false)

/-- A measured switching time in 0.1 ns as SWT gives it, `none` where no transition was observed within 2 µs (R104). -/
def swtCode (swt : Option Nat) : Nat :=
  match swt with
  | some v => if 32765 < v then 0x7FFE else v
  | none => 0x7FFD

/-- When the measurement of an edge at `t` completes. -/
def swtDone (t : BitVec 40) (swt : Option Nat) : BitVec 40 := t + BitVec.ofNat 40 ((swt.getD 20000) * 256 / 10)

/-- The measurements of a leg after an edge at `t`: one more, with the type bit, where the leg changed (R104). -/
def swtsOf (old new : NodeLeg) (t : BitVec 40) (swt : Option Nat) : List (BitVec 40 × Nat) :=
  if old.st = new.st then old.swts
  else old.swts ++ [(swtDone t swt, (if new.st = .off then 32768 else 0) + swtCode swt)]

/-- The measurements completed before `t0`. -/
def swtsAt (t0 : BitVec 40) (m : List (BitVec 40 × Nat)) : List (BitVec 40 × Nat) := m.filter (fun e => decide (tbDiff e.1 t0 < 0))

/-- SWT at `t0`: the latest edge whose measurement is complete and not reported (R104). -/
def swtAt (t0 : BitVec 40) (m : List (BitVec 40 × Nat)) : Nat := ((swtsAt t0 m).getLast?.map (·.2)).getD 0x7FFF

/-- What is left to report after a Response at `t0`: the edges after the one reported. -/
def swtsLeft (t0 : BitVec 40) : List (BitVec 40 × Nat) → List (BitVec 40 × Nat)
  | [] => []
  | e :: m => if (e :: m).any (fun e => decide (tbDiff e.1 t0 < 0)) then swtsLeft t0 m else e :: m

/-- Is a cell of a node bypassed: its bypass held since the target boundary, or confirmed closed (R111)? -/
def Node.cellOut (x : Node) (second : Bool) : Bool :=
  if second then x.nr.bypHeld.getLsbD 1 || x.nr.bypstat.getLsbD 3 else x.nr.bypHeld.getLsbD 0 || x.nr.bypstat.getLsbD 2

/-- Does a leg take no edges: its fault bit is set, or its cell is bypassed (R109, R111)? -/
def Node.legDead (x : Node) (l : Nat) : Bool :=
  x.nr.legflt.getLsbD l || x.cellOut (x.ident.any (fun i => i.legcell.getLsbD l))

/-- Strength as the node executes it: a code at or above STRN is STRN - 1 (R103). -/
def Node.strength (x : Node) (c : Nat) : Nat :=
  match x.ident with
  | some i => if i.strn ≤ c then i.strn - 1 else c
  | none => c

/-- The time a node's tick began, as the node holds it. -/
def Node.t0 (x : Node) : BitVec 40 := x.nx.boundary.getD 0

/-- A node's execution granularity in ps. -/
def Node.gran (x : Node) : Nat := Nat.max 1 ((x.ident.map (·.gran)).getD 100)

/-- The step nearest to a time `d` after the boundary (R100). -/
def gateStep (gran : Nat) (d : Int) : Int := divRound (1000 * d) (256 * (gran : Int))

/-- The step at which an edge of a leg with target `u` executes, and its time: the nearest one, or one step after the leg's last
edge where that stands there already (R100). The steps are counted from the node's boundary (log entry 145). -/
def Node.atStep (x : Node) (l : Nat) (u : BitVec 40) : Int × BitVec 40 :=
  let k := gateStep x.gran (tbDiff u x.t0)
  let k := match (x.leg l).lastStep with
    | some j => if k ≤ j then j + 1 else k
    | none => k
  (k, x.t0 + BitVec.ofInt 40 (Int.fdiv (k * (256 * (x.gran : Int))) 1000))

/-- Execute an edge with target `u` on a leg, with INTLK, strength and SWT. -/
def Node.doEdge (x : Node) (l : Nat) (u : BitVec 40) (st : EdgeSt) (str : Nat) (swt : Option Nat) : Node :=
  let g := x.leg l
  let p := x.atStep l u
  let r := g.edge p.2 x.nr.ilkdt st
  let h := { r.1 with swts := swtsOf g r.1 p.2 swt, strength := x.strength str, lastStep := some p.1 }
  let y := x.setLeg l h
  if r.2 then { y with nr.intlk := y.nr.intlk ||| BitVec.ofNat 8 (2 ^ l) } else y

/-- A leg's delayed on-state takes effect (R102). -/
def Node.doDelayed (x : Node) (l : Nat) (swt : Option Nat) : Node :=
  let g := x.leg l
  match g.delayed with
  | some (t, st) => x.setLeg l { g with st := st, delayed := none, swts := swtsOf g { g with st := st } t swt }
  | none => x

/-- The last steps of the legs counted from the boundary that begins `d` later. -/
def Node.rebase (x : Node) (d : Int) : Node :=
  let k := gateStep x.gran d
  let f (g : NodeLeg) : NodeLeg := { g with lastStep := (g.lastStep.map (fun j => j - k)).filter (fun j => decide (0 ≤ j)) }
  { x with legs := Tab.mapV NodeLeg.init f x.legs }

/-! ## States (R84) -/

/-- Is a node in N-READY, N-RUN or N-COAST? -/
def Node.active (x : Node) : Bool := decide (x.ns = .ready ∨ x.ns = .run ∨ x.ns = .coast)

/-- An off-state test is aborted (R112). The entries to N-FAULT and N-BYPASS abort it as a block does, every leg being held
both-off by another cause from then on: R112 names neither (log entry 154). -/
def Node.osdAbort (x : Node) : Node :=
  if x.nr.osdRun then { x with nr.osdRun := false, np.osdValid := false } else x

/-- Enter N-BLOCK with a cause, from N-READY, N-RUN and N-COAST. -/
def Node.block (x : Node) (cause : Nat) : Node :=
  if x.active then { (x.cutAll x.t0).osdAbort with ns := .block, nr.blkcause := cause, nx.coastT0 := none } else x

/-- A fault cause sets; the node enters N-FAULT from the states of Table NC-2. -/
def Node.fault (x : Node) (bit : Nat) : Node :=
  let x := { x with nr.fltcause := x.nr.fltcause ||| BitVec.ofNat 16 (2 ^ bit), nx.faultNow := true }
  if x.active || x.ns == .block then { (x.cutAll x.t0).osdAbort with ns := .fault, nx.coastT0 := none } else x

/-- TB0_LOCK clears: the node blocks itself (Table NC-2). -/
def Node.unlock (x : Node) : Node :=
  ({ x with nr.tb0Lock := false, np.syncGood := 0, np.syncBad := 0 } : Node).block 4

/-- A counter of the node; at its limit it sticks and CNT_OVF sets (R86). -/
def Node.cnt (x : Node) (v : Nat) (set : Node → Nat → Node) : Node :=
  if v + 1 < 2 ^ 32 then set x (v + 1) else { x with nr.cntOvf := true }

/-- A frame or record that fails a check. -/
def Node.rxErr (x : Node) : Node :=
  ({ x with nx.rxErrSince := true } : Node).cnt x.nc.rxerr (fun y v => { y with nc.rxerr := v })

/-- Are all cells the node serves bypassed? -/
def Node.allBypassed (x : Node) : Bool :=
  x.cellOut false && (x.cellOut true || x.ident.any (fun i => decide (i.cells ≤ 1)))

/-- Are the bypasses of every served cell confirmed closed? -/
def Node.allClosed (x : Node) : Bool :=
  x.nr.bypstat.getLsbD 2 && (x.nr.bypstat.getLsbD 3 || x.ident.any (fun i => decide (i.cells ≤ 1)))

/-- The node after reset (SRST or power-up): the reset values of Table NC-3, actuators as they stand: `held` are energised, `closed`
confirmed (R111: nothing releases a bypass); what waits at its ports is no register and goes on. That SRST clears INTLK, LEGFLT, BSUV, a
leg's high impedance and its driver's report too is the model's choice (log entry 177). -/
def Node.restart (x : Node) (held closed : BitVec 2) : Node :=
  let y := { Node.init with
    powered := true, ident := x.ident, nr := { Node.init.nr with bypstat := closed ++ held, bypHeld := held }, np.fwd := x.np.fwd }
  { y with ns := if y.allClosed then .bypass else .off }

/-! ## Headers and records (R94 to R99) -/

/-- Is a Wale header accepted (R94)? -/
def Node.hdrOk (x : Node) (n : Nat) (h : WaleHdr) : Bool :=
  h.hcrcOk && decide (h.ring = n / 16) && decide (x.nc.epochSeen ≤ h.epoch)

/-- Raise EPOCH_SEEN (R94). -/
def Node.seeEpoch (x : Node) (h : WaleHdr) : Node := { x with nc.epochSeen := Nat.max x.nc.epochSeen h.epoch }

/-- In N-RUN and N-COAST a node follows its own ticks. -/
def Node.following (x : Node) : Bool := decide (x.ns = .run ∨ x.ns = .coast)

/-- TB0 as a node holds it at a reading of its local clock (R89). -/
def Node.tb0At (x : Node) (t : BitVec 40) : BitVec 40 := t + x.np.tbOff

/-- Take the NEN bit of an accepted regular header (R85, R96); outside N-RUN and N-COAST adopt its tick and boundary. Of two headers
accepted for one target tick the later one's NEN bit and STATE count: the model's choice (log entry 179). -/
def Node.takeNen (x : Node) (n : Nat) (h : WaleHdr) : Node :=
  if h.supp then x
  else if h.tick = x.nx.tick + 1 ∨ x.following = false then
    let x := { x with nc.nenPend := some (h.tick, h.nen.getLsbD (n % 16), h.state) }
    if x.following then x else { x with nx.pendBoundary := some (h.tick, h.tgtT0) }
  else x

/-- Do the edges of a record obey R57: at most 32, 8 a leg, offsets not falling, no two of a leg at one offset, within T? -/
def edgesOk (tper : Nat) (es : List Edge) : Bool :=
  decide (es.length ≤ 32) &&
  (List.range 8).all (fun l =>
    let f := es.filter (fun e => e.leg == l)
    decide (f.length ≤ 8) && (f.map (·.offset)).Pairwise (· < ·)) &&
  decide ((es.map (·.offset)).Pairwise (· ≤ ·)) && es.all (fun e => decide (e.offset < 256 * tper))

/-- Is a record valid (R56, R57)? -/
def Node.recOk (x : Node) (r : NodeRec) : Bool := r.rcrcOk && decide (r.cmd ≤ 2) && edgesOk x.nx.tper r.edges

/-- Check 3 of R95: a higher epoch than that of WSEQ, or a later sequence number. -/
def Node.seqOk (x : Node) (h : WaleHdr) : Bool :=
  match x.nc.wseqEpoch with
  | none => true
  | some e => decide (e < h.epoch) || (decide (e = h.epoch) && decide (0 < (h.seq - x.nc.wseq).toInt))

/-- Checks 4 and 5 of R95. -/
def Node.tickOk (x : Node) (h : WaleHdr) : Bool :=
  if x.following then
    decide (h.tick = x.nx.tick + 1) && decide ((tbDiff h.tgtT0 (tbNs x.t0 x.nx.tper)).natAbs ≤ 256)
  else true

/-- Has the node accepted a regular record for this tick of the same epoch (R97)? -/
def Node.dup (x : Node) (h : WaleHdr) : Bool :=
  x.nx.pend.any (fun p => p.tick == h.tick && p.epoch == h.epoch)

/-- Check 6 of R95 and, while coasting, the end of the coast window (R107). -/
def Node.lateRec (x : Node) (h : WaleHdr) (arrival : BitVec 40) : Bool :=
  decide (tbDiff h.tgtT0 arrival < 800 * 256) ||
  (match x.nx.coastT0 with
   | some t => decide (x.ns = .coast ∧ 256000 * (x.nr.coastwin : Int) ≤ tbDiff h.tgtT0 t)
   | none => false)

/-- The sender of an accepted record becomes the mandate holder, and TSRC names its end (R89, R95). -/
def Node.mandated (x : Node) (h : WaleHdr) : Node :=
  { x with
    nc.wseq := h.seq, nc.wseqEpoch := some h.epoch, nr.mandate := some h.devid, nr.mandateB := h.endB,
    nr.tsrcB := if (if h.endB then x.np.missB else x.np.missA) < 4 then h.endB else !h.endB }

/-- The command of a record that the node takes: a bypass command not in N-OFF and N-BYPASS (R111). -/
def Node.cmdOf (x : Node) (r : NodeRec) : Nat := if r.cmd = 1 ∧ (x.ns = .off ∨ x.ns = .bypass) then 0 else r.cmd

/-- Accept a regular record for its target boundary. -/
def Node.accept (x : Node) (n : Nat) (h : WaleHdr) (r : NodeRec) : Node :=
  let x := x.mandated h
  let p : NodePend :=
    { tick := h.tick, tgt := h.tgtT0, epoch := h.epoch, state := h.state, nen := h.nen.getLsbD (n % 16), cmd := x.cmdOf r,
      arg := r.arg, edges := r.edges }
  let x := { x with nx.pend := some p }
  if x.following then x else { x with nx.pendBoundary := some (h.tick, h.tgtT0) }

/-- The earliest supplementary offset of a leg. -/
def suppFirst (l : Nat) (es : List Edge) : Option Nat := (es.filter (fun e => e.leg == l)).head?.map (·.offset)

/-- A leg's edges after the merge of R99. -/
def NodeLeg.merged (g : NodeLeg) (l : Nat) (es : List Edge) : List Edge :=
  match suppFirst l es with
  | none => g.edges
  | some f => g.edges.filter (fun e => decide (e.offset < f)) ++ es.filter (fun e => e.leg == l)

/-- Does a supplementary record pass R98 at its arrival? -/
def Node.suppOk (x : Node) (n : Nat) (h : WaleHdr) (r : NodeRec) (arrival : BitVec 40) : Bool :=
  x.hdrOk n h && x.recOk r && x.seqOk h && decide (x.ns = .run) && decide (h.tick = x.nx.tick) &&
  decide ((tbDiff h.tgtT0 x.t0).natAbs ≤ 256) &&
  r.edges.all (fun e => decide (1200 * 256 ≤ tbDiff (h.tgtT0 + BitVec.ofNat 40 e.offset) arrival)) &&
  (List.range 8).all (fun l => decide ((x.leg l).execd + ((x.leg l).merged l r.edges).length ≤ 8))

/-- Merge an accepted supplementary record, leg by leg. The edges' targets count from the node's boundary, not from the Wale's own
TGT_T0, which may differ by 1 ns: the model's choice (log entry 181). -/
def Node.merge (x : Node) (es : List Edge) : Node :=
  forUpTo (fun l x =>
    match suppFirst l es with
    | none => x
    | some f =>
      if x.legDead l then x
      else x.setLeg l { x.leg l with
        edges := (x.leg l).merged l es, suppFrom := some (Nat.min ((x.leg l).suppFrom.getD f) f) }) 8 x

/-! ## The boundary of a node -/

/-- A complete NEN toggle clears INTLK, and LEGFLT and BSUV of the legs whose driver reports no fault (R85). They clear at the target
boundary of the header that sets NEN again, where a node it releases changes state: the model's choice (log entry 180). -/
def Node.toggled (x : Node) : Node :=
  let keep : BitVec 8 := BitVec.ofNat 8 (((List.range 8).filter (fun l => (x.leg l).drvFault)).foldl (fun a l => a + 2 ^ l) 0)
  let y := { x with nr.intlk := 0, nr.legflt := x.nr.legflt &&& keep, nr.bsuv := x.nr.bsuv &&& keep }
  forUpTo (fun l y => if (y.leg l).st = .highZ ∧ y.nr.legflt.getLsbD l = false then
    y.setLeg l { y.leg l with st := .off } else y) 8 y

/-- The NEN bit of a Wale takes effect at its target boundary: toggle and the transitions of Table NC-2. -/
def Node.nenEffect (x : Node) (tick : BitVec 32) (bit : Bool) (hstate : Nat) : Node :=
  if !bit then
    let x := { x with nc.nenLow := some (x.nc.nenLow.getD tick) }
    { (x.block 3) with nc.nenPend := none }
  else
    let done := x.nc.nenLow.any (fun t => decide (0 < tickDiff tick t))
    let x := if done then { x.toggled with nc.nenLow := none } else x
    let x := { x with nc.nenPend := none }
    match x.ns with
    | .off => if x.nr.cfgDone && x.nr.tb0Lock then { x with ns := .ready } else x
    | .block =>
      if done && decide (x.nx.blockTicks = 0) && x.nr.tb0Lock && x.nr.cfgDone then { x with ns := .ready } else x
    | .fault => if done && x.nr.fltcause == 0 then { x with ns := .ready } else x
    | .run => if hstate = 5 ∨ hstate = 6 then x else x.block 6
    | .coast => if hstate = 5 ∨ hstate = 6 then x else x.block 6
    | .ready => x
    | .bypass => x

/-- Load the edges of an accepted record into the legs that take edges. -/
def Node.loadEdges (x : Node) (es : List Edge) : Node :=
  forUpTo (fun l x =>
    let g := x.leg l
    x.setLeg l { g with
      edges := if x.legDead l then [] else es.filter (fun e => e.leg == l), execd := 0, suppFrom := none, coastAt := none }) 8 x

/-- The boundary at which the next tick starts: that of an accepted or adopted Wale, else one tick period on. -/
def Node.nextBoundary (x : Node) : Option (BitVec 32 × BitVec 40) :=
  match x.nx.pend with
  | some p => some (p.tick, p.tgt)
  | none => match x.nx.pendBoundary with
    | some b => some b
    | none => x.nx.boundary.map (fun t => (x.nx.tick + 1, tbNs t x.nx.tper))

/-- Sync bookkeeping of a tick that ends: misses by end, HOLDOVER (Table NC-5), delays that wait for a boundary. -/
def Node.syncTick (x : Node) : Node :=
  let a := if x.np.gotA then 0 else x.np.missA + 1
  let b := if x.np.gotB then 0 else x.np.missB + 1
  { x with
    np.missA := a, np.missB := b, np.gotA := false, np.gotB := false, nr.holdover := decide (4 ≤ a ∧ 4 ≤ b),
    nr.dlyA := x.nr.dlyAPend.getD x.nr.dlyA, nr.dlyB := x.nr.dlyBPend.getD x.nr.dlyB,
    nr.dlyAPend := none, nr.dlyBPend := none }

/-- The record accepted for the tick that begins takes effect: the command, the transition to N-RUN, the edges. An off-state test that
runs then runs on: the model's choice (log entry 178). -/
def Node.takeRecord (x : Node) : Node :=
  match x.nx.pend with
  | none => ({ x with nx.gotRegular := false, nx.cmdNow := 0, nx.argNow := 0 } : Node).loadEdges []
  | some p =>
    let x := { x with nx.gotRegular := true, nx.cmdNow := p.cmd, nx.argNow := p.arg, nx.pend := none }
    let live := decide (p.state = 5 ∨ p.state = 6)
    let x := if (x.ns = .ready ∧ p.nen = true ∧ live = true ∧ x.nr.patValid = true) ∨ x.ns = .coast then
      { x with ns := .run, nx.coastT0 := none } else x
    x.loadEdges (if x.ns = .run then p.edges else [])

/-- The NEN bit that waits for tick `k` takes effect. -/
def Node.nenNow (y : Node) (k : BitVec 32) : Node :=
  match y.nc.nenPend with
  | some (kt, b, st) => if kt = k then y.nenEffect kt b st else y
  | none => y

/-- Has the coast window of a node's episode elapsed at a time (R107)? -/
def Node.windowOver (x : Node) (t : BitVec 40) : Bool :=
  x.nx.coastT0.any (fun c => decide (256000 * (x.nr.coastwin : Int) ≤ tbDiff t c))

/-- The record for the tick takes effect; a coasting node without one coasts on and counts the tick, or blocks itself where its coast
window ends at the boundary (R107). -/
def Node.recordNow (y : Node) : Node :=
  if y.ns = .coast ∧ y.nx.pend = none then
    if y.windowOver y.t0 then (y.block 2).takeRecord
    else ({ y with nx.gotRegular := false, nx.coastNow := true } : Node).cnt y.nc.coastedCnt (fun z v => { z with nc.coastedCnt := v })
  else y.takeRecord

/-- The node at its boundary (R84, R92): the tick advances, the NEN bit and the record for it take effect. A coasting
node with no record coasts on. A node that the NEN bit brings to N-READY goes on to N-RUN at the same boundary where the record for
the tick permits it, both rows of Table NC-2 naming that boundary: the model's reading (log entry 151). -/
def Node.boundary (x : Node) : Node :=
  match x.nextBoundary with
  | none => x.syncTick
  | some (k, t) =>
    let bt := x.nx.blockTicks
    let y := { (x.syncTick).rebase (tbDiff t x.t0) with
      nx.boundary := some t, nx.tick := k, nx.pendBoundary := none, nx.coastedPrev := x.nx.coastNow, nx.coastNow := false,
      nx.suppPrev := x.nx.suppEdges, nx.suppEdges := false, nx.faultNow := false }
    let y := y.nenNow k
    let y := y.recordNow
    { y with nx.blockTicks := bt - 1 }

/-! ## The Response (R92, R104, Table DL-12) -/

/-- The node state a Response reports: a node in N-RUN without a record is about to coast, or to block. -/
def Node.reported (x : Node) : NodeState :=
  if x.ns = .run ∧ x.nx.gotRegular = false then (if x.nr.patValid then .coast else .block) else x.ns

/-- The measurements of a sample as a Response carries them: 0x8000 for one that is not provided (R92, Table NC-4). -/
def Node.measured (x : Node) (meas : List Int) : List Int :=
  (List.range 8).map (fun i =>
    if x.ident.all (fun d => d.measfs.getD i 0 % 2147483648 == 0) then -32768 else meas.getD i (-32768))

/-- The Response of a node for its samples. -/
def Node.response (x : Node) (n : Nat) (lockA lockB : Bool) : Response :=
  { ring := n / 16, pos := n % 16, seq := x.nx.tick.extractLsb' 0 16, nstate := x.reported, portALock := lockA,
    portBLock := lockB, coasted := x.nx.coastedPrev, rxErr := x.nx.rxErrSince, bsuv := x.nr.bsuv != 0,
    supp := x.nx.suppPrev, osdValid := x.np.osdValid, legflt := x.nr.legflt, intlk := x.nr.intlk,
    epochSeen := x.nc.epochSeen, wseq := x.nc.wseq, meas := x.np.meas, tj := x.np.tj,
    swt := (List.range 8).map (fun l => swtAt x.t0 (x.leg l).swts), osd := x.np.osd }

/-- What a Response reports once is used up. -/
def Node.responded (x : Node) : Node :=
  { x with nx.rxErrSince := false, legs := Tab.mapV NodeLeg.init (fun g => { g with swts := swtsLeft x.t0 g.swts }) x.legs }

/-! ## Coast (R105 to R107) -/

/-- Is a Coast-pattern frame valid (R64, Table DL-16)? -/
def CoastOk (p : CoastPat) : Bool :=
  p.ents.all (fun e => decide (e.offset < p.period)) && decide ((p.ents.map (·.offset)).Pairwise (· ≤ ·)) &&
  (List.range 8).all (fun l =>
    let f := p.ents.filter (fun e => e.leg == l)
    decide (f.length ≤ 16) && decide ((f.map (·.offset)).Pairwise (· < ·))) &&
  decide (256000 ≤ p.period ∧ p.period ≤ 256000000 ∧ p.ents.length ≤ 128)

/-- The phase of a time within a pattern's period. -/
def patPhase (p : CoastPat) (t : BitVec 40) : Nat := (Int.fmod (tbDiff t p.anchor) (p.period : Int)).toNat

/-- The state of a leg's latest entry at or before a phase, wrapping; both-off for a leg without entries. -/
def patAt (p : CoastPat) (l ph : Nat) : EdgeSt × Nat :=
  let f := p.ents.filter (fun e => e.leg == l)
  match (f.filter (fun e => decide (e.offset ≤ ph))).getLast? with
  | some e => (e.st, e.strength)
  | none => ((f.getLast?.map (fun e => (e.st, e.strength))).getD (.off, 0))

/-- The leg's next pattern entry after a time: its time and entry. -/
def patNextEnt (p : CoastPat) (l : Nat) (t : BitVec 40) : Option (BitVec 40 × CoastEnt) :=
  let f := p.ents.filter (fun e => e.leg == l)
  let ph := patPhase p t
  match f.find? (fun e => decide (ph < e.offset)) with
  | some e => some (t + BitVec.ofNat 40 (e.offset - ph), e)
  | none => f.head?.map (fun e => (t + BitVec.ofNat 40 (p.period - ph + e.offset), e))

/-- A coast episode begins at the node's boundary (R106), or the node blocks itself where it holds no pattern. The edges made there share
one free switching time: the model's choice (log entry 182). -/
def Node.coastStart (x : Node) (swt : Option Nat) : Node :=
  if x.nr.patValid then
    let x := match x.nx.patNext with
      | some p => { x with nx.pat := p, nx.patNext := none }
      | none => x
    let t := x.t0
    let x := { x with ns := .coast, nx.coastT0 := some t, nx.coastNow := true }
    let x := x.cnt x.nc.coastedCnt (fun y v => { y with nc.coastedCnt := v })
    forUpTo (fun l x =>
      if x.legDead l then x
      else
        let q := patAt x.nx.pat l (patPhase x.nx.pat t)
        let y := x.doEdge l t q.1 q.2 swt
        y.setLeg l { y.leg l with coastAt := some t, edges := [] }) 8 x
  else x.block 5

/-- A coasting node executes a leg's next pattern entry, unless it lies at or after the next accepted record's boundary
or the end of the coast window (R106, R107). -/
def Node.coastEntry (x : Node) (l : Nat) (swt : Option Nat) : Node :=
  match (x.leg l).coastAt with
  | none => x
  | some t =>
    match patNextEnt x.nx.pat l t with
    | none => x
    | some (u, e) =>
      if x.nx.pend.any (fun p => decide (0 ≤ tbDiff u p.tgt)) ||
         x.nx.coastT0.any (fun c => decide (256000 * (x.nr.coastwin : Int) ≤ tbDiff u c)) then x
      else
        let y := x.doEdge l u e.st e.strength swt
        y.setLeg l { y.leg l with coastAt := some u }

/-! ## Management (R65, R86, R87) -/

/-- NSTAT (Table NC-5). -/
def Node.nstat (x : Node) : Nat :=
  let bit (b : Bool) (n : Nat) : Nat := if b then 2 ^ n else 0
  bit x.nr.cntOvf 8 + bit x.nr.tb0Lock 7 + bit x.nr.tsrcB 6 + bit x.nr.patValid 5 + bit x.nr.mandate.isSome 4 +
  bit x.nr.holdover 3 + bit x.nr.osdRun 2

/-- The bytes of an identity block (Table NC-4); a block whose ICRC does not pass carries a free value there. -/
def identBytes (i : NodeIdent) : List Byte :=
  let body := beBytes (i.cverMajor * 256 + i.cverMinor) 2 ++ beBytes i.nclass 1 ++ beBytes i.nlegs 1 ++ beBytes i.vendor 2 ++
    beBytes i.hwrev 2 ++ beBytes i.fwver 4 ++ beBytes i.serial 8 ++ beBytes i.cells 1 ++ [i.legcell] ++ beBytes i.strn 1 ++
    [i.rates] ++ beBytes i.gran 2 ++ beBytes i.fwdlat 2 ++ beBytes i.bypt 2 ++ [i.osdcap] ++ beBytes 0 1 ++
    (List.range 4).map (fun k => BitVec.ofNat 8 (i.tjmap.getD k 0)) ++
    (List.range 8).flatMap (fun k => beBytes (i.measfs.getD k 0) 4) ++ beBytes 0 56
  body ++ beBytes (if i.icrcOk then crc32c body else (Sys2Proof.Config.freeWord i.serial).toNat) 4

/-- The registers of Table NC-3 from 0x0100 on: address, bytes and value. OVTH1, which the table gives for class LV-D, stands in
every node here and acts in LV-D only (log entry 153). -/
def Node.regs (x : Node) : List (Nat × Nat × Nat) :=
  [(0x100, 2, if x.nr.cfgDone then 1 else 0), (0x102, 2, x.nstat), (0x104, 2, x.nr.fltcause.toNat), (0x106, 1, x.nr.blkcause),
   (0x107, 1, x.nr.bypstat.toNat), (0x108, 1, x.nr.bsuv.toNat), (0x110, 4, x.nr.dlyA), (0x114, 4, x.nr.dlyB),
   (0x118, 4, x.nr.coastwin), (0x11C, 1, x.nr.strmem.toNat), (0x11E, 2, x.nr.ilkdt), (0x120, 2, ofSigned 16 x.nr.ovth0),
   (0x122, 2, ofSigned 16 x.nr.ovth1), (0x140, 4, x.nc.prbI), (0x144, 4, x.nc.prbFab), (0x148, 4, x.nc.prbFba),
   (0x14C, 4, x.nc.prbTick.toNat), (0x180, 4, x.nc.rxerr), (0x184, 4, x.nc.late), (0x188, 4, x.nc.suprej),
   (0x18C, 4, x.nc.blkinv), (0x190, 4, x.nc.coastedCnt), (0x194, 4, x.nc.tberr)]

/-- One byte of a node's register space. -/
def Node.regByte (x : Node) (a : Nat) : Option Byte :=
  if a < 0x80 then x.ident.map (fun i => (identBytes i).getD a 0)
  else (x.regs.find? (fun r => decide (r.1 ≤ a ∧ a < r.1 + r.2.1))).map (fun r =>
    (beBytes r.2.2 r.2.1).getD (a - r.1) 0)

/-- A read of register bytes: the data, or `none` at an address without a register. -/
def Node.regBytes (x : Node) (a : Nat) : Nat → Option (List Byte)
  | 0 => some []
  | k + 1 => match x.regByte a, x.regBytes (a + 1) k with
    | some b, some bs => some (b :: bs)
    | _, _ => none

/-- Put a reply into the node, remembered with its tag where the request has been executed: STATUS 0x00 (R65). -/
def Node.reply (x : Node) (fromB : Bool) (tag : BitVec 8) (status : Nat) (data : List Byte) : Node :=
  { x with
    np.mgmtReply := some (fromB, tag, status, data),
    np.mgmtLast := if status = 0 then some (fromB, tag, status, data) else x.np.mgmtLast }

/-- A Management request: a node that receives the tag of its last executed request resends its reply (R65). -/
def Node.request (x : Node) (fromB : Bool) (tag : BitVec 8) (f : Node → Node × Nat × List Byte) : Node :=
  match x.np.mgmtLast with
  | some (_, t, st, data) =>
    if t = tag then { x with np.mgmtReply := some (fromB, tag, st, data) }
    else let r := f x; r.1.reply fromB tag r.2.1 r.2.2
  | none => let r := f x; r.1.reply fromB tag r.2.1 r.2.2

/-- Is the sender entitled to write: the mandate holder, or no Wale accepted since reset (R87)? -/
def Node.entitled (x : Node) (devid : Nat) : Bool := x.nr.mandate.all (fun d => d == devid)

/-- Is the node in a state in which its configuration is writable (R87)? -/
def Node.cfgWritable (x : Node) : Bool := decide (x.ns = .off ∨ x.ns = .ready ∨ x.ns = .block ∨ x.ns = .fault)

/-- SRST (R84, Table NC-5): the status and the node. -/
def Node.srst (x : Node) (devid : Nat) : Node × Nat :=
  if !x.entitled devid || x.following then (x, 4) else (x.restart x.nr.bypHeld (x.nr.bypstat.extractLsb' 2 2), 0)

/-- A write of CFG_DONE (R84, R87). An off-state test that runs when a 0 takes the node to N-OFF runs on: the model's choice (log entry
178). -/
def Node.cfgWrite (x : Node) (devid : Nat) (v : Bool) : Node × Nat :=
  if !x.entitled devid || !x.cfgWritable then (x, 4)
  else if v then ({ x with nr.cfgDone := true }, 0)
  else if x.ns = .off then ({ x with nr.cfgDone := false }, 0)
  else ({ x.cutAll x.t0 with nr.cfgDone := false, ns := .off }, 0)

/-- A write of a configuration register: range, then effect. -/
def Node.cfgReg (x : Node) (devid v lo hi : Nat) (f : Node → Node) : Node × Nat :=
  if !x.entitled devid || !x.cfgWritable then (x, 4) else if lo ≤ v ∧ v ≤ hi then (f x, 0) else (x, 6)

/-- A write of a delay register: writable in every state, from the next boundary, at once where none is known. -/
def Node.dlyReg (x : Node) (devid v : Nat) (f g : Node → Node) : Node × Nat :=
  if !x.entitled devid then (x, 4)
  else if 0x0FFFFFFF < v then (x, 6)
  else if x.nx.boundary.isSome then (g x, 0) else (f x, 0)

/-- A write of a counter: only 0 (R86). -/
def Node.cntReg (x : Node) (devid v : Nat) (f : Node → Node) : Node × Nat :=
  if !x.entitled devid then (x, 4) else if v = 0 then ({ f x with nr.cntOvf := false }, 0) else (x, 6)

/-- A Management write of one register, `w` bytes with value `v` (R87): the node and the status. A write that is not of one whole
register is answered STATUS 0x01, bad address: the manual states nothing of it (log entry 152). -/
def Node.regWrite (x : Node) (devid a w v : Nat) : Node × Nat :=
  match x.regs.find? (fun r => r.1 == a) with
  | none => (x, if a < 0x80 ∧ x.ident.isSome then 2 else 1)
  | some r =>
    if r.2.1 ≠ w then (x, 1)
    else if a = 0x100 then (if v.testBit 1 then x.srst devid else x.cfgWrite devid (v.testBit 0))
    else if a = 0x110 then x.dlyReg devid v (fun y => { y with nr.dlyA := v }) (fun y => { y with nr.dlyAPend := some v })
    else if a = 0x114 then x.dlyReg devid v (fun y => { y with nr.dlyB := v }) (fun y => { y with nr.dlyBPend := some v })
    else if a = 0x118 then x.cfgReg devid v 100 8000 (fun y => { y with nr.coastwin := v })
    else if a = 0x11C then x.cfgReg devid v 1 63 (fun y => { y with nr.strmem := BitVec.ofNat 6 v })
    else if a = 0x11E then x.cfgReg devid v 10 2000 (fun y => { y with nr.ilkdt := v })
    else if a = 0x120 then x.cfgReg devid v 1 32767 (fun y => { y with nr.ovth0 := v })
    else if a = 0x122 then x.cfgReg devid v 1 32767 (fun y => { y with nr.ovth1 := v })
    else if a = 0x180 then x.cntReg devid v (fun y => { y with nc.rxerr := 0 })
    else if a = 0x184 then x.cntReg devid v (fun y => { y with nc.late := 0 })
    else if a = 0x188 then x.cntReg devid v (fun y => { y with nc.suprej := 0 })
    else if a = 0x18C then x.cntReg devid v (fun y => { y with nc.blkinv := 0 })
    else if a = 0x190 then x.cntReg devid v (fun y => { y with nc.coastedCnt := 0 })
    else if a = 0x194 then x.cntReg devid v (fun y => { y with nc.tberr := 0 })
    else (x, 2)

/-! ## Off-state test (R112) -/

/-- The result of a leg by Table NC-11; voltages in mV of the switch node against DC+ and DC- in the two phases. -/
def osdClass (upP dnP upM dnM : Int) : Nat :=
  if upP.natAbs ≤ 200 ∧ dnP.natAbs ≤ 200 then 1
  else if upM.natAbs ≤ 200 ∧ dnM.natAbs ≤ 200 then 2
  else if 3000 < upP ∨ dnM < -3000 then 3
  else 0

/-- OSD: two bits a leg, legs not tested 0b00. -/
def osdWord (legs : BitVec 8) (upP dnP upM dnM : List Int) : Nat :=
  (List.range 8).foldl (fun a l =>
    a + (if legs.getLsbD l then osdClass (upP.getD l 0) (dnP.getD l 0) (upM.getD l 0) (dnM.getD l 0) else 0) * 4 ^ l) 0

end Sys2Proof.Machine
end

