-- ==== Sys2Proof/Machine/DictRead.lean ====
section
/-! DEFINITION. Reading the object dictionary: which entries there are, their attributes, the values that stand elsewhere in
the state than in the register file, and the items of a READ (R303 to R307, R316, Tables OD-1 to OD-15). -/

namespace Sys2Proof.Machine

/-! ## Numbers and bytes -/

/-- A binary32 code as a fraction (numerator, denominator). -/
def f32Rat (b : Nat) : Int × Nat :=
  let e := bitsN b 30 23
  let m := bitsN b 22 0
  let n : Nat := if e = 0 then m else 8388608 + m
  let e := if e = 0 then 1 else e
  let v : Int := if b.testBit 31 then -(n : Int) else (n : Int)
  if 150 ≤ e then (v * ((2 ^ (e - 150) : Nat) : Int), 1) else (v, 2 ^ (150 - e))

/-- The quotient of two binary32 codes rounded to the nearest integer; 0 where the divisor is 0. -/
def f32Div (a b : Nat) : Int :=
  let x := f32Rat a
  let y := f32Rat b
  if y.1 = 0 then 0 else divRound (x.1 * (y.2 : Int)) (y.1 * (x.2 : Int))

/-- The product of an integer and a binary32 code, as a binary32 code. -/
def f32Scale (n : Int) (b : Nat) : Nat :=
  let y := f32Rat b
  Sys2Proof.Config.floatOfRatio (n * y.1) y.2

/-- The number that bytes in order spell, most significant first. -/
def bytesNat (l : List Byte) : Nat := beNat l 0

/-- Octet bytes of `n` bytes with a part replaced. -/
def putOctets (n old off len v : Nat) : Nat :=
  if len = 0 then old else putBitsN old (8 * (n - off) - 1) (8 * (n - off - len)) v

/-- Bytes `off` to `off + len` of an octet value of `n` bytes. -/
def getOctets (n v off len : Nat) : Nat :=
  if len = 0 then 0 else bitsN v (8 * (n - off) - 1) (8 * (n - off - len))

/-! ## Strings (R303, R317) -/

/-- What UTF-8 may go on with after a byte: continuation bytes left, and the range of the next one; none where it is not valid. -/
def utf8Step (x : Option (Nat × Nat × Nat)) (byte : Byte) : Option (Nat × Nat × Nat) :=
  let b := byte.toNat
  match x with
  | none => none
  | some (0, _, _) =>
    if b < 0x80 then some (0, 0, 0)
    else if 0xC2 ≤ b ∧ b ≤ 0xDF then some (1, 0x80, 0xBF)
    else if b = 0xE0 then some (2, 0xA0, 0xBF)
    else if b = 0xED then some (2, 0x80, 0x9F)
    else if 0xE1 ≤ b ∧ b ≤ 0xEF then some (2, 0x80, 0xBF)
    else if b = 0xF0 then some (3, 0x90, 0xBF)
    else if 0xF1 ≤ b ∧ b ≤ 0xF3 then some (3, 0x80, 0xBF)
    else if b = 0xF4 then some (3, 0x80, 0x8F)
    else none
  | some (n + 1, lo, hi) => if lo ≤ b ∧ b ≤ hi then some (n, 0x80, 0xBF) else none

/-- Are bytes valid UTF-8? -/
def utf8Ok (l : List Byte) : Bool := (l.foldl utf8Step (some (0, 0, 0))).any (fun x => x.1 == 0)

/-- The bytes of a string's value, its first byte most significant. -/
def strBytes (v : Nat) : List Byte := beBytes v ((Nat.log2 v) / 8 + (if v = 0 then 0 else 1))

/-- A string after a write: at offset 0 it is replaced, above it the named bytes are (R317). -/
def strPut (old : List Byte) (off : Nat) (new : List Byte) : List Byte :=
  if off = 0 then new else old.take off ++ new ++ old.drop (off + new.length)

/-! ## Attributes -/

/-- Type code of Table OD-1. -/
def tyCode : ETy → Nat
  | .bool => 1 | .u8 => 2 | .u16 => 3 | .u32 => 4 | .u64 => 5 | .i16 => 6 | .i32 => 7 | .q15 => 8 | .q31 => 9 | .f32 => 10
  | .octets => 11 | .str => 12

/-- Access code of Table OD-2. -/
def accCode : EAcc → Nat
  | .ro => 0 | .rw => 1 | .rwb => 2 | .wo => 3 | .rws => 4

/-- The type and the bytes of a type code of Table OD-1; a variable-length type has no length of its own in an export. -/
def tyOfCode (c : Nat) : ETy × Nat :=
  if c = 1 then (.bool, 1) else if c = 2 then (.u8, 1) else if c = 3 then (.u16, 2) else if c = 5 then (.u64, 8)
  else if c = 6 then (.i16, 2) else if c = 7 then (.i32, 4) else if c = 8 then (.q15, 2) else if c = 9 then (.q31, 4)
  else if c = 10 then (.f32, 4) else if c = 11 then (.octets, 0) else if c = 12 then (.str, 0) else (.u32, 4)

/-- Is a type signed? -/
def tySigned : ETy → Bool
  | .i16 => true | .i32 => true | .q15 => true | .q31 => true | _ => false

/-- Does a type carry bytes rather than a number? -/
def tyBytes : ETy → Bool
  | .octets => true | .str => true | _ => false

/-- The exported variable at an address in the OEM range, with its engine (R196, R198). -/
def State.exportAt (s : State) (idx sub : Nat) : Option (Nat × Export) :=
  (List.range 16).findSome? (fun e =>
    ((s.engine e).pkg.bind (fun p => p.exports.find? (fun x => x.idx == idx && x.sub == sub))).map (fun x => (e, x)))

/-- The bytes of an exported variable (log entry 31). -/
def exportLen (x : Export) : Nat := if tyBytes (tyOfCode x.ty).1 then Sys2Proof.Config.exportSize x.idx x.sub else (tyOfCode x.ty).2

/-- The row of an exported variable. -/
def exportRow (x : Export) : EntryRow :=
  let t := ((tyOfCode x.ty).1, exportLen x)
  let sg := tySigned t.1
  let top : Int := ((2 ^ (8 * t.2) : Nat) : Int)
  { base := x.idx, cnt := 1, lo := x.sub, hi := x.sub, ty := t.1, size := t.2,
    acc := if x.acc = 1 then .rw else if x.acc = 2 then .rwb else .ro,
    mn := if sg then -(top / 2) else 0, mx := if sg then top / 2 - 1 else top - 1, dflt := x.dflt, cfgOnly := false,
    roles := if x.acc = 0 then 0 else 4, pers := x.persist, ctr := false }

/-- The row of an entry: of the manual's tables, or of an exported variable; the mode of an odd input is RO (Table LA-7). -/
def State.row (s : State) (idx sub : Nat) : Option EntryRow :=
  if 0x8000 ≤ idx ∧ idx ≤ 0xBFFF then (s.exportAt idx sub).map (fun x => exportRow x.2)
  else
    (entryRow idx sub).map (fun r =>
      if 0x2710 ≤ idx ∧ idx < 0x2740 ∧ sub = 1 ∧ idx % 2 = 1 then { r with acc := .ro, roles := 0 } else r)

/-- Lock scope of an RWB or RWS entry (R318); cell entries go with the string in force. -/
def State.entryScope (s : State) (idx : Nat) : Scope :=
  if 0x2100 ≤ idx ∧ idx < 0x2106 then .string (idx - 0x2100)
  else if 0x2200 ≤ idx ∧ idx < 0x22C0 ∧ s.cellStr (idx - 0x2200) < 6 then .string (s.cellStr (idx - 0x2200))
  else if 0x4001 ≤ idx ∧ idx < 0x4007 then .string (idx - 0x4001)
  else .cluster

/-- Code of a scope (Table OD-11). -/
def scopeByte : Scope → Nat
  | .cluster => 0
  | .string s => 0x10 + s

/-- SCOPE of a descriptor (Table OD-12). -/
def State.descScope (s : State) (idx : Nat) (acc : EAcc) : Nat :=
  match acc with
  | .rwb => (match s.entryScope idx with | .cluster => 1 | .string k => 0x10 + k)
  | .rws => (match s.entryScope idx with | .cluster => 1 | .string k => 0x10 + k)
  | _ => 0

/-- The descriptor of an entry (Table OD-12), 40 bytes. -/
def State.descriptor (s : State) (idx sub : Nat) (r : EntryRow) : Nat :=
  let lim (v : Int) : Nat := if tyBytes r.ty then 0 else ofSigned (8 * r.size) v
  let d := if tyBytes r.ty then (if 8 ≤ r.size then r.dflt / 256 ^ (r.size - 8) else r.dflt)
    else (match indexedDefault (ekey idx sub) with | some v => v | none => r.dflt)
  bytesNat (beBytes (tyCode r.ty) 1 ++ beBytes (accCode r.acc) 1 ++ beBytes r.pers 1 ++ beBytes r.roles 1 ++
    beBytes r.size 2 ++ beBytes (s.descScope idx r.acc) 2 ++ beBytes (lim r.mn) 8 ++ beBytes (lim r.mx) 8 ++ beBytes d 8 ++
    beBytes 0 8)

/-! ## Values that stand elsewhere -/

/-- Bits of the cells' and legs' Booleans by position. -/
def bitIf (b : Bool) (n : Nat) : Nat := if b then 2 ^ n else 0

/-- Number of open own sessions. -/
def State.sessOpen (s : State) : Nat := ((List.range 8).filter (fun i => (s.sess i).isOpen)).length

/-- Subscriptions open in the device. -/
def State.subsOpen (s : State) : Nat := ((List.range 40).map (fun i => (s.sess i).subs.length)).foldl (· + ·) 0

/-- The locks a session holds, [7] cluster, [5:0] strings. -/
def Session.locks (x : Session) : Nat := bitIf x.lockC 7 + x.lockS.toNat

/-- Session entries (Table OD-6). The idle time is time that passes outside the model: free, within the timeout. -/
def State.readSession (s : State) (i sub : Nat) : Nat :=
  let x := s.sess i
  if sub = 1 then (if x.isOpen then 1 else 0)
  else if !x.isOpen then 0
  else if sub = 2 then x.addr
  else if sub = 3 then x.port
  else if sub = 4 then x.roles.toNat
  else if sub = 5 then x.locks
  else if sub = 6 then Sys2Proof.Config.freeNat s.fresh % (s.rd 0x1110 2 + 1)
  else x.serial

/-- SLOTST: the slot status of Table CE-9. -/
def SlotSt.bits (x : SlotSt) : Nat := bitIf x.fromPartner 2 + bitIf x.recovered 1 + bitIf x.stale 0

/-- NFLAGS of a Response (Table DL-12). -/
def respFlags (r : Response) : Nat :=
  bitIf r.portALock 7 + bitIf r.portBLock 6 + bitIf r.coasted 5 + bitIf r.rxErr 4 + bitIf r.bsuv 3 + bitIf r.supp 2 +
  bitIf r.osdValid 1

/-- The hottest valid junction temperature; 0x8000 where none. -/
def hottest (tj : List Int) : Int := tj.foldl (fun a t => if t = -32768 then a else if a = -32768 ∨ a < t then t else a) (-32768)

/-- The summary of a slot (Table OD-15), 32 bytes. -/
def State.slotSummary (s : State) (n : Nat) : Nat :=
  let x := s.slot n
  if s.slotNode n = none then bytesNat (beBytes 0 4 ++ beBytes 0xFF 1 ++ beBytes 0 27)
  else match x.resp with
    | none => bytesNat (beBytes 0 4 ++ beBytes 0xFF 1 ++ beBytes 0 21 ++ beBytes x.bits 1 ++ beBytes 0 5)
    | some r =>
      let tick := s.clk.tick - BitVec.zeroExtend 32 (s.clk.tick.truncate 16 - x.sampleTick)
      bytesNat (beBytes tick.toNat 4 ++ beBytes (nodeCode r.nstate) 1 ++ beBytes (respFlags r) 1 ++
        beBytes r.legflt.toNat 1 ++ beBytes r.intlk.toNat 1 ++
        (List.range 8).flatMap (fun i => beBytes (ofSigned 16 (r.meas.getD i 0)) 2) ++
        beBytes (ofSigned 16 (hottest r.tj)) 2 ++ beBytes x.bits 1 ++ beBytes 0 1 ++ beBytes r.wseq.toNat 2 ++ beBytes 0 2)

/-- A measurement of a slot in V or A (Table OD-14). -/
def State.slotMeas (s : State) (n i : Nat) : Nat :=
  let x := s.slot n
  if s.slotNode n = none then 0
  else match x.resp, x.ident with
    | some r, some d =>
      let c := r.meas.getD i 0
      let fs := d.measfs.getD i 0
      if c = -32768 ∨ (f32Rat fs).1 = 0 then 0x7FC00000 else f32Scale c fs
    | _, _ => 0x7FC00000

/-- Bytes of a digest (Table RP-9), its check included. -/
def digestBytes (d : Digest) : List Byte :=
  let b := beBytes d.devid 2 ++ beBytes d.state 1 ++ beBytes d.role 1 ++ beBytes d.gcfg 4 ++ beBytes d.compat 4 ++
    beBytes d.tb1b.toNat 5 ++ beBytes d.ladder 1 ++
    beBytes (bitIf d.ridgeBrk 4 + bitIf d.timingDegraded 3 + bitIf d.shareValid 2 + bitIf d.leader 1 + bitIf d.unsync 0) 1 ++
    beBytes d.gbseq.toNat 1 ++ beBytes d.epoch 4 ++ beBytes d.partner 2 ++ beBytes d.boottag.toNat 2
  b ++ beBytes (crc32c b) 4

/-- Is a group lane of the device enabled? -/
def State.grouped (s : State) : Bool := s.rdBit 0x5100 7 0 || s.rdBit 0x5100 7 1

/-- MODE of a base (Table TM-3). -/
def State.tbMode (s : State) (b : Nat) : Nat := s.rd (0x1201 + b) 1 % 8

/-- Is the device a group member that another one leads (R119)? -/
def State.led (s : State) : Bool := s.grouped && s.grp.leader != s.devid

/-- Is the device the system's time reference: has it heard of no other group's reference within 3 ticks (R124)? -/
def State.isReference (s : State) : Bool := !s.grp.refAt.any (fun t => decide (tickDiff s.clk.tick t ≤ 3))

/-- Is TB1 steered by time messages: in a member by its leader's, in a leader by the system reference's (R119, R124)? -/
def State.tb1Steered (s : State) : Bool := s.led || (s.grouped && s.grp.leader == s.devid && !s.isReference)

/-- Does an automatic mode override the written mode of a base (R119)? -/
def State.tbAuto (s : State) (b : Nat) : Bool := (b == 0 && s.sys.role == .standby) || (b == 1 && s.tb1Steered)

/-- The present members of the group, ascending (R294), the device itself among them. -/
def State.present (s : State) : List Nat :=
  (List.range 512).filter (fun d => (s.grouped && d == s.devid) || (s.member d).dig.isSome)

/-- The digest held of the j-th present member. -/
def State.readDigest (s : State) (j : Nat) : Nat :=
  match s.present[j]? with
  | some d => ((s.member d).dig.map (fun x => bytesNat (digestBytes x))).getD 0
  | none => 0

/-- Members present, bit per DEVID: bit d mod 8 of byte d / 8 of 64 bytes. -/
def State.presentMap (s : State) : Nat := s.present.foldl (fun a d => a + 2 ^ mapBitPos 64 d) 0

/-- Group status (Table RP-10): RIDGE_BRK stands in the entry's own bit, which the lane commands keep. -/
def State.groupStatus (s : State) : Nat :=
  bitIf (s.rdBit 0x5100 4 3) 3 + bitIf (s.rdBit 0x5100 7 2 || s.rdBit 0x5100 7 3) 2 +
  bitIf (s.grouped && s.grp.leader == s.devid) 1 + bitIf s.grouped 0

/-- Does the partner claim ACTIVE with an epoch not below this ACTIVE's own (OVERLAP, Table RP-2)? -/
def State.overlap (s : State) : Bool :=
  decide (s.sys.role = .active) &&
    (s.pair.demote || s.pair.partner.any (fun h => decide (h.role = 1 ∧ s.rd 0x5000 4 ≤ h.epoch)))

/-- Pair status (Table RP-2). -/
def State.pairStatus (s : State) : Nat :=
  bitIf s.sys.pins.partnerActive 11 + bitIf s.overlap 10 +
  bitIf (s.paired && s.rings.any (fun r => (s.ring r).bridged)) 9 + bitIf (s.rdBit 0x5000 5 8) 8 +
  bitIf (s.paired && s.partnerAble) 7 + bitIf (s.rdBit 0x5000 5 6) 6 + bitIf (s.rdBit 0x5000 5 5) 5 +
  Nat.min 8 s.pair.hbMissed

/-- Collector status (Table SF-11). -/
def State.collectorStatus (s : State) : Nat :=
  65536 * s.highest + ((List.range 16).filter (fun c => s.rd 0x4201 (c + 1) != 0)).foldl (fun a c => a + 2 ^ c) 0

/-- Is the safety check value confirmed (CONFIRMED)? -/
def State.confirmed (s : State) : Bool := s.rd 0x4000 2 == s.rd 0x4000 1

/-- Gated local legs (0x2790.07): a gate cause, or a state or role in which no local leg is driven. -/
def State.gateState (s : State) : Nat :=
  if s.running && s.sys.role != .standby then
    ((List.range 12).filter (fun n => (s.loc n).gated)).foldl (fun a n => a + 2 ^ n) 0
  else 0xFFF

/-- The bytes of an event record (Table EV-1). CODE and DATA have values the manual does not give. -/
def recBytes (r : EvRec) : List Byte :=
  let b := beBytes r.seq.toNat 4 ++ beBytes r.pcc 4 ++ beBytes r.opt 8 ++ beBytes r.lastrep 8 ++ beBytes r.sev 1 ++
    beBytes (bitIf r.circ 7 + bitIf r.buffered 6 + bitIf (r.rep == 0xFFFF) 5) 1 ++ beBytes r.origin 1 ++ beBytes r.unit 1 ++
    beBytes (recCode r).toNat 2 ++ beBytes r.rep 2 ++ beBytes r.devid 2 ++ beBytes r.tick.toNat 4 ++ beBytes 0 2 ++
    recData r
  b ++ beBytes (crc32c b) 4

/-- The selected record (0x6001.02). -/
def State.selectedRec (s : State) : Nat :=
  match (s.evr.keepFirst ++ s.evr.circ).find? (fun r => r.seq.toNat == s.rd 0x6001 1) with
  | some r => bytesNat (recBytes r)
  | none => 0

/-- A coefficient bank's 4,096 bytes. -/
def bankBytes (m : Tab Byte) : List Byte := Tab.readBytes m 0 4096

/-- E0's or E1's status: link and duplex as the port has them, none on an E1 that is off, and whether a supervision frame has been seen
(Table OD-6). -/
def State.ethStatus (s : State) (e1 : Bool) : Nat :=
  bitIf (s.rdBit 0x1101 (if e1 then 2 else 1) 0) 0
    + (if e1 && s.rd 0x1100 1 == 0 then 0 else 2 * (Sys2Proof.Config.ethLink e1 s.evr.opTime % 4))

/-- The value in force of an entry whose value is derived from the state; `none` where the register file holds it. -/
def State.overlay (s : State) (idx sub : Nat) : Option Nat :=
  if idx = 0x1000 ∧ sub = 6 then some (s.devid + bitIf s.sys.straps.bootsel 9 + bitIf s.sys.straps.pairselB 10)
  else if idx = 0x1000 ∧ sub = 7 then some s.fw.lifecycle
  else if idx = 0x1001 ∧ sub = 1 then some (devCode s.sys.dev)
  else if idx = 0x1001 ∧ sub = 3 then some (roleCode s.sys.role)
  else if idx = 0x1101 ∧ sub ≤ 2 then some (s.ethStatus (sub = 2))
  else if idx = 0x1110 ∧ sub = 3 then some s.sessOpen
  else if 0x1111 ≤ idx ∧ idx < 0x1119 then some (s.readSession (idx - 0x1111) sub)
  else if idx = 0x1200 ∧ sub ≤ 4 then some (s.tbVis (sub - 1)).toNat
  else if 0x2100 ≤ idx ∧ idx < 0x2106 ∧ sub = 2 then some (s.cellsOf (idx - 0x2100)).length
  else if 0x2200 ≤ idx ∧ idx < 0x22C0 ∧ sub = 11 then some (s.cellStatus (idx - 0x2200))
  else if 0x6A00 ≤ idx ∧ idx < 0x6AC0 ∧ sub = 9 ∧ (s.cellType (idx - 0x6A00) = 0 ∨ s.strEn (s.cellStr (idx - 0x6A00)) = false) then some 0
  else if 0x2400 ≤ idx ∧ idx < 0x2580 ∧ sub = 6 then
    some (((s.slot (idx - 0x2400)).resp.map (fun r => nodeCode r.nstate)).getD 0xFF)
  else if 0x2400 ≤ idx ∧ idx < 0x2580 ∧ 16 ≤ sub ∧ sub < 24 then
    some (s.leg ((idx - 0x2400) * 8 + (sub - 16))).status.toNat
  else if 0x2600 ≤ idx ∧ idx < 0x260C ∧ sub = 3 then some (s.leg (0x8000 + (idx - 0x2600))).status.toNat
  else if 0x2701 ≤ idx ∧ idx < 0x2709 ∧ sub = 2 then some (s.rd (0x2709 + (idx - 0x2701) / 2) 1)
  else if idx = 0x2790 ∧ sub = 3 then some s.saf.compActive.toNat
  else if idx = 0x2790 ∧ sub = 5 then some s.sys.pins.drven.toNat
  else if idx = 0x2790 ∧ sub = 6 then some s.sys.pins.flt.toNat
  else if idx = 0x2790 ∧ sub = 7 then some s.gateState
  else if 0x3000 ≤ idx ∧ idx < 0x3010 ∧ sub = 2 then some (s.assigned (idx - 0x3000)).toNat
  else if 0x3000 ≤ idx ∧ idx < 0x3010 ∧ sub = 3 then some (s.cellsAssigned (idx - 0x3000))
  else if 0x3000 ≤ idx ∧ idx < 0x3010 ∧ sub = 4 then some (((s.engine (idx - 0x3000)).pkg.map (·.pcrc)).getD 0)
  else if 0x3000 ≤ idx ∧ idx < 0x3010 ∧ sub = 5 then some (((s.engine (idx - 0x3000)).pkg.map (·.build)).getD 0)
  else if 0x3000 ≤ idx ∧ idx < 0x3010 ∧ sub = 14 then
    some (((s.engine (idx - 0x3000)).pkg.map (fun p => p.mirrorOff * 65536 + p.mirrorLen)).getD 0)
  else if 0x3010 ≤ idx ∧ idx < 0x3020 ∧ sub = 1 then
    some (bitIf (s.engine (idx - 0x3010)).bankSel 8 + bitIf (s.engine (idx - 0x3010)).swapPend 0)
  else if 0x3010 ≤ idx ∧ idx < 0x3020 ∧ sub = 2 then some (bytesNat (bankBytes (s.engine (idx - 0x3010)).inactive))
  else if 0x3010 ≤ idx ∧ idx < 0x3020 ∧ sub = 3 then some (crc32c (bankBytes (s.engine (idx - 0x3010)).inactive))
  else if 0x3010 ≤ idx ∧ idx < 0x3020 ∧ sub = 4 then some (crc32c (bankBytes (s.engine (idx - 0x3010)).active))
  else if idx = 0x3200 ∧ sub = 1 then
    some (if (List.range 128).any (fun i => (Tab.get none (ekey 0x3201 (i + 1)) s.reg.shadow).any (fun x =>
      x.val != s.rd 0x3202 (i + 1))) then 1 else 0)
  else if idx = 0x4000 ∧ sub = 4 then
    some (if s.sys.dev = .boot then 0
      else bitIf (s.rdBit 0x4000 4 3) 3 + bitIf (s.rdBit 0x4000 4 2) 2 + bitIf s.threshSet 1 + bitIf s.confirmed 0)
  else if idx = 0x4200 ∧ sub = 1 then some s.collectorStatus
  else if idx = 0x4202 then some (Tab.get 0 (sub - 1) s.saf.cause ||| s.rd 0x4203 sub)
  else if idx = 0x5000 ∧ sub = 5 then some s.pairStatus
  else if idx = 0x5100 ∧ sub = 3 then some s.grp.leader
  else if idx = 0x5100 ∧ sub = 4 then some s.groupStatus
  else if idx = 0x5100 ∧ sub = 5 then some s.presentMap
  else if 0x5110 ≤ idx ∧ idx < 0x5150 then some (s.readDigest (idx - 0x5110))
  else if idx = 0x6000 ∧ sub = 1 then some s.evr.pcc
  else if idx = 0x6000 ∧ sub = 2 then some s.evr.opTime
  else if idx = 0x6000 ∧ sub = 3 then some s.evr.keepFirst.length
  else if idx = 0x6000 ∧ sub = 4 then some s.evr.circ.length
  else if idx = 0x1300 ∧ sub = 1 then
    some (putBitsN (s.rd 0x1300 1) 1 0 (bitIf s.sys.pins.pgoodBkup 1 + bitIf s.sys.pins.pgoodMain 0) )
  else if idx = 0x1300 ∧ sub = 6 then
    some (Nat.min 0xFFFFFFFF (s.rd 0x1300 6 + (if s.rdBit 0x1300 1 2 then (s.evr.opTime - s.pw.backupFrom) / 1000000 else 0)))
  else if idx = 0x1410 ∧ sub = 3 then some (bitIf (!s.fw.confirming) 0)
  else if idx = 0x1410 ∧ sub = 6 then
    some (if s.fw.confirming then s.rd 0x1410 4 - (s.evr.opTime - s.fw.confirmFrom) / 1000000 else 0)
  else if idx = 0x6000 ∧ sub = 7 then some s.evr.ramBuf.length
  else if idx = 0x6000 ∧ sub = 11 then some s.evr.evSeq.toNat
  else if idx = 0x6001 ∧ sub = 2 then some s.selectedRec
  else if idx = 0x6100 ∧ sub = 1 then some s.subsOpen
  else if 0x6800 ≤ idx ∧ idx < 0x6980 then
    some (if sub = 1 then s.slotSummary (idx - 0x6800) else s.slotMeas (idx - 0x6800) (sub - 2))
  else if idx = 0x1401 ∧ sub = 1 then some s.fw.slotA.status
  else if idx = 0x1401 ∧ sub = 2 then some ((s.fw.slotA.hdr.map (·.raw)).getD 0)
  else if idx = 0x1402 ∧ sub = 1 then some s.fw.slotB.status
  else if idx = 0x1402 ∧ sub = 2 then some ((s.fw.slotB.hdr.map (·.raw)).getD 0)
  else if idx = 0x1400 ∧ sub = 1 then some (if s.fw.runB then 1 else 0)
  else if idx = 0x1422 ∧ sub = 3 then some (bitIf s.fw.groupKeyNext.isSome 1 + bitIf s.fw.groupKey.isSome 0)
  else if idx = 0x1430 ∧ sub = 2 then
    some (bitIf s.fw.certCfg 2 + bitIf s.fw.debugOpen 1 + bitIf (s.fw.debugOpen && s.fw.debugPerm.getLsbD 0) 0)
  else none

/-- The value of an exported variable at its CSM offset (R198): a number little-endian, OCTETS byte for byte, a STRING up to its first
zero byte (log entry 31). -/
def State.readExport (s : State) (x : Export) : Nat :=
  match (tyOfCode x.ty).1 with
  | .octets => bytesNat (Tab.readBytes s.cpu.csm x.csmOff (exportLen x))
  | .str => bytesNat ((Tab.readBytes s.cpu.csm x.csmOff (exportLen x)).takeWhile (· != 0))
  | _ => Tab.readLE s.cpu.csm x.csmOff (exportLen x)

/-- An exported variable takes a value in the CSM. -/
def State.putExport (s : State) (x : Export) (v : Nat) : State :=
  let n := exportLen x
  match (tyOfCode x.ty).1 with
  | .octets => { s with cpu.csm := Tab.writeBytes x.csmOff (beBytes v n) s.cpu.csm }
  | .str => { s with cpu.csm := Tab.writeBytes x.csmOff (strBytes v ++ List.replicate (n - (strBytes v).length) 0) s.cpu.csm }
  | _ => { s with cpu.csm := Tab.writeLE x.csmOff v n s.cpu.csm }

/-- The value of an exported variable before it is written (Table CE-19). -/
def exportDflt (x : Export) : Nat := if tyBytes (tyOfCode x.ty).1 then Sys2Proof.Config.exportDefault x.dflt (exportLen x) else x.dflt

/-- The value in force of an entry. -/
def State.readEntry (s : State) (idx sub : Nat) : Nat :=
  if 0x8000 ≤ idx ∧ idx ≤ 0xBFFF then ((s.exportAt idx sub).map (fun x => s.readExport x.2)).getD 0
  else (s.overlay idx sub).getD (s.rd idx sub)

/-- The pending boundary write of an entry, or its value in force (R304). -/
def State.readShadow (s : State) (idx sub : Nat) : Nat :=
  match Tab.get none (ekey idx sub) s.reg.shadow with
  | some x => x.val
  | none => s.readEntry idx sub

/-! ## The items of a READ (R316) -/

/-- Which value a READ asks for: in force, the shadow, or the descriptor. -/
inductive RMode where
  | force | shadow | desc
  deriving DecidableEq, Repr

/-- The bytes of the present value: a STRING's own length, any other type's size. -/
def valLen (r : EntryRow) (v : Nat) : Nat :=
  match r.ty with
  | .str => (strBytes v).length
  | _ => r.size

/-- One item of a READ, with `room` bytes left in the reply. -/
def State.readItem (s : State) (m : RMode) (room : Nat) (i : RItem) : ItemRes :=
  match s.row i.idx i.sub with
  | none => ⟨1, 0, 0, 0⟩
  | some r =>
    if m = .desc then
      let n := Nat.min 40 room
      ⟨0, 11, n, getOctets 40 (s.descriptor i.idx i.sub r) 0 n⟩
    else if r.acc = .wo then ⟨2, tyCode r.ty, 0, 0⟩
    else
      let v := if m = .shadow then s.readShadow i.idx i.sub else s.readEntry i.idx i.sub
      if tyBytes r.ty then
        let l := valLen r v
        if l < i.offset then ⟨5, tyCode r.ty, 0, 0⟩
        else
          let n := Nat.min room (if i.maxLen = 0 then l - i.offset else Nat.min i.maxLen (l - i.offset))
          ⟨0, tyCode r.ty, n, getOctets l v i.offset n⟩
      else if i.offset ≠ 0 ∨ i.maxLen ≠ 0 then ⟨6, tyCode r.ty, 0, 0⟩
      else ⟨0, tyCode r.ty, r.size, v⟩

/-- The items of a READ in order, within the `room` bytes of the reply: it ends before the first item whose header or number does not
fit (log entry 191). -/
def State.readItems (s : State) (m : RMode) : Nat → List RItem → List ItemRes
  | _, [] => []
  | room, i :: is =>
    let x := s.readItem m (room - 4) i
    if room < 4 + x.len then [] else x :: s.readItems m (room - 4 - x.len) is

/-- The highest item status. -/
def worst (l : List Nat) : Nat := l.foldl Nat.max 0

/-- A refusal of a whole PDU. -/
def refuse (st : Nat) : Reply := ⟨st, 0, []⟩

/-- The reply to a READ: at most 32 items. -/
def State.readReply (s : State) (m : RMode) (is : List RItem) : Reply :=
  if 32 < is.length then refuse 0x13
  else
    let l := s.readItems m 1012 is
    ⟨worst (l.map (·.status)), 0, l⟩

end Sys2Proof.Machine
end

