-- ==== Sys2Proof/Machine/DictRules.lean ====
section
/-! DEFINITION. The rules of entries: reserved bits, single values and the relations between entries, judged on the state
that a write or a yelm leaves (R16, R36, R43, R114, R138, R139, R145, R200, R227, R231, R235, R237, Table PW-6 and the
other tables of the entries' chapters). -/

namespace Sys2Proof.Machine

/-! ## Reserved bits -/

/-- The bits of a bit-field entry that a write reaches; reserved bits read 0 whatever is written. 0: every bit. -/
def writeMask (idx sub : Nat) : Nat :=
  if 0x1201 ≤ idx ∧ idx < 0x1205 ∧ sub = 1 then 0x00F7
  else if 0x1220 ≤ idx ∧ idx < 0x1228 then 0xE0FFFFFF
  else if 0x1230 ≤ idx ∧ idx < 0x1234 then 0xC03F
  else if 0x1240 ≤ idx ∧ idx < 0x1248 ∧ sub = 1 then 0xFFC0
  else if 0x1240 ≤ idx ∧ idx < 0x1248 ∧ sub = 2 then 0xFFFFFFFFFF
  else if idx = 0x2010 then 0x1F39
  else if 0x2060 ≤ idx ∧ idx < 0x2070 ∧ sub = 1 then 0x003F
  else if 0x2060 ≤ idx ∧ idx < 0x2070 ∧ sub = 11 then 0x0777
  else if 0x2100 ≤ idx ∧ idx < 0x2106 ∧ sub = 4 then 0x17
  else if 0x2200 ≤ idx ∧ idx < 0x22C0 ∧ sub = 6 then 0x1F
  else if 0x2200 ≤ idx ∧ idx < 0x22C0 ∧ sub = 7 then 0x87
  else if idx = 0x3100 ∧ sub = 1 then 0x7FF3
  else if idx = 0x3102 then 0x7F3FFFFF
  else if idx = 0x3100 ∧ sub = 7 then 0xF7
  else if idx = 0x3200 ∧ sub = 3 then 0x7E
  else if 0x4100 ≤ idx ∧ idx < 0x4108 then 0x83
  else if 0x4110 ≤ idx ∧ idx < 0x4118 ∧ sub = 1 then 0xF3
  else if 0x3000 ≤ idx ∧ idx < 0x3010 ∧ sub = 1 then 1
  else 0

/-- A value as an entry keeps it. -/
def keptVal (idx sub v : Nat) : Nat := if writeMask idx sub = 0 then v else v &&& writeMask idx sub

/-! ## Time bases and outputs (R114, Tables TM-2 to TM-4, R138, R139) -/

/-- Is a mode permitted for time base `n` (Table TM-3)? FOLLOW_TB3 needs the group leader or a device in no group. -/
def State.tbModeOk (t : State) (n m : Nat) : Bool :=
  if m = 0 ∨ m = 1 then true
  else if n = 0 then decide (m = 2)
  else if n = 1 then decide (m = 3) && (!t.grouped || t.grp.leader == t.devid)
  else if n = 2 then decide (m = 4)
  else decide (m = 5)

/-- The increment limits of Table TM-4. -/
def tbIncOk (n v : Nat) : Bool :=
  if n ≤ 1 then decide (0xCCCBC0 ≤ v ∧ v ≤ 0xCCCDD8)
  else if n = 2 then decide (0x999999 ≤ v ∧ v ≤ 0x1000000)
  else decide (0xCCC250 ≤ v ∧ v ≤ 0xCCD748)

/-- A bank A output's period in ns. -/
def bankAPer (v : Nat) : Nat := (bitsN v 23 12 + 1) * 4

/-- ALIGN only where T is a whole number of periods. -/
def bankAOk (t v : Nat) : Bool := !v.testBit 30 || decide (t % bankAPer v = 0)

/-- R139. -/
def bankBOk (v : Nat) : Bool :=
  decide (bitsN v 5 3 ≤ 4 ∧ bitsN v 2 0 ≤ 3 ∧ ¬ (2 ≤ bitsN v 2 0 ∧ 3 ≤ bitsN v 5 3))

/-- The permitted tick periods (R16). -/
def tickPeriods : List Nat := [5000, 8000, 10000, 12500, 16000, 20000, 25000, 40000, 50000]

/-- A priority list: four codes 0 to 4, none named twice. -/
def prioOk (v : Nat) : Bool :=
  let l := [bitsN v 15 12, bitsN v 11 8, bitsN v 7 4, bitsN v 3 0]
  l.all (fun c => decide (c ≤ 4)) && decide ((l.filter (fun c => c != 0)).length = (l.filter (fun c => c != 0)).eraseDups.length)

/-! ## Profiles and legs (R145, R227) -/

/-- Would a dead time of profile `p` lie below a floor, in complementary mode? -/
def State.dtBelow (t : State) (p floor : Nat) : Bool :=
  bitsN (t.rd (0x2060 + p) 1) 5 4 == 0 && (decide (t.rd (0x2060 + p) 2 < floor) || decide (t.rd (0x2060 + p) 3 < floor))

/-- The node legs of slot `n` that have a command form keep their slot's interlock floor. -/
def State.slotFloorOk (t : State) (n : Nat) : Bool :=
  (t.slotLegs n).all (fun h => !t.dtBelow (t.legProf h) (t.rd (0x2400 + n) 5))

/-- Local leg `n` keeps its interlock floor. -/
def State.locFloorOk (t : State) (n : Nat) : Bool :=
  t.legForm (0x8000 + n) == 0 || !t.dtBelow (t.legProf (0x8000 + n)) (t.rd (0x2600 + n) 6)

/-- The rules of a profile: OUTMODE, windows, strength codes, the 10 ns floor and the legs that use it. -/
def State.profOk (t : State) (p : Nat) : Bool :=
  let r (sub : Nat) : Nat := t.rd (0x2060 + p) sub
  let m := bitsN (r 1) 5 4
  decide (m ≠ 3 ∧ r 7 < r 8 ∧ r 9 < r 10) &&
  decide (bitsN (r 11) 6 4 ≤ bitsN (r 11) 10 8 ∧ bitsN (r 11) 10 8 ≤ bitsN (r 11) 2 0) &&
  (m != 0 || decide (10 ≤ r 2 ∧ 10 ≤ r 3)) &&
  (List.range 384).all (fun n => t.rd (0x2400 + n) 9 == 0 || (t.slotLegs n).all (fun h =>
    t.legProf h != p || !t.dtBelow p (t.rd (0x2400 + n) 5))) &&
  (List.range 12).all (fun n => t.legProf (0x8000 + n) != p || t.locFloorOk n)

/-- Form 3 stands only on transformer bridge legs of type D cells, on the legs of slot `n`. -/
def State.pspOk (t : State) (n : Nat) : Bool :=
  t.rd (0x2400 + n) 9 == 0 || (t.slotLegs n).all (fun h => t.legForm h != 3 ||
    (t.legCell n (h % 8)).any (fun c => t.cellType c == 3 && (t.pairLegs c).contains h))

/-! ## Cells (R200) -/

/-- The rules of one cell. -/
def State.cellOk (t : State) (c : Nat) : Bool :=
  let k := t.cellType c
  let cls (n : Nat) : Nat := if n < 384 then t.rd (0x2400 + n) 2 else 0
  let lv := t.rd (0x2200 + c) 4
  (bitsN (t.rd (0x2200 + c) 6) 4 2 == 0 || t.bypEn c) &&
  (k == 0 || (decide (cls (t.mvSlot c) = k) &&
    (if k = 3 then lv != 0xFFFF && cls (t.lvSlot c) == 4 else lv == 0xFFFF)))

/-- Two configured cells do not share a slot, an LV bit or a place in a string. -/
def State.cellsApart (t : State) (c d : Nat) : Bool :=
  t.mvSlot c != t.mvSlot d && t.rd (0x2200 + c) 2 != t.rd (0x2200 + d) 2 &&
  !(t.cellType c == 3 && t.cellType d == 3 && t.lvSlot c == t.lvSlot d && t.lvSecond c == t.lvSecond d)

/-- Does cell `c` obey R200 beside every other configured cell? -/
def State.cellRule (t : State) (c : Nat) : Bool :=
  t.cellOk c && (t.cellType c == 0 || (t.cellList.all (fun d => d == c || t.cellsApart c d) &&
    decide (t.cellStr c < 6 ∧ t.cellIdx c < 96)))

/-- Every cell obeys R200. -/
def State.cellsRule (t : State) : Bool := (List.range 192).all t.cellRule

/-! ## Analogue front end and comparators (R231, R232, R235, R237, Table LA-5) -/

/-- Is input `n` the odd input of a differential pair? -/
def State.oddDiff (t : State) (n : Nat) : Bool := n % 2 == 1 && t.rd (0x2710 + (n - 1)) 1 == 1

/-- A name of an input, or none, that is no odd input of a differential pair. -/
def State.ainName (t : State) (v : Nat) : Bool := v == 0xFF || (decide (v < 48) && !t.oddDiff v)

/-- The rules of converter pair `k`: equal lengths, no named input in a disabled pair, no odd differential input. -/
def State.pairOk (t : State) (k : Nat) : Bool :=
  let m := 2 * k
  let ps (j : Nat) : List Nat := (List.range 15).map (fun i => t.rd (0x2701 + j) (3 + i))
  t.rd (0x2701 + m) 1 == t.rd (0x2701 + (m + 1)) 1 &&
  (t.rd (0x2709 + k) 1 != 0xFF || ((ps m).all (· == 0xFF) && (ps (m + 1)).all (· == 0xFF))) &&
  t.ainName (t.rd (0x2709 + k) 1) && (ps m).all t.ainName && (ps (m + 1)).all t.ainName

/-- The rules of comparator `c`. -/
def State.compOk (t : State) (c : Nat) : Bool :=
  let v := t.rd (0x4110 + c) 1
  let n := t.rd (0x4110 + c) 2
  let hi := t.rdInt (0x4110 + c) 3 16
  let lo := t.rdInt (0x4110 + c) 4 16
  let diff := v.testBit 6
  decide (bitsN v 5 4 ≠ 3 ∧ (bitsN v 5 4 = 2 → lo < hi) ∧ Int.fmod hi 64 = 0 ∧ Int.fmod lo 64 = 0) &&
  !(diff && n % 2 == 1) && !t.oddDiff n && (!v.testBit 7 || diff == (t.rd (0x2710 + n) 1 == 1))

/-- The rules of the mode of input `n`: no name of its odd partner where it is differential, and the comparators on the two. -/
def State.inputOk (t : State) (n : Nat) : Bool :=
  (!t.oddDiff (n + 1) || ((List.range 8).all (fun m => (List.range 15).all (fun i => t.rd (0x2701 + m) (3 + i) != n + 1)) &&
    (List.range 4).all (fun k => t.rd (0x2709 + k) 1 != n + 1))) &&
  (List.range 8).all (fun c => !(t.rd (0x4110 + c) 2 == n || t.rd (0x4110 + c) 2 == n + 1) || t.compOk c)

/-- Slot table entry: no reserved class, a unit of its class (R36, Table CM-15). The table gives an unassigned entry no range
of UNIT: 0 and 0x1F are accepted, the model's choice (log entry 137). -/
def slotEntryOk (v : Nat) : Bool :=
  let c := v / 32
  let u := v % 32
  if c = 7 then false
  else if u = 31 then true
  else if c = 1 then decide (u ≤ 1)
  else if c = 2 then decide (u ≤ 15)
  else if c = 4 then decide (u ≤ 3)
  else decide (u = 0)

/-- An SF2 threshold: 0.0, or from 10.0 up to its limit. -/
def ovOk (v mx : Nat) : Bool := v == 0 || decide (0x41200000 ≤ v ∧ v ≤ mx)

/-- The thresholds of string `n`: OV_BYP does not exceed OV_NODE. -/
def State.ovRule (t : State) (n : Nat) : Bool :=
  ovOk (t.rd (0x4001 + n) 1) 0x469C4000 && ovOk (t.rd (0x4001 + n) 2) (t.rd (0x4001 + n) 1) &&
  ovOk (t.rd (0x4001 + n) 3) 0x459C4000

/-! ## Rings and slots (R2, R8) -/

/-- No other slot names the ring address of slot `n` (R2). -/
def State.slotApart (t : State) (n : Nat) : Bool :=
  t.rd (0x2400 + n) 1 == 0xFFFF || (List.range 384).all (fun m => m == n || t.rd (0x2400 + m) 1 != t.rd (0x2400 + n) 1)

/-- The rings in use hold at most 384 nodes in all (R1, R8). -/
def State.nodesFit (t : State) : Bool :=
  decide (((List.range 48).filter t.ringEn).foldl (fun a r => a + bitsN (t.rd 0x2010 (r + 1)) 12 8) 0 ≤ 384)

/-! ## The rule of an entry -/

/-- The rule of a value that concerns its own entry alone, the ranges that have gaps among them. -/
def ownRule (idx sub v : Nat) : Bool :=
  if idx = 0x2000 ∧ sub = 1 then tickPeriods.contains v
  else if 0x1201 ≤ idx ∧ idx < 0x1205 ∧ sub = 2 then tbIncOk (idx - 0x1201) v
  else if idx = 0x1210 ∧ sub = 1 then prioOk v
  else if 0x1230 ≤ idx ∧ idx < 0x1234 then bankBOk v
  else if idx = 0x2010 then decide (bitsN v 12 8 ≤ 16)
  else if 0x2100 ≤ idx ∧ idx < 0x2106 ∧ sub = 5 then decide (v % 32 = 0)
  else if 0x2100 ≤ idx ∧ idx < 0x2106 ∧ sub = 19 then decide (v % 4 = 0)
  else if 0x2200 ≤ idx ∧ idx < 0x22C0 ∧ sub = 2 then decide (v / 256 < 6 ∧ v % 256 < 96)
  else if 0x2200 ≤ idx ∧ idx < 0x22C0 ∧ sub = 3 then v == 0xFFFF || decide (v < 384)
  else if 0x2400 ≤ idx ∧ idx < 0x2580 ∧ sub = 1 then v == 0xFFFF || decide (v / 16 < 48)
  else if 0x2701 ≤ idx ∧ idx < 0x2709 ∧ 3 ≤ sub then v == 0xFF || decide (v < 48)
  else if 0x2709 ≤ idx ∧ idx < 0x270D ∧ sub = 1 then v == 0xFF || decide (v < 48)
  else if idx = 0x3102 then decide (bitsN v 30 24 ≤ 64 ∧ v % 32 = 0)
  else if idx = 0x3201 then slotEntryOk v
  else if 0x4001 ≤ idx ∧ idx < 0x4007 then ovOk v (if sub = 3 then 0x459C4000 else 0x469C4000)
  else if idx = 0x5100 ∧ sub = 9 then decide (v % 32 = 0)
  else true

/-- Rules of one value, beside its range: its own, and those that look at the state. -/
def State.valueRule (t : State) (idx sub : Nat) : Bool :=
  let v := t.rd idx sub
  ownRule idx sub v &&
  (if 0x1201 ≤ idx ∧ idx < 0x1205 ∧ sub = 1 then t.tbModeOk (idx - 0x1201) (v % 8)
   else if 0x1201 ≤ idx ∧ idx < 0x1205 ∧ sub = 2 then t.rd idx 1 % 8 == 0 && !t.tbAuto (idx - 0x1201)
   else if 0x1220 ≤ idx ∧ idx < 0x1228 then bankAOk t.tNs v
   else if idx = 0x2010 then decide (bitsN v 12 8 ≤ t.nodeLimit)
   else true)

/-- Rules that relate several entries, for a write of entry `idx.sub`. -/
def State.relRule (t : State) (idx sub : Nat) : Bool :=
  if idx = 0x1330 then
    decide (t.rd 0x1330 7 < t.rd 0x1330 3 ∧ t.rd 0x1330 3 ≤ t.rd 0x1330 4 ∧ t.rd 0x1330 4 ≤ t.rd 0x1330 5)
  else if idx = 0x2000 ∧ sub = 1 then
    (List.range 8).all (fun m => !(t.rd (0x1220 + m) 1).testBit 31 || bankAOk t.tNs (t.rd (0x1220 + m) 1))
  else if idx = 0x2010 then t.nodesFit
  else if 0x2060 ≤ idx ∧ idx < 0x2070 then t.profOk (idx - 0x2060)
  else if 0x2400 ≤ idx ∧ idx < 0x2580 ∧ sub = 1 then t.slotApart (idx - 0x2400)
  else if 0x2200 ≤ idx ∧ idx < 0x22C0 ∧ sub ≤ 6 then t.cellsRule && (List.range 384).all t.pspOk
  else if 0x2400 ≤ idx ∧ idx < 0x2580 ∧ sub = 2 then t.cellsRule
  else if 0x2400 ≤ idx ∧ idx < 0x2580 ∧ sub = 8 then t.slotFloorOk (idx - 0x2400)
  else if 0x2400 ≤ idx ∧ idx < 0x2580 ∧ sub = 9 then t.slotFloorOk (idx - 0x2400) && t.pspOk (idx - 0x2400)
  else if 0x2600 ≤ idx ∧ idx < 0x260C ∧ (sub = 1 ∨ sub = 2 ∨ sub = 6) then t.locFloorOk (idx - 0x2600)
  else if 0x2701 ≤ idx ∧ idx < 0x2709 then t.pairOk ((idx - 0x2701) / 2)
  else if 0x2709 ≤ idx ∧ idx < 0x270D then t.pairOk (idx - 0x2709)
  else if 0x2710 ≤ idx ∧ idx < 0x2740 ∧ sub = 1 then t.inputOk (idx - 0x2710)
  else if 0x4001 ≤ idx ∧ idx < 0x4007 then t.ovRule (idx - 0x4001)
  else if 0x4110 ≤ idx ∧ idx < 0x4118 then t.compOk (idx - 0x4110)
  else true

/-- All rules of a write of entry `idx.sub`, on the state it leaves. -/
def State.rulesOk (t : State) (idx sub : Nat) : Bool := t.valueRule idx sub && t.relRule idx sub

/-! ## Check values (R256, R295) -/

/-- Bytes that the type of an entry takes. -/
def entryBytes (idx sub : Nat) : Nat := regBits (ekey idx sub) / 8

/-- The check of a list of entries (index, subindex, value) as R256 feeds them, after the format version. -/
def entryCheck (fmt : Nat) (l : List (Nat × Nat × Nat)) (tail : List Byte) : Nat :=
  crc32c (beBytes fmt 2 ++ l.flatMap (fun e => beBytes e.1 2 ++ beBytes e.2.1 1 ++ beBytes e.2.2 (entryBytes e.1 e.2.1)) ++ tail)

/-- GCFG, the group configuration check value (R295). -/
def State.groupCheck (s : State) : Nat :=
  entryCheck 1 [(0x1202, 1, s.rd 0x1202 1), (0x1207, 1, s.rd 0x1207 1), (0x1208, 2, s.rd 0x1208 2),
    (0x2000, 1, s.tNs), (0x5100, 1, s.rd 0x5100 1), (0x5100, 7, s.rd 0x5100 7 % 4)] []

/-- Is an entry one that GCFG covers (R295)? -/
def groupEntry (idx sub : Nat) : Bool :=
  [(0x1202, 1), (0x1207, 1), (0x1208, 2), (0x2000, 1), (0x5100, 1), (0x5100, 7)].contains (idx, sub)

/-! ## The state a write leaves -/

/-- The register file with every pending boundary write applied: the state that plain writes are judged on. -/
def State.viewed (s : State) : State :=
  s.reg.shadow.foldl (fun t e => match e.2 with
    | some x => t.wr (e.1 / 256) (e.1 % 256) x.val
    | none => t) s

end Sys2Proof.Machine
end

