-- ==== Sys2Proof/Machine/Trip.lean ====
section
/-! DEFINITION. The actions of SF1, SF2's cluster action, SF3 and SF4, each at the instant of its cause (R231, R232, R245,
R250, R252, R408). -/

namespace Sys2Proof.Machine

/-- Is trip input `i` asserted behind its filter: the pin's filtered level, or its force bit (R263)? -/
def State.tripLevel (s : State) (i : Nat) : Bool := s.rdBit 0x2790 1 i || s.rdBit 0x4203 1 i

/-- Is comparator `c` active at its output: beyond its threshold, or forced (R263)? -/
def State.compLevel (s : State) (c : Nat) : Bool := s.saf.compActive.getLsbD c || s.rdBit 0x4203 1 (8 + c)

/-- SF1: gates, Block ordered set with CAUSE 0x01, trip latch, count, source, SAFE (R231, R245). -/
def State.sf1 (s : State) (i : Nat) : State :=
  let s := (s.gate 0xFFF (fun x => { x with gTrip := true })).inject 0 0 1
  let s := ((s.wrBit 0x2790 2 i true).count 0x2791 (i + 1)).raise i
  s.enterSafe.clusterAction 1

/-- Every leg of the cluster both-off by the Block ordered set of CAUSE 0x08 and the gates. -/
def State.blockAll8 (s : State) : State := (s.inject 0 0 8).gateBlock

/-- SF3: the masked local legs, the strings of its mask, the latch, and the cluster action (R232, R245). -/
def State.sf3 (s : State) (c : Nat) : State :=
  let m := s.rd (0x4110 + c) 6
  let s := s.gate (s.rd (0x4110 + c) 5) (fun x => { x with gComp := true })
  let s := if m = 0 then s else (s.inject 1 m 2).cutStrings m
  let s := ((s.wrBit 0x2790 4 c true).count 0x2792 (c + 1)).raise (8 + c)
  (s.blockAll8.enterSafe).clusterAction 3

/-- SF2's cluster action (R250): a cell that cannot be bypassed. -/
def State.sf2Cluster (s : State) : State := (s.blockAll8.enterSafe).clusterAction 2

/-- SF4's cluster action (R252); `src` is the string's or the local legs' source. -/
def State.sf4 (s : State) (src : Nat) : State :=
  let s := (s.inject 0 0 4).gateBlock.occur src
  s.enterSafe.clusterAction 4

/-- A forced source acts at its detection point where it is of class 0x0 or source 0x1D (R263). -/
def State.forceAct (s : State) (src : Nat) : State :=
  if src < 8 then s.sf1 src
  else if src < 16 then s.sf3 (src - 8)
  else if src = 0x1D then s.sf5 3
  else s

end Sys2Proof.Machine
end

