-- ==== Sys2Proof/Machine/HostOps.lean ====
section
/-! DEFINITION. The acting writes of the dictionary: requested states, acknowledgements, latches, releases, force bits, time
steps, swaps, switch-over, group blocks, trace, recorder, images and lifecycle. Each answers the state and the item status
of Table OD-10; roles are the writer's. -/

namespace Sys2Proof.Machine

/-- Does a writer hold a role of a mask (Table OD-3)? -/
def hasRole (roles : BitVec 8) (m : Nat) : Bool := roles.toNat &&& m != 0

/-- The boundary at which an accepted request applies: the next; on the ACTIVE of a pair the one after, so that the
forward reaches the partner before it. -/
def State.dueTick (s : State) : BitVec 32 := s.clk.tick + (if s.sys.role = .active then 2 else 1)

/-- Note a transition that waits for its boundary. -/
def State.addDue (s : State) (kind : Nat) (at_ : BitVec 32) (arg : Int) : State :=
  { s with sys.due := s.sys.due ++ [⟨kind, at_, arg⟩] }

/-! ## When a write applies, and the value it leaves (R304, R308) -/

/-- Is an entry one whose writes need a lock? -/
def lockedAcc : EAcc → Bool
  | .rwb => true | .rws => true | _ => false

/-- Does a write of an entry wait for the next boundary: RWB and RWS entries (Table OD-2), and by their own rules the clock entries 0x1210
(Table TM-9) and the network entries 0x1100.01 to 0x1100.09 (R308), though their access is RW? -/
def atBoundary (acc : EAcc) (idx sub : Nat) : Bool :=
  lockedAcc acc || decide (idx = 0x1210) || decide (idx = 0x1100 ∧ sub ≤ 9)

/-- BKCHG_EN and its level in 0x1300.01: PGOOD_MAIN high, not on backup, a valid temperature in range, CHG_EN (R377). -/
def State.refreshCharge (s : State) : State :=
  let b := s.sys.pins.pgoodMain && !s.rdBit 0x1300 1 2 && s.rd 0x1300 7 != 0x8000 && !s.rdBit 0x1300 1 7 && s.rd 0x1300 4 == 1
  ({ s with sys.pins.bkchgEn := b } : State).wrBit 0x1300 1 6 b

/-- A value taken at once: an exported variable in the CSM (R198), any other in the register file; a change of the network
entries ends every session at its boundary (R308), a group entry changes GCFG (R295). -/
def State.storeNow (s : State) (idx sub v : Nat) : State :=
  if 0x8000 ≤ idx ∧ idx ≤ 0xBFFF then
    match s.exportAt idx sub with
    | some x => s.putExport x.2 v
    | none => s
  else
    let t := s.wr idx sub v
    if idx = 0x1100 ∧ sub ≤ 9 ∧ v ≠ s.rd idx sub then { t with net.netPend := true }
    else if idx = 0x1300 ∧ sub = 4 then t.refreshCharge
    else if groupEntry idx sub then t.wr 0x5100 2 t.groupCheck
    else t

/-! ## Requested state (R23, R25, R31, R270, R360) -/

/-- The states in which a requested state is permitted (Table CM-9). -/
def reqPermitted (v : Nat) (d : DevState) : Bool :=
  if v = 3 then decide (d = .ready ∨ d = .run ∨ d = .coast ∨ d = .safe)
  else if v = 5 then decide (d = .ready)
  else decide (d = .blocked)

/-- Is a confirmation of a new image pending? -/
def State.confPending (s : State) : Bool := s.fw.confirming

/-- A refused request that concerns state or role: 0x1001.04 and a record of origin 0x01. -/
def State.reqRefused (s : State) (ts st v : Nat) : State × Nat := ((s.wr 0x1001 4 ts).ev 1 1 (devCode s.sys.dev) evRefused v, st)

/-- Is a cause of SAFE present, forced or latched (R270)? -/
def State.safeCause (s : State) : Bool :=
  s.rd 0x2790 2 != 0 || s.rd 0x2790 4 != 0 ||
  (List.range 16).any (fun c => (c == 0 || c == 1 || s.saf.safeClasses.getLsbD c) &&
    (List.range 16).any (fun n => s.causePresent (16 * c + n)))

/-- Acknowledge a source: its sticky bit clears where its cause is absent (R268). -/
def State.ackSource (s : State) (src : Nat) : State :=
  if s.causePresent src then s else s.wrBit 0x4201 (src / 16 + 1) (src % 16) false

/-- Acknowledge every source whose cause is absent. -/
def State.ackAll (s : State) : State := forUpTo (fun n s => s.ackSource n) 256 s

/-- A written requested state. -/
def State.reqState (s : State) (roles : BitVec 8) (v : Nat) : State × Nat :=
  if ¬ (v = 3 ∨ v = 4 ∨ v = 5 ∨ v = 8) then (s, 5)
  else if hasRole roles (if v = 8 then 4 else 14) = false then (s, 3)
  else if reqPermitted v s.sys.dev = false then s.reqRefused 1 4 v
  else if (v = 4 ∨ v = 8) ∧ s.confPending = true then s.reqRefused 1 4 v
  else if v = 4 ∧ s.fw.lifecycle = 3 then s.reqRefused 1 4 v
  else if s.sys.role = .standby ∧ (v = 4 ∨ v = 5) then s.reqRefused 4 0xE v
  else if v = 3 ∧ s.sys.dev = .safe then
    if s.safeCause then s.reqRefused 3 5 v
    else
      let t := ((s.ackAll.wr 0x1001 2 3).wr 0x1001 4 6).ev 1 1 (devCode s.sys.dev) evAction v
      (t.addDue 3 (s.clk.tick + 1) 0, 0)
  else
    let at_ := s.dueTick
    let t := ((s.wr 0x1001 2 v).wr 0x1001 4 6).addDue v at_ 0
    let r := if v = 4 then 1 else if v = 5 then 2 else 3
    (if v = 8 then t else t.forward (fun f => .fwd f r at_ 0), 0)

/-! ## Collector and latches (R233, R263, R268, R269) -/

/-- The sources of a class that Table SF-8 lists. -/
def classSources (c : Nat) : Nat :=
  if c = 1 then 0x7FFF else if c = 8 then 0x7F else if c = 9 then 0x3F else if c = 10 then 0xFFF else if c = 11 then 0xFFF
  else if c = 12 then 0x7FF else if c = 13 then 0xFFF else if c = 14 then 0x7FF else if c = 15 then 0x3FFF else 0xFFFF

/-- An acknowledgement of class `c` (R268). -/
def State.ackClass (s : State) (c v : Nat) : State :=
  let t := forUpTo (fun n s => if v.testBit n then s.ackSource (16 * c + n) else s) 16 s
  let stays := (List.range 16).any (fun n => v.testBit n && s.causePresent (16 * c + n))
  (t.wr 0x4200 2 (if stays then 3 else 0)).ev 1 0 (16 * c) evAck v

/-- One force bit's change (R263). -/
def State.forceBit (s : State) (src : Nat) (b : Bool) : State :=
  let k := src / 16
  let n := src % 16
  if s.rdBit 0x4203 (k + 1) n = b then s
  else
    let was := s.causePresent src
    let t := (s.wrBit 0x4203 (k + 1) n b).ev 6 0 src evForce (if b then 1 else 0)
    if b then ((if was then t else t.occur src).forceAct src) else t

/-- A write of a class's force bits; reserved sources are never set. -/
def State.forceClass (s : State) (c v : Nat) : State :=
  forUpTo (fun n s => if (classSources c).testBit n then s.forceBit (16 * c + n) (v.testBit n) else s) 16 s

/-- A trip latch clears unless its input is still asserted (R233). -/
def State.clearTrip (s : State) (v : Nat) : State :=
  let t := forUpTo (fun i s => if v.testBit i && !s.tripLevel i then (s.wrBit 0x2790 2 i false).unraise i else s) 8 s
  t.wr 0x2790 8 (if (List.range 8).any (fun i => v.testBit i && t.rdBit 0x2790 2 i) then 3 else 0)

/-- A comparator latch clears unless its comparator is still active (R233). -/
def State.clearComp (s : State) (v : Nat) : State :=
  let t := forUpTo (fun c s => if v.testBit c && !s.compLevel c then (s.wrBit 0x2790 4 c false).unraise (8 + c) else s) 8 s
  t.wr 0x2790 8 (if (List.range 8).any (fun c => v.testBit c && t.rdBit 0x2790 4 c) then 3 else 0)

/-- Does a set source at L3 or above include a bit of the scopes: a string's, [6] the local legs', or the cluster's? -/
def State.heldAtL3 (s : State) (b : Nat) : Bool :=
  (List.range 16).any (fun c => decide (3 ≤ s.rd 0x4205 (c + 1)) &&
    ((s.classScope c).testBit b || (s.classScope c).testBit 7))

/-- The local legs gated by ladder blocks after the blocks that `blk` names are all that is left. -/
def State.regate (s : State) (blk : Nat) : State :=
  s.mapLocs (fun n x => { x with gString := x.gString && (blk.testBit 6 || s.rd (0x2600 + n) 5 &&& (blk % 64) != 0) })

/-- The copies of ladder string blocks without a released string. -/
def releaseBlocks (b : Nat) (l : List BlockSet) : List BlockSet :=
  l.filterMap (fun x => if x.cause = 5 then
    (if x.strmask &&& ~~~ BitVec.ofNat 6 (2 ^ b) = 0 then none else some { x with strmask := x.strmask &&& ~~~ BitVec.ofNat 6 (2 ^ b) })
    else some x)

/-- Release one ladder block: string `b`, whose nodes' NEN toggles at the next boundary and whose allocation starts empty,
or the local legs (6). -/
def State.releaseOne4 (s : State) (b : Nat) : State :=
  let s := s.wr 0x4200 4 (setBitN (s.rd 0x4200 4) b false)
  let s := s.regate (s.rd 0x4200 4)
  if b = 6 then s
  else
    let s := { s with saf.blocks := releaseBlocks b s.saf.blocks }
    let s := s.setString b { s.string b with setF := 0, nForce := 0 }
    (s.strSlots b).foldl (fun s n => s.setSlot n { s.slot n with nenToggle := 1 }) s

/-- A write to 0x4200.03 (R269). -/
def State.ladderRel (s : State) (v : Nat) : State × Nat :=
  if v = 0 ∨ 0x7F < v then (s, 5)
  else if !s.live then (s.wr 0x4200 2 1, 4)
  else
    let t := (List.range 7).foldl (fun t b =>
      if v.testBit b && (s.rd 0x4200 4).testBit b && !s.heldAtL3 b then t.releaseOne4 b else t) s
    (t.wr 0x4200 2 (if t.rd 0x4200 4 &&& v ≠ 0 then 3 else 0), 0)

/-! ## Bypass map, leg status, counters (R214, Table SW-5, R33) -/

/-- The bits of a written bypass map that stay: indices of cells with BYP_EN (R214), as bits by index. -/
def State.bypKept (s : State) (st : Nat) (v : BitVec 96) : BitVec 96 :=
  BitVec.ofNat 96 (((s.cellsOf st).filter (fun c => v.getLsbD (s.cellIdx c) && s.bypEn c)).foldl
    (fun a c => a ||| 2 ^ s.cellIdx c) 0)

/-- Does a written bypass map name a cell without BYP_EN? -/
def State.bypDropped (s : State) (st : Nat) (v : BitVec 96) : Bool :=
  (s.cellsOf st).any (fun c => v.getLsbD (s.cellIdx c) && !s.bypEn c)

/-- The bits of an OCTETS(12) bit map by index. -/
def bitsOfMap (v : Nat) : BitVec 96 :=
  BitVec.ofNat 96 (((List.range 96).filter (fun i => v.testBit (mapBitPos 12 i))).foldl (fun a i => a + 2 ^ i) 0)

/-- Put a pending boundary write of an entry (R304), numbered in the order of acceptance. -/
def State.setShadow (s : State) (idx sub v : Nat) : State :=
  { s with reg.shadow := Tab.set none (ekey idx sub) (some ⟨v, s.reg.accSeq⟩) s.reg.shadow, reg.accSeq := s.reg.accSeq + 1 }

/-- The bypass map that is pending, or in force. -/
def State.bypPending (s : State) (st : Nat) : BitVec 96 := bitsOfMap (s.readShadow (0x2100 + st) 12)

/-- The bits that a written bypass map clears: accepted only in BLOCKED, none that a decision of the same tick has set (R214). -/
def State.bypCleared (s : State) (st : Nat) (v : BitVec 96) : BitVec 96 :=
  if s.sys.dev = .blocked then s.strMap st 12 &&& ~~~ v &&& ~~~ (s.string st).bypNow else 0

/-- The map that a write leaves pending: the 1s that stay, and outside BLOCKED every bit already set. -/
def State.bypNew (s : State) (st : Nat) (v : BitVec 96) : BitVec 96 :=
  if s.sys.dev = .blocked then s.bypKept st v else s.bypKept st v ||| s.bypPending st

/-- A write of a string's bypass map: each bit on its own; the string's bypass source is raised for a cell without BYP_EN
(R213, R214). -/
def State.bypWrite (s : State) (st : Nat) (v : BitVec 96) : State :=
  let t := s.setString st { s.string st with bypClr := s.bypCleared st v }
  let t := t.setShadow (0x2100 + st) 12 (mapOfBits (s.bypNew st v))
  if s.bypDropped st v then t.occur (0xA0 + st) else t

/-- The status of such a write: 0x00 where a bit of it is dropped (R214). -/
def State.bypStatus (s : State) (st : Nat) (v : BitVec 96) : Nat := if v &&& ~~~ s.bypKept st v = 0 then 0x10 else 0

/-- A write of 1 clears the sticky bits [7:2] of a leg's status (Table SW-5). -/
def State.legClear (s : State) (h v : Nat) : State :=
  let l := s.leg h
  s.setLeg h { l with status := l.status &&& ~~~ (BitVec.ofNat 16 v &&& 0x00FC) }

/-- A counter accepts a written 0, which also clears its overflow flag (R33). -/
def State.clearCtr (s : State) (idx sub v : Nat) : State × Nat :=
  if v ≠ 0 then (s, 5)
  else
    let t := s.wr idx sub 0
    let t : State := if idx = 0x1300 ∧ sub = 6 then { t with pw.backupFrom := t.evr.opTime } else t
    ({ t with reg.ctrOvf := Tab.set false (ekey idx sub) false t.reg.ctrOvf }, 0)

/-! ## Safety confirmation (R257) -/

/-- A write to 0x4000.02 by the Safety Officer who holds the lock. -/
def State.confirmSafety (s : State) (v : Nat) : State × Nat :=
  if s.sys.dev ≠ .commission then (s.wr 0x1001 4 1, 4)
  else if v ≠ s.rd 0x4000 1 ∨ s.threshSet = false then (s.wr 0x1001 4 2, 5)
  else ({ s with saf.confBy := some 0 }.setShadow 0x4000 2 v, 0x10)

/-! ## Pair and group (R282, R299) -/

/-- A planned switch-over (R282). -/
def State.switchOver (s : State) (v : Nat) : State × Nat :=
  if v ≠ 1 then (s, 5)
  else if s.sys.role = .active ∧ s.partnerAble = true ∧
      (s.pair.partner.any (fun h => h.state == devCode s.sys.dev && h.mirrorIn)) = true then
    let at_ := s.clk.tick + 2
    ((s.addDue 0x81 at_ 0).forward (fun f => .fwd f 4 at_ 0), 0)
  else s.reqRefused 4 0xE 0

/-- The act of a member on a group-wide block request (R27, R299). -/
def State.groupBlockAct (s : State) : State :=
  let t := s.occur 0xFC
  let t := if s.live then t.supersede.wr 0x1001 4 5 else t
  t.addDue 0x83 (s.clk.tick + 1) 0

/-- The sealing counter: power-cycle count and frames sealed since boot (R293). -/
def State.sealCtr (s : State) : Nat := s.evr.pcc * 2 ^ 32 + s.grp.ctrFrame

/-- The header of a Ridge frame that the device originates (Table RP-7). -/
def State.ridgeHdr (s : State) : RidgeHdr :=
  { hops := 0, onRgw := false, src := s.devid, grp := s.rd 0x5100 1, seq := s.clk.tick.truncate 16 }

/-- Put a frame on a Ridge lane that is enabled. -/
def State.ridgeOn (s : State) (lane : Nat) (h : RidgeHdr) (m : RidgeMsg) : State :=
  if s.rdBit 0x5100 7 lane then s.send (.ridge lane { h with onRgw := lane == 1 } m) else s

/-- Can frames be sealed: is a group key in use (R293, R347)? -/
def State.sealing (s : State) : Bool := s.fw.groupKey.isSome

/-- Does a tag that verifies under a key verify under the key in use (R293, R347)? -/
def State.tagOk (s : State) (key : Option Nat) : Bool := key.isSome && key == s.fw.groupKey

/-- The header of a block request frame. -/
def blockHdr (f : BlockReqFrame) : RidgeHdr := { hops := f.hops, onRgw := false, src := f.origin, grp := f.ogrp, seq := f.seq }

/-- Send a block request frame on the group lanes in use, and a system-wide one on the trunk lanes of a gateway. Without a group key in
use no frame can be sealed, and the digests alone carry the request (R293, R299). -/
def State.sendGroupBlock (s : State) (f : BlockReqFrame) : State :=
  if !s.sealing then s
  else
    let m := RidgeMsg.block f
    let s := (s.ridgeOn 0 (blockHdr f) m).ridgeOn 1 (blockHdr f) m
    if f.systemWide then (s.ridgeOn 2 (blockHdr f) m).ridgeOn 3 (blockHdr f) m else s

/-- A group-wide (1) or system-wide (2) block request of a host (R299). -/
def State.blockReq (s : State) (v : Nat) : State × Nat :=
  if ¬ (v = 1 ∨ v = 2) then (s, 5)
  else
    let n := s.grp.gbseq + 1
    let s := { s with grp.gbseq := n, grp.ctrFrame := s.grp.ctrFrame + 1 }
    let f : BlockReqFrame := { systemWide := v == 2, gbseq := n, origin := s.devid, ogrp := s.rd 0x5100 1,
                               ctr := s.sealCtr, key := s.fw.groupKey, lenOk := true, hops := 0, seq := s.clk.tick.truncate 16 }
    ((s.sendGroupBlock f).groupBlockAct, 0)

/-! ## Engines: swaps, banks, trace (R187, R194, R195) -/

/-- A write to a bank control: SWAP = 1 requests a swap at the next boundary, forwarded in a pair. -/
def State.swapReq (s : State) (e v : Nat) : State × Nat :=
  if v.testBit 0 then
    if (s.engine e).swapPend then (s, 0x10)
    else
      let at_ := s.dueTick
      let t := (s.setEngine e { s.engine e with swapPend := true }).addDue 0x82 at_ (e : Int)
      (t.forwardCfg 5 at_ e [], 0x10)
  else (s, 0x10)

/-- The swap itself, at a boundary (R187). -/
def State.swapNow (s : State) (e : Nat) : State :=
  s.setEngine e { s.engine e with bankSel := !(s.engine e).bankSel, swapPend := false }

/-- Write bytes of the bank an engine does not read. -/
def Engine.putBank (x : Engine) (off : Nat) (bs : List Byte) : Engine :=
  if x.bankSel then { x with bank0 := Tab.writeBytes off bs x.bank0 } else { x with bank1 := Tab.writeBytes off bs x.bank1 }

/-- A write of part of the inactive bank: refused while a swap is pending. -/
def State.bankWrite (s : State) (e off : Nat) (bs : List Byte) : State × Nat :=
  if 4096 < off + bs.length then (s, 6)
  else if (s.engine e).swapPend then (s, 5)
  else
    let x := (s.engine e).putBank off bs
    ((s.setEngine e x).forwardCfg 4 0 e (bankBytes x.inactive), 0)

/-- Re-arm: TRIGGERED and STOPPED clear, the buffer continues. -/
def State.traceArm (s : State) : State :=
  let s := (s.wrBit 0x3100 4 1 false).wrBit 0x3100 4 2 false
  { s with cpu.tracePost := none }

/-- A trace command: 1 trigger, 2 re-arm. -/
def State.traceCmd (s : State) (v : Nat) : State × Nat :=
  if v = 1 then (s.traceFire, 0) else if v = 2 then (s.traceArm, 0) else (s, 5)

/-! ## Steps of time bases (R117, R122) -/

/-- A written step of base `b`, in ns. In ENGINE mode only the engine steps TB2 (R126). -/
def State.tbStep (s : State) (b : Nat) (d : Int) : State × Nat :=
  if b = 0 then
    if s.sys.role = .standby then (s, 0xE)
    else if !s.cfgState then (s, 4)
    else
      let at_ := s.dueTick
      let t := (s.addDue 0x80 at_ d).wrBit 0x1201 7 1 true
      (t.forward (fun f => .fwd f 7 at_ d), 0)
  else if b = 1 then (if s.grouped then (s, 5) else (s.addStep 1 d, 0))
  else if b = 2 then (if bitsN (s.rd 0x1203 1) 2 0 = 4 then (s, 5) else (s.addStep 2 d, 0))
  else if s.rd 0x1204 1 % 8 = 0 then (s.addStep 3 d, 0)
  else (s, 5)

/-! ## Recorder, observers, persistent defaults (R222, R340, Table OD-6) -/

/-- Clear the keep-first area with its counters, in BLOCKED only (R340). -/
def State.clearKeep (s : State) (v : Nat) : State × Nat :=
  if v ≠ 1 then (s, 5)
  else if s.sys.dev ≠ .blocked then (s, 4)
  else
    let t := ((s.clearCtr 0x6000 5 0).1.clearCtr 0x6000 6 0).1
    (({ t with evr.keepFirst := [] } : State).ev 2 5 0 evAction 0, 0)

/-- Clear a cell's maximum temperature (1) or its rainflow bins and count (2). -/
def State.obsClear (s : State) (c v : Nat) : State × Nat :=
  if v = 1 then ((s.wr (0x6A00 + c) 6 0x8000).ev 2 12 (s.cellStr c) evAction c, 0)
  else if v = 2 then (((s.clearCtr (0x6A00 + c) 7 0).1.clearCtr (0x6A00 + c) 8 0).1.ev 2 12 (s.cellStr c) evAction (256 + c), 0)
  else (s, 5)

/-- Is an entry one that "restore persistent defaults" reaches: persistent, outside the entries of the Security Officer? -/
def restorable (idx sub : Nat) : Bool :=
  (entryRow idx sub).any (fun r => r.pers == 1) && decide (idx < 0x1400 ∨ 0x1500 ≤ idx)

/-- One value returns to its default: at once, or at the next boundary where its writes wait for that. -/
def State.restoreOne (s : State) (acc : EAcc) (idx sub v : Nat) : State :=
  if atBoundary acc idx sub then s.setShadow idx sub v else s.storeNow idx sub v

/-- The exported variables of the packages. -/
def State.exports (s : State) : List Export :=
  (List.range 16).flatMap (fun e => ((s.engine e).pkg.map (·.exports)).getD [])

/-- Persistent entries and exported variables return to their defaults: RW ones at once, RWB ones and the network entries at the next
boundary (Table OD-6, R308). -/
def State.restoreDefaults (s : State) (v : Nat) : State × Nat :=
  if v ≠ 1 then (s, 5)
  else if s.sys.dev ≠ .blocked then (s, 4)
  else
    let t := s.reg.od.foldl (fun t e =>
      let idx := e.1 / 256
      let sub := e.1 % 256
      if restorable idx sub then
        (match entryRow idx sub with
         | some r => t.restoreOne r.acc idx sub (regDefault e.1)
         | none => t)
      else t) s
    (s.exports.foldl (fun t x => if x.persist = 1 then t.restoreOne (exportRow x).acc x.idx x.sub (exportDflt x) else t) t, 0)

/-! ## Images, security, lifecycle (R344, R351, R358, R365 to R367) -/

/-- A security record, which is privileged (Table EV-3, origin 0x05). -/
def State.secRec (s : State) (sev kind data : Nat) : State := s.ev sev 5 0 kind data

/-- Does a package's file carry a signature after its PCRC, one that verifies under the program key (R196, Table CE-19)? -/
def State.packageSigned (s : State) (p : Package) : Bool :=
  decide (p.file.length = 64 + p.prog.length + p.data.length + 16 * p.exports.length + 100) &&
  Sys2Proof.Config.packageSigOk (s.rd 0x1421 1) p.file

/-- Is the running image's key unrevoked and its ARB at or above the count (Table FW-12)? -/
def State.imageCertified (s : State) : Bool :=
  (if s.fw.runB then s.fw.slotB else s.fw.slotA).hdr.all (fun h =>
    decide (h.sigkey < 2 ∧ s.rd 0x1400 2 ≤ h.arb) && !(s.rd 0x1400 3).testBit h.sigkey)

/-- Does the device meet Table FW-12 now? -/
def State.certNow (s : State) : Bool :=
  decide (s.fw.lifecycle = 2) && !s.fw.debugSince && s.rd 0x1421 1 != 0 && s.imageCertified &&
  (List.range 16).all (fun e => (s.engine e).pkg.all s.packageSigned) &&
  (s.rd 0x5100 7 == 0 || s.fw.groupKey.isSome)

/-- CERT_CFG clears where a condition has failed; it sets only at a cold boot (R367). -/
def State.certCheck (s : State) : State :=
  if s.fw.certCfg && !s.certNow then
    (({ s with fw.certCfg := false } : State).secRec 3 evState 0).occur 0xEA
  else s

/-- A key or certificate written: security record and source 0xEA (R344). -/
def State.keyWritten (s : State) (idx sub : Nat) : State := ((s.secRec 2 evAction (ekey idx sub)).occur 0xEA).certCheck

/-- A write of a certificate or key entry (Table FW-11): an empty value removes a trust anchor. -/
def State.secWrite (s : State) (idx sub v : Nat) : State × Nat :=
  if idx = 0x1420 then
    if (v = 0 ∧ 3 ≤ sub) ∨ Sys2Proof.Config.certParses v = true then ((s.wr idx sub v).keyWritten idx sub, 0) else (s, 5)
  else if idx = 0x1421 then
    if s.fw.lifecycle ≠ 1 ∨ s.rd 0x1421 1 ≠ 0 then (s, 5) else ((s.wr idx sub v).keyWritten idx sub, 0)
  else if sub = 1 then
    (({ s with fw.groupKeyNext := some v } : State).keyWritten idx sub, 0)
  else (s.wr idx sub v, 0)

/-- Is a device certificate that matches the identity key present: the one of delivery, which stands as an entry not written, or one
written since (R365)? -/
def State.deviceCert (s : State) : Bool :=
  s.fw.idKey && (s.rd 0x1420 2 == 0 || Sys2Proof.Config.certMatches (s.rd 0x1420 2))

/-- A key erased: a security record of its own and source 0xEA (R344). -/
def State.keyErased (s : State) (idx sub : Nat) : State := (s.secRec 2 evEnd (ekey idx sub)).occur 0xEA

/-- The device identity key, the group key in use and the pending one are erased, each that is there with its record; the identity key
stands under its signing request (R344, Table FW-9). -/
def State.eraseKeys (s : State) : State :=
  let t := if s.fw.idKey then s.keyErased 0x1420 1 else s
  let t := if s.fw.groupKey.isSome then t.keyErased 0x1422 3 else t
  let t := if s.fw.groupKeyNext.isSome then t.keyErased 0x1422 1 else t
  { t with fw.idKey := false, fw.groupKey := none, fw.groupKeyNext := none }

/-- Trust anchor `i` is erased, with its record where it was there (R344, Table FW-9). -/
def State.eraseAnchor (s : State) (i : Nat) : State :=
  if s.rd 0x1420 (3 + i) = 0 then s else (s.wr 0x1420 (3 + i) 0).keyErased 0x1420 (3 + i)

/-- A written lifecycle step (R365). -/
def State.lifecycleReq (s : State) (v : Nat) : State × Nat :=
  if ¬ (v = 2 ∨ v = 3) then (s, 5)
  else if s.sys.dev ≠ .blocked then (s, 4)
  else if v = 2 then
    if s.fw.lifecycle = 1 ∧ s.rd 0x1421 1 ≠ 0 ∧ ((List.range 4).any (fun i => s.rd 0x1420 (3 + i) != 0)) = true ∧ s.deviceCert = true ∧
        (s.rd 0x5100 7 = 0 ∨ s.fw.groupKey.isSome = true) then
      (((({ s with fw.lifecycle := 2 } : State).secRec 2 evState 2).occur 0xEA).certCheck, 0)
    else (s, 5)
  else if s.fw.lifecycle = 1 ∨ s.fw.lifecycle = 2 then
    let t := forUpTo (fun i s => s.eraseAnchor i) 4 s.eraseKeys
    (((({ t with fw.lifecycle := 3 } : State).secRec 2 evState 3).occur 0xEA).certCheck, 0)
  else (s, 5)

/-- The slot that does not run. -/
def State.inactiveSlot (s : State) : FwSlot := if s.fw.runB then s.fw.slotA else s.fw.slotB
/-- Change the slot that does not run. -/
def State.setInactive (s : State) (x : FwSlot) : State :=
  if s.fw.runB then { s with fw.slotA := x } else { s with fw.slotB := x }
/-- The slot that runs. -/
def State.runSlot (s : State) : FwSlot := if s.fw.runB then s.fw.slotB else s.fw.slotA
/-- Change the slot that runs. -/
def State.setRunSlot (s : State) (x : FwSlot) : State :=
  if s.fw.runB then { s with fw.slotB := x } else { s with fw.slotA := x }

/-- The image of slot A (false) or B runs; both copies of the boot record name it (R363). -/
def State.setRun (s : State) (b : Bool) : State :=
  { s with fw.runB := b, fw.boot1 := ⟨b, bootCrc b⟩, fw.boot2 := ⟨b, bootCrc b⟩ }

/-- The settings format version in force: that of the running image, which has migrated the stores. -/
def State.setFmt (s : State) : Nat := (s.runSlot.hdr.map (·.setfmt)).getD s.evr.copy1.fmt

/-- Is an activation under way: loading or in its pause? -/
def State.activating (s : State) : Bool := s.fw.loading || s.fw.pause

/-- Why an activation is refused, as Table FW-6 codes it; 0 where it is not (R351). -/
def State.actRefusal (s : State) : Nat :=
  let x := s.inactiveSlot
  let h := x.hdr
  if x.status ≠ 2 then 0x10
  else if s.confPending then 0x14
  else if s.sys.dev = .safe ∨ s.sys.dev = .sleep then 0x13
  else if !s.net.yelms.isEmpty then 0x15
  else if s.mramLock then 0x17
  else if h.any (fun i => decide (i.arb < s.rd 0x1400 2)) then 0x18
  else if s.live && decide (s.rd 0x2000 4 < 6000) then 0x11
  else if s.live && h.any (fun i => i.smig || i.ssfmt != s.rd 0x4000 3) then 0x12
  else 0

/-- A write of 1 to 0x1410.01 (R351, R352); the pair's partner gets the pause notice (R354). -/
def State.activateReq (s : State) (v : Nat) : State × Nat :=
  if v ≠ 1 then (s, 5)
  else if s.activating then (s, 4)
  else
    let r := s.actRefusal
    if r ≠ 0 then (s.wr 0x1410 2 r, 5)
    else
      let t := ({ s with fw.loading := true } : State).wr 0x1410 2 1
      (if s.paired then t.forwardAs (fun f => .fwd f 5 (s.clk.tick + 2) 0) else t, 0)

/-- Is the confirm window, counted from B(r), still open (R358)? -/
def State.inWindow (s : State) : Bool := decide (s.evr.opTime - s.fw.confirmFrom ≤ 1000000 * s.rd 0x1410 4)

/-- A write to 0x1410.03 (R358). -/
def State.healthReq (s : State) (v : Nat) : State × Nat :=
  if v = 1 ∧ s.confPending = true ∧ s.rdBit 0x1410 7 7 = true ∧ s.inWindow = true then ({ s with fw.confirmed := true }, 0) else (s, 5)

/-- May a debug session open now (R366)? In BOOT only while no slot is startable. -/
def State.debugState (s : State) : Bool :=
  s.cfgState || decide (s.sys.dev = .safe) || (decide (s.sys.dev = .boot) && s.fw.romDone && !s.sys.imgStarted)

/-- Does a debug certificate open a session on this device (R366)? -/
def State.certOpens (s : State) (c : DebugCert) : Bool :=
  c.magicOk && c.sigOk && decide (c.serial = s.rd 0x1000 5) && decide (s.evr.pcc ≤ c.pccMax) &&
  ((decide (s.fw.lifecycle = 2) && decide (c.signer = 0)) ||
   (decide (s.fw.lifecycle = 2 ∨ s.fw.lifecycle = 3) && decide (c.signer = 1 ∨ c.signer = 2)))

/-- A debug session opens with rights: [0] JTAG access, [1] engine BRK, [2] system-core debug. In BOOT it grants only JTAG
access. -/
def State.openDebug (s : State) (perm : BitVec 3) : State :=
  let p := if s.sys.dev = .boot then perm &&& 1 else perm
  (({ s with fw.debugOpen := true, fw.debugPerm := p, fw.debugSince := true } : State).secRec 2 evState p.toNat).certCheck

/-- The rights of a certificate. -/
def certPerm (c : DebugCert) : BitVec 3 := BitVec.ofNat 3 (bitIf c.permJtag 0 + bitIf c.permBrk 1 + bitIf c.permCore 2)

/-- A debug certificate written to 0x1430.01 (R366). -/
def State.debugCertWrite (s : State) (c : DebugCert) : State × Nat :=
  if !s.debugState then (s, 4)
  else if s.certOpens c then (s.openDebug (certPerm c), 0)
  else (s.secRec 3 evRefused 0, 5)

/-- A debug certificate as its 128 bytes spell it (Table FW-10). -/
def certOfBytes (v : Nat) : DebugCert :=
  let g (o n : Nat) : Nat := getOctets 128 v o n
  { magicOk := g 0 4 == 0x44424743 && g 18 14 == 0, serial := g 4 8, pccMax := g 12 4, permJtag := (g 16 1).testBit 0,
    permBrk := (g 16 1).testBit 1, permCore := (g 16 1).testBit 2, signer := g 17 1,
    sigOk := Sys2Proof.Config.sigVerifies v }

end Sys2Proof.Machine
end

