-- ==== Sys2Proof/Machine/Pins.lean ====
section
/-! DEFINITION. Trip inputs, comparators, enable and fault inputs of the local legs, the local output stage, SF4, and the
diagnostics of SF5 (R169, R224 to R234, R252, R254 and Table SF-4). -/

namespace Sys2Proof.Machine

/-! ## SF4 (R252) -/

/-- Does the coast window that began at `t0` end within the tick in progress? -/
def State.windowOver (s : State) (t0 : BitVec 40) : Bool :=
  decide (((256 * 1000 * s.rd 0x2000 4 : Nat) : Int) ≤ tbDiff s.clk.bnd t0 + (s.tTb : Int))

/-- COAST_WINDOW_EXPIRY: a string's coast window elapses, and SF4 acts; a STANDBY does not count it (R252, R253). -/
def execCoastWindowExpiry (st : Fin 6) (s : State) : Host.Outcome State Fault Refusal :=
  .next (match (s.string st).coastT0 with
  | none => s
  | some t0 =>
    if s.running && s.commands && s.strEn st && s.windowOver t0 then
      (s.setString st { s.string st with coastT0 := none }).sf4 (0x16 + st.val)
    else s)

/-- LOCAL_COAST_WINDOW_EXPIRY: the local legs' window elapses: they turn both-off and SF4 acts (R169, R252). -/
def execLocalCoastWindowExpiry (s : State) : Host.Outcome State Fault Refusal :=
  .next (match s.fld.localCoastT0 with
  | none => s
  | some t0 =>
    if s.running && s.commands && s.windowOver t0 then
      let t : State := { s with fld.localCoastT0 := none }
      t.sf4 0x1C
    else s)

/-! ## Trip inputs (R231, R233) -/

/-- FILT of a trip input in ns (Table LA-4). -/
def tripFilt (v : Nat) : Nat := if v % 4 = 0 then 0 else if v % 4 = 1 then 10 else if v % 4 = 2 then 20 else 40

/-- Is a low long enough to act? -/
def State.tripLong (s : State) (i lowNs : Nat) : Bool :=
  tripFilt (s.rd (0x4100 + i) 1) == 0 || decide (tripFilt (s.rd (0x4100 + i) 1) < lowNs)

/-- A trip input acts where it is enabled, from the end of BOOT, whatever the state or role (R231). -/
def State.tripActs (s : State) (i : Nat) : State := if s.up && s.rdBit (0x4100 + i) 1 7 then s.sf1 i else s

/-- TRIP_INPUT: TRIPi_N has fallen and stayed low for longer than FILT; a shorter low causes nothing (R231). -/
def execTripInput (i : Fin 8) (lowNs : Nat) (s : State) : Host.Outcome State Fault Refusal :=
  .next (if !s.tripLong i lowNs || s.sys.pins.trip.getLsbD i then s
  else
    let p := s.sys.pins.trip ||| BitVec.ofNat 8 (2 ^ i.val)
    let t : State := { s with sys.pins.trip := p }
    (t.wrBit 0x2790 1 i true).tripActs i)

/-- TRIP_INPUT_RELEASE: TRIPi_N is high again: its filtered level clears, its latch stays (R233). -/
def execTripInputRelease (i : Fin 8) (s : State) : Host.Outcome State Fault Refusal :=
  let p := s.sys.pins.trip &&& ~~~ BitVec.ofNat 8 (2 ^ i.val)
  let t : State := { s with sys.pins.trip := p }
  .next (t.wrBit 0x2790 1 i false)

/-! ## Comparators (R232) -/

/-- FILT of a comparator in ns (Table LA-5). -/
def compFilt (v : Nat) : Nat := if v % 4 = 0 then 0 else if v % 4 = 1 then 25 else if v % 4 = 2 then 50 else 100

/-- Does an input value lie beyond the threshold of comparator `c`? -/
def State.compBeyond (s : State) (c : Nat) (v : Int) : Bool :=
  let m := bitsN (s.rd (0x4110 + c) 1) 5 4
  (m != 1 && decide (s.rdInt (0x4110 + c) 3 16 < v)) || (m != 0 && decide (v < s.rdInt (0x4110 + c) 4 16))

/-- Is an input value back inside the threshold by the hysteresis of 128 units? -/
def State.compInside (s : State) (c : Nat) (v : Int) : Bool :=
  let m := bitsN (s.rd (0x4110 + c) 1) 5 4
  (m == 1 || decide (v ≤ s.rdInt (0x4110 + c) 3 16 - 128)) && (m == 0 || decide (s.rdInt (0x4110 + c) 4 16 + 128 ≤ v))

/-- COMPARATOR_ACTIVE: an enabled comparator's input lies beyond its threshold for longer than FILT; SF3 acts (R232). -/
def execComparatorActive (c : Fin 8) (value : Int) (heldNs : Nat) (s : State) : Host.Outcome State Fault Refusal :=
  let f := compFilt (s.rd (0x4110 + c.val) 1)
  .next (if s.up && s.rdBit (0x4110 + c.val) 1 7 && s.compBeyond c value && (f == 0 || decide (f < heldNs)) &&
      !s.saf.compActive.getLsbD c then
    let a := s.saf.compActive ||| BitVec.ofNat 8 (2 ^ c.val)
    let t : State := { s with saf.compActive := a }
    t.sf3 c
  else s)

/-- COMPARATOR_INACTIVE: the input has stayed inside its threshold by the hysteresis for FILT (R232). -/
def execComparatorInactive (c : Fin 8) (value : Int) (heldNs : Nat) (s : State) : Host.Outcome State Fault Refusal :=
  let a := s.saf.compActive &&& ~~~ BitVec.ofNat 8 (2 ^ c.val)
  .next (if s.saf.compActive.getLsbD c && s.compInside c value &&
      decide (compFilt (s.rd (0x4110 + c.val) 1) ≤ heldNs) then { s with saf.compActive := a } else s)

/-! ## Enable and fault inputs of the local legs (R228 to R230) -/

/-- A free choice, for what the manual says may or may not happen. -/
def State.freeBit (s : State) (k : Nat) : Bool := Sys2Proof.Config.freeNat (s.fresh + k) % 2 == 1

/-- Is a low pulse of the enable and fault inputs recognised: not below 20 ns, certainly from 50 ns, between them it may or
may not be (R228, R229)? -/
def State.lowSeen (s : State) (lowNs : Nat) : Bool := decide (50 ≤ lowNs) || (decide (20 ≤ lowNs) && s.freeBit 0)

/-- The local legs that DRVENg enables, as a mask. -/
def drvenMask (g : Nat) : Nat := 7 * 2 ^ (3 * g)

/-- DRVEN_LOW: the group's three legs are gated; with a leg of the group in use in RUN or COAST the local-leg source is
raised (R229). -/
def execDrvenLow (g : Fin 4) (lowNs : Nat) (s : State) : Host.Outcome State Fault Refusal :=
  let p := s.sys.pins.drven &&& ~~~ BitVec.ofNat 4 (2 ^ g.val)
  .next (if s.lowSeen lowNs then
    let t : State := { s.useFresh with sys.pins.drven := p }
    let t := t.gate (drvenMask g) (fun x => { x with gDrven := true })
    if t.running && (List.range 3).any (fun k => t.rd (0x2600 + 3 * g.val + k) 2 != 0) then t.occur 0x86 else t
  else s.useFresh)

/-- At a complete toggle, whether LGnFLT_N is still low is the driver's: a free value where the input was low. -/
def State.fltStill (s : State) (n : Nat) : Bool := s.sys.pins.flt.getLsbD n && s.freeBit n

/-- Is a both-on request still in force for a local leg (R229): the leg's last request, a gate or none between? -/
def LegB.bothOn (l : LegB) : Bool := l.both

/-- A complete DRVEN toggle clears LEGFLT, INTLK_WB and STAGE_ILK of a leg where their causes are absent (R229). -/
def State.toggleLeg (s : State) (n : Nat) : State :=
  let still := s.fltStill n
  let h := 0x8000 + n
  let l := s.leg h
  let flt := still && s.rdBit (0x2600 + n) 7 0
  let p := if still then s.sys.pins.flt else s.sys.pins.flt &&& ~~~ BitVec.ofNat 12 (2 ^ n)
  let s : State := { s with sys.pins.flt := p }
  let st := if flt then l.status else putBit false 0 l.status
  let st := if l.bothOn then st else putBit false 10 (putBit false 1 st)
  (s.setLeg h { l with status := st }).setLoc n { s.loc n with gFlt := flt }

/-- DRVEN_TOGGLE: DRVENg rises: its gate ends; after at least 1 µs low the toggle is complete (R229). -/
def execDrvenToggle (g : Fin 4) (lowNs : Nat) (s : State) : Host.Outcome State Fault Refusal :=
  let p := s.sys.pins.drven ||| BitVec.ofNat 4 (2 ^ g.val)
  let t : State := { s with sys.pins.drven := p }
  let t := t.mapLocs (fun n x => if n / 3 = g.val then { x with gDrven := false } else x)
  .next (if 1000 ≤ lowNs then
    let u := (List.range 3).foldl (fun u k => u.toggleLeg (3 * g.val + k)) t
    u.useFresh
  else t)

/-- LEG_FAULT_INPUT: LGnFLT_N low; with FLT_EN set the leg is gated and LEGFLT sets (R228). -/
def execLegFaultInput (n : Fin 12) (lowNs : Nat) (s : State) : Host.Outcome State Fault Refusal :=
  let p := s.sys.pins.flt ||| BitVec.ofNat 12 (2 ^ n.val)
  .next (if s.lowSeen lowNs then
    let t : State := { s.useFresh with sys.pins.flt := p }
    if t.rdBit (0x2600 + n.val) 7 0 then
      (t.gate (2 ^ n.val) (fun x => { x with gFlt := true })).legFlag (0x8000 + n.val) 1
    else t
  else s.useFresh)

/-! ## The output stage (R224, R226, R227) -/

/-- The target of a local edge rounded to 25 ps, in 1/256 ns (R226): a step of 25 ps is 32/5 of a unit. -/
def stageTime (t : Int) : Int := Int.fdiv (32 * divRound (5 * t) 32) 5

/-- Both pins of a leg to a requested state at a time. A pin that would rise within the floor after the other fell is
held low; answers whether the stage's interlock acted (R227). -/
def LocalLeg.drive (x : LocalLeg) (now : BitVec 40) (floor : Nat) (st : EdgeSt) : LocalLeg × Bool :=
  let fh := if x.pinH && st != .high then some now else x.fallH
  let fl := if x.pinL && st != .low then some now else x.fallL
  match st with
  | .high =>
    if floorOver now floor fl then ({ x with pinH := true, pinL := false, fallH := fh, fallL := fl, heldH := false, heldL := false }, false)
    else ({ x with pinH := false, pinL := false, fallH := fh, fallL := fl, heldH := true, heldL := false }, true)
  | .low =>
    if floorOver now floor fh then ({ x with pinL := true, pinH := false, fallH := fh, fallL := fl, heldH := false, heldL := false }, false)
    else ({ x with pinL := false, pinH := false, fallH := fh, fallL := fl, heldL := true, heldH := false }, true)
  | .off => ({ x with pinH := false, pinL := false, fallH := fh, fallL := fl, heldH := false, heldL := false }, false)
  | .reject => ({ x with pinH := false, pinL := false, fallH := fh, fallL := fl, heldH := false, heldL := false }, false)

/-- The levels of a leg's two pins at an instant after its last edge: a held pin is high from the instant at which its floor has
elapsed (R227). -/
def LocalLeg.levels (x : LocalLeg) (now : BitVec 40) (floor : Nat) : Bool × Bool :=
  let y := x.settle now floor
  (y.pinH, y.pinL)

/-- May the output stage drive local leg `n` now (R224)? -/
def State.stageOpen (s : State) (n : Nat) : Bool :=
  s.running && s.commands && s.rd (0x2600 + n) 2 != 0 && !(s.loc n).gated

/-- LOCAL_EDGE_EXECUTE: the next edge of the leg in this tick, at its target rounded to 25 ps, under the stage's interlock
(R226, R227). -/
def execLocalEdgeExecute (n : Fin 12) (s : State) : Host.Outcome State Fault Refusal :=
  let h := 0x8000 + n.val
  let l := s.leg h
  .next (match l.remain[l.execd]? with
  | none => s
  | some e =>
    let t := s.setLeg h { l with execd := l.execd + 1 }
    if !t.stageOpen n then t
    else
      let now := tbAdd t.clk.bnd (stageTime e.t)
      let floor := t.rd (0x2600 + n.val) 6
      let r := ((t.loc n).settle now floor).drive now floor e.st
      let t := t.setLoc n r.1
      if r.2 then t.legFlag h 0x402 else t)

/-! ## SF5 diagnostics (Table SF-4, R136, R254) -/

/-- A detection in BOOT is kept for its end (R254, R262). -/
def State.bootNote (s : State) (cause : Nat) : State :=
  if s.sys.dev = .boot then { s with saf.bootSf5 := s.saf.bootSf5 ||| BitVec.ofNat 16 (2 ^ cause) } else s

/-- Whether a lasting diagnostic fails: it triggers SF5, or its cause ends. What fails in BOOT acts at its end. -/
def State.diag (s : State) (bad : Bool) (cause : Nat) : State :=
  if s.up then (if bad then s.sf5 cause else s.sf5Sync) else if bad then s.bootNote cause else s

/-- An occurrence found in BOOT enters at its end (R262). -/
def State.occurBoot (s : State) (src : Nat) : State :=
  if s.up then s.occur src else if s.sys.dev = .boot then { s with saf.bootOcc := s.saf.bootOcc ++ [src] } else s

/-- CLOCK_MONITOR: the internal clock stopped or more than 5 % off for 1 µs, or within limits again for 1 µs (R136). -/
def execClockMonitor (bad : Bool) (s : State) : Host.Outcome State Fault Refusal :=
  let t : State := { s with saf.clkBad := bad }
  .next (t.diag bad 9)

/-- LOCKSTEP_MISMATCH: SC2 and its shadow disagree, or have agreed through one whole tick (Table SF-4). -/
def execLockstepMismatch (mismatch : Bool) (s : State) : Host.Outcome State Fault Refusal :=
  let t : State := { s with saf.lockstepWait := mismatch }
  .next (t.diag mismatch 3)

/-- CORE_SUPPLY_MONITOR: a core rail more than 5 % from nominal for 1 µs, or back (Table SF-4). -/
def execCoreSupplyMonitor (bad : Bool) (s : State) : Host.Outcome State Fault Refusal :=
  let t : State := { s with saf.railBad := bad }
  .next (t.diag bad 3)

/-- COMPARATOR_THRESHOLD_CHECK: the periodic check of a threshold converter (Table SF-4). -/
def execComparatorThresholdCheck (c : Fin 8) (ok : Bool) (s : State) : Host.Outcome State Fault Refusal :=
  let m := BitVec.ofNat 8 (2 ^ c.val)
  let f := if ok then s.saf.thrFail &&& ~~~ m else s.saf.thrFail ||| m
  let t : State := { s with saf.thrFail := f }
  .next (t.diag (!ok) 3)

/-- WORKING_COPY_CHECK: the CRC of the working copy of the safety set against 0x4000.01 (Table SF-4). -/
def execWorkingCopyCheck (crc : Nat) (s : State) : Host.Outcome State Fault Refusal :=
  let bad := crc != s.rd 0x4000 1
  let t : State := { s with saf.wcBad := bad }
  .next (t.diag bad 3)

/-- An uncorrectable error in a word of a memory of Table SF-4: SF5; a re-read that is clean ends the cause for that word. -/
def State.eccSf5 (s : State) (w : EccMem × Nat) (clean : Bool) : State :=
  let l := s.saf.eccBad.filter (· != w)
  let t : State := { s with saf.eccBad := if clean then l else l ++ [w] }
  (if clean then t.transient 1 else t).diag (!clean) 3

/-- ECC_UNCORRECTABLE: re-read once. A clean re-read counts as transient; otherwise engine memory is an ECC exception, the
memories of Table SF-4 trigger SF5, the others raise 0xE5 (R15, Table SF-12). -/
def execEccUncorrectable (w : EccMem × Nat) (rereadClean : Bool) (s : State) : Host.Outcome State Fault Refusal :=
  .next (match w.1 with
  | .engine e => if !s.up then s else if rereadClean then s.transient 3 else s.engExc e 8
  | .sc2 => s.eccSf5 w rereadClean
  | .workingCopy => s.eccSf5 w rereadClean
  | .weave => s.eccSf5 w rereadClean
  | .netbuf => s.eccSf5 w rereadClean
  | .other => if rereadClean then s.transient 14 else s.occurBoot 0xE5)

end Sys2Proof.Machine
end

