-- ==== Sys2Proof/Machine/Adc.lean ====
section
/-! DEFINITION. The analogue front end: rounds of a converter pair, plausibility and arbitration, calibration, and the
snapshot of a boundary (R236 to R242). -/

namespace Sys2Proof.Machine

/-- Input `n` since the last boundary. -/
def State.ain (s : State) (n : Nat) : AinSt := Tab.get AinSt.init n s.fld.ain
/-- Change input `n`. -/
def State.setAin (s : State) (n : Nat) (x : AinSt) : State := { s with fld.ain := Tab.set AinSt.init n x s.fld.ain }
/-- Input `n` in the interval that the last boundary ended. -/
def State.ainPrev (s : State) (n : Nat) : AinSt := Tab.get AinSt.init n s.fld.ainPrev
/-- Change input `n` of that interval. -/
def State.setAinPrev (s : State) (n : Nat) (x : AinSt) : State := { s with fld.ainPrev := Tab.set AinSt.init n x s.fld.ainPrev }
/-- Converter pair `k`. -/
def State.cpair (s : State) (k : Nat) : PairSt := Tab.get PairSt.init k s.fld.pairs
/-- Change converter pair `k`. -/
def State.setCpair (s : State) (k : Nat) (x : PairSt) : State :=
  { s with fld.pairs := Tab.set PairSt.init k x s.fld.pairs }

/-- SPARE_FOR, CAL_SLICE of 0x2700.01 (Table LA-11). -/
def State.spareFor (s : State) : Nat := bitsN (s.rd 0x2700 1) 7 4
/-- Write SPARE_FOR. -/
def State.setSpareFor (s : State) (m : Nat) : State := s.wr 0x2700 1 (putBitsN (s.rd 0x2700 1) 7 4 m)
/-- Write CAL_SLICE. -/
def State.setCalSlice (s : State) (n : Nat) : State := s.wr 0x2700 1 (putBitsN (s.rd 0x2700 1) 11 8 n)

/-- The slice that serves a converter: its own, or the spare S8. -/
def State.sliceOf (s : State) (m : Nat) : Nat := if s.spareFor = m then 8 else m

/-- A conversion corrected by its slice's calibration; a slice not calibrated since reset converts as it is (R238). -/
def State.adcCorrect (s : State) (slice : Nat) (v : Int) : Int :=
  match Tab.get none slice s.fld.slices with
  | some c => Sys2Proof.Config.adcCorrect c.1 c.2 v
  | none => v

/-- The result of a conversion in the units of R238: single-ended half the 16-bit conversion rounded half up, 0 to 32,767;
differential −32,767 to 32,767. -/
def State.adcCode (s : State) (n slice : Nat) (v : Int) : Int :=
  let c := s.adcCorrect slice v
  if s.rd (0x2710 + n) 1 = 1 then clampI (-32767) 32767 c else clampI 0 32767 (Int.fdiv (c + 1) 2)

/-- The input of a position of converter `m`: the pair's cross channel at position 0 (Table LA-8). -/
def State.adcInput (s : State) (m j : Nat) : Nat := if j = 0 then s.rd (0x2709 + m / 2) 1 else s.rd (0x2701 + m) (2 + j)

/-- One valid result enters the latest and the mean of an interval (R239). -/
def AinSt.take (a : AinSt) (v : Int) (at_ : BitVec 40) : AinSt :=
  let newer := a.latest.isNone || decide (0 ≤ tbDiff at_ a.latestAt)
  { latest := if newer then some v else a.latest, latestAt := if newer then at_ else a.latestAt, sum := a.sum + v, cnt := a.cnt + 1 }

/-- The snapshot of one input from an interval's results (R239): latest, mean rounded half up, stamp. -/
def State.adcShow (s : State) (n : Nat) (a : AinSt) : State :=
  match a.latest with
  | none => (s.wr (0x2710 + n) 2 0x8000).wr (0x2710 + n) 3 0x8000
  | some v =>
    let c : Int := (a.cnt : Int)
    let s := (s.wr (0x2710 + n) 2 (ofSigned 16 v)).wr (0x2710 + n) 3 (ofSigned 16 (Int.fdiv (2 * a.sum + c) (2 * c)))
    s.wr (0x2710 + n) 4 a.latestAt.toNat

/-- A result sampled at instant `i`, in 100 ns from the last boundary: one from before it belongs to the snapshot in force and carries TB0
as it stood before a step at that boundary (R236, R239). -/
def State.adcTake (s : State) (n : Nat) (v i : Int) : State :=
  if i < 0 then
    let a := (s.ainPrev n).take v (tbAdd s.clk.bnd (25600 * i - s.clk.moved))
    (s.setAinPrev n a).adcShow n a
  else s.setAin n ((s.ain n).take v (tbAdd s.clk.bnd (25600 * i)))

/-- The results of one converter's round that began at instant `g`, position by position. -/
def State.adcConv (s : State) (m : Nat) (g : Int) : Nat → List (Option Int) → State
  | _, [] => s
  | j, v :: vs =>
    let n := s.adcInput m j
    let t := match v with
      | some x => if n < 48 ∧ j < s.rd (0x2701 + m) 1 then s.adcTake n (s.adcCode n (s.sliceOf m) x) (g + j) else s
      | none => s
    State.adcConv t m g (j + 1) vs

/-- The status of a pair (Table LA-10), PLAUS with it. -/
def State.setPairStatus (s : State) (k v : Nat) : State :=
  let s := s.wr (0x2709 + k) 5 v
  s.wrBit 0x2700 1 1 ((List.range 4).any (fun j => s.rd (0x2709 + j) 5 != 0))

/-- Do two results differ by more than the pair's threshold? -/
def State.adcOff (s : State) (k : Nat) : Option Int → Option Int → Bool
  | some a, some b => decide (s.rd (0x2709 + k) 2 < (a - b).natAbs)
  | _, _ => false

/-- The spare takes over a converter for good: SPARE_FOR, SPARE_PERM, ROT_STOP and the failed slice (R241, R242); the rotation
stands. -/
def State.sparePerm (s : State) (m : Nat) : State :=
  let v := s.rd 0x2700 1
  let t : State := { s with fld.cal := { s.fld.cal with phase := .idle } }
  t.wr 0x2700 1 (setBitN (setBitN (setBitN (putBitsN v 7 4 m) 3 true) 2 true) (12 + m) true)

/-- The status of a pair whose results agree: a converter of it that the spare serves for good shows (Table LA-10). -/
def State.pairGood (s : State) (k : Nat) : Nat :=
  if s.rdBit 0x2700 1 3 && s.spareFor / 2 == k then 3 + s.spareFor % 2 else 0

/-- A plausibility fault of pair `k` aborts the calibration under way: a slice that the spare stands in for returns at the next round
start of its pair, which for pair `k` is now (R241). -/
def State.calAbort (s : State) (k : Nat) : State :=
  let c := s.fld.cal
  let t := s.setCalSlice 0xF
  let away := (c.phase == .out || c.phase == .stepBack) && decide (c.slice < 8)
  if away && c.slice / 2 != k then { t with fld.cal := { c with phase := .stepBack } }
  else
    let u : State := { t with fld.cal := { c with phase := .idle } }
    if away then u.setSpareFor 0xF else u

/-- The third disagreement in a row: counted, raised; arbitration begins, or status 0x05 where the spare is bound. A calibration under
way is aborted, and where the spare stands in arbitration begins a round later (R240, R241). -/
def State.plausFault (s : State) (k : Nat) (x : PairSt) : State :=
  let s := (s.count (0x2709 + k) 4).raise (0xC0 + k)
  let out := !s.rdBit 0x2700 1 3 && s.spareFor != 0xF
  let s := s.calAbort k
  if s.rdBit 0x2700 1 3 then (s.setCpair k { x with dis := 3, invalid := true }).setPairStatus k 5
  else (s.setCpair k { x with dis := 3, arb := true, arbWait := out, arb0 := 0, arb1 := 0, invalid := true }).setPairStatus k 2

/-- The comparison of a round outside arbitration (R240). -/
def State.plausRound (s : State) (k : Nat) (x : PairSt) (off : Bool) : State :=
  let st := s.rd (0x2709 + k) 5
  if st = 5 then
    if off then s else ((s.setCpair k { x with dis := 0, invalid := false }).setPairStatus k (s.pairGood k)).unraise (0xC0 + k)
  else if off then
    if 2 ≤ x.dis then s.plausFault k x
    else (s.setCpair k { x with dis := x.dis + 1 }).setPairStatus k (if st = 3 ∨ st = 4 then st else 1)
  else
    let s := if x.dis = 0 then s else (s.count (0x2709 + k) 3).transient 12
    (s.setCpair k { x with dis := 0 }).setPairStatus k (if st = 3 ∨ st = 4 then st else 0)

/-- The round before an arbitration that follows an aborted calibration: the next one arbitrates once the slice is back (R241). -/
def State.arbWaits (s : State) (k : Nat) (x : PairSt) : State := s.setCpair k { x with arbWait := s.spareFor != 0xF }

/-- A pair whose results were invalid when the spare replaced a slice of it that failed its calibration: they are valid from the next
round start (R241, R242). -/
def State.pairFreed (s : State) (k : Nat) (x : PairSt) : State :=
  (s.setCpair k { x with dis := 0, invalid := false }).unraise (0xC0 + k)

/-- A round of arbitration: the converter that differs from the spare twice in a row while the other does not has failed;
every other outcome is 0x05, as is an arbitration whose spare another pair or a failed slice has bound meanwhile (R241). `arb0` and `arb1` count the rounds in each one's disfavour, plus 4 per round made. -/
def State.arbRound (s : State) (k : Nat) (x : PairSt) (e o sp : Option Int) : State :=
  if s.rdBit 0x2700 1 3 then (s.setCpair k { x with arb := false, arb0 := 0, arb1 := 0, invalid := true }).setPairStatus k 5
  else
  let d0 := s.adcOff k e sp
  let d1 := s.adcOff k o sp
  let b0 := x.arb0 + (if d0 && !d1 then 1 else 0)
  let b1 := x.arb1 + (if d1 && !d0 then 1 else 0)
  let x := { x with arb0 := b0 + 4, arb1 := b1 + 4 }
  if x.arb0 < 8 then s.setCpair k x
  else
    let y := { x with arb := false, arb0 := 0, arb1 := 0 }
    let win := if x.arb0 = 10 then some 0 else if x.arb1 = 10 then some 1 else none
    match win with
    | some w =>
      let s := (s.sparePerm (2 * k + w)).setCpair k { y with dis := 0, invalid := false }
      (s.setPairStatus k (3 + w)).unraise (0xC0 + k)
    | none => (s.setCpair k { y with invalid := true }).setPairStatus k 5

/-- A round of the pair of the slice under calibration ends: the spare, in step for one round, takes over; or the slice, in step for
one round, takes back (R242). -/
def State.calRound (s : State) (k : Nat) : State :=
  let c := s.fld.cal
  if c.slice / 2 ≠ k ∨ 8 ≤ c.slice then s
  else if c.phase = .stepIn then (({ s with fld.cal := { c with phase := .out } } : State).setSpareFor c.slice).setCalSlice c.slice
  else if c.phase = .stepBack then ({ s with fld.cal := { c with phase := .idle } } : State).setSpareFor 0xF
  else s

/-- What the results of a round decide of a pair (R240, R241). -/
def State.adcJudge (s : State) (k : Nat) (x : PairSt) (even odd spare : Option Int) : State :=
  let n := s.rd (0x2709 + k) 1
  let e := even.map (s.adcCode n (s.sliceOf (2 * k)))
  let o := odd.map (s.adcCode n (s.sliceOf (2 * k + 1)))
  if x.arb then (if x.arbWait then s.arbWaits k x else s.arbRound k x e o (spare.map (s.adcCode n 8)))
  else if x.invalid && s.rd (0x2709 + k) 5 != 5 then s.pairFreed k x
  else s.plausRound k x (s.adcOff k e o)

/-- ADC_ROUND: the results of a round, valid unless the pair's are invalid; then the cross channels are compared (R239 to
R242). -/
def execAdcRound (k : Fin 4) (even odd : List (Option Int)) (spare : Option Int) (s : State) :
    Host.Outcome State Fault Refusal :=
  let x := s.cpair k
  .next (if !s.rdBit 0x2700 1 0 then s
  else
    let g := x.rounds
    let x := { x with rounds := g + (s.rd (0x2701 + 2 * k.val) 1 : Int) }
    if s.rd (0x2709 + k.val) 1 = 0xFF then (s.setCpair k x).calRound k
    else
      let t := if x.invalid then s else (s.adcConv (2 * k.val + 1) g 0 odd).adcConv (2 * k.val) g 0 even
      ((t.setCpair k x).adcJudge k x (even.headD none) (odd.headD none) spare).calRound k)

/-- Has a calibrated slice failed: not completed, offset beyond ±64 units, gain beyond ±0.5 % (R242)? -/
def sliceFailed (completed : Bool) (offset gainPpm : Int) : Bool :=
  !completed || decide (64 < offset.natAbs) || decide (5000 < gainPpm.natAbs)

/-- Does the rotation go on: converters running, no spare bound for good, no arbitration that needs the spare (R241, R242)? -/
def State.calRuns (s : State) : Bool :=
  s.rdBit 0x2700 1 0 && !s.rdBit 0x2700 1 2 && (List.range 4).all (fun k => !(s.cpair k).arb)

/-- The next slice's turn: the spare's own begins at once, any other with a round of the spare in step (R242). -/
def State.calStart (s : State) : State :=
  let c := s.fld.cal
  let d : CalSt := { next := (c.next + 1) % 9, slice := c.next, phase := if c.next = 8 then .out else .stepIn }
  let t : State := { s with fld.cal := d }
  if c.next = 8 then t.setCalSlice 8 else t

/-- The end of a calibration: kept, and the slice converts in step before it takes back; or the slice has failed, and the spare serves
its converter for good (R242). -/
def State.calFinish (s : State) (completed : Bool) (offset gainPpm : Int) : State :=
  let c := s.fld.cal
  let t := s.setCalSlice 0xF
  if sliceFailed completed offset gainPpm then
    if c.slice = 8 then ({ t with fld.cal := { c with phase := .idle } } : State).wrBit 0x2700 1 20 true
    else
      let u := t.sparePerm c.slice
      let u := if u.rd (0x2709 + c.slice / 2) 1 = 0xFF then u else u.setPairStatus (c.slice / 2) (3 + c.slice % 2)
      u.raise 0xC4
  else
    { t with fld.slices := Tab.set none c.slice (some (offset, gainPpm)) t.fld.slices,
             fld.cal := { c with phase := if c.slice = 8 then .idle else .stepBack } }

/-- ADC_CALIBRATION: the next slice's turn in the rotation begins, in the order S0 to S8, or with `finish` the calibration of the slice
whose turn it is ends with what it has found (R242). -/
def execAdcCalibration (finish completed : Bool) (offset gainPpm : Int) (s : State) : Host.Outcome State Fault Refusal :=
  .next (if !s.calRuns then s
  else if finish then (if s.fld.cal.phase = .out then s.calFinish completed offset gainPpm else s)
  else if s.fld.cal.phase = .idle then s.calStart else s)

/-- The snapshot of one input at a boundary (R239); the interval's results stay for a round that ends after the boundary. -/
def State.adcSnap (s : State) (n : Nat) : State :=
  let a := s.ain n
  ((s.adcShow n a).setAinPrev n a).setAin n AinSt.init

/-- Every round in progress, or ended, began so long before the new boundary: `d` is the tick just ended, in 1/256 ns. -/
def State.adcShifts (s : State) (d : Int) : State :=
  if s.rdBit 0x2700 1 0 then forUpTo (fun k s => s.setCpair k { s.cpair k with rounds := (s.cpair k).rounds - d / 25600 }) 4 s else s

/-- The snapshot of every input at a boundary (R239), while the converters run. -/
def State.adcBoundary (s : State) : State :=
  if s.rdBit 0x2700 1 0 then forUpTo (fun n s => s.adcSnap n) 48 s else s

/-- Every sequence restarts at position 0 at the boundary at which a change applies (R237); a disabled pair's status is 0x00, and that of
one enabled again names a converter that the spare serves for good (Table LA-10). -/
def State.adcRestart (s : State) : State :=
  forUpTo (fun k s =>
    if s.rd (0x2709 + k) 1 = 0xFF then ((s.setCpair k PairSt.init).setPairStatus k 0).unraise (0xC0 + k)
    else
      let t := s.setCpair k { s.cpair k with rounds := 0 }
      if s.rd (0x2709 + k) 5 = 0 then t.setPairStatus k (s.pairGood k) else t) 4 s

end Sys2Proof.Machine
end

