-- ==== Sys2Proof/Machine/DictWrite.lean ====
section
/-! DEFINITION. Writing the object dictionary: the checks of an item in order, the stores of plain, shadow and acting entries,
the shadows a boundary applies, and a yelm as a whole (R303 to R307, R317 to R323, R289). -/

namespace Sys2Proof.Machine

/-! ## Pair-shared configuration and locks (R289, R318, R319) -/

/-- Entries in the pair-shared ranges that belong to one member by nature: counters, leg status, protection status and latched
engine status. -/
def memberOwn (idx sub : Nat) : Bool :=
  (entryRow idx sub).any (·.ctr) || (decide (0x2400 ≤ idx ∧ idx < 0x2580 ∧ 16 ≤ sub ∧ sub < 24)) ||
  (decide (0x2600 ≤ idx ∧ idx < 0x260C ∧ sub = 3)) || idx == 0x2790 || (decide (0x3000 ≤ idx ∧ idx < 0x3010 ∧ sub = 12))

/-- Is an entry pair-shared configuration (R289)? -/
def pairShared (idx sub : Nat) : Bool :=
  (decide (0x2000 ≤ idx ∧ idx ≤ 0x30FF) || decide (0x3200 ≤ idx ∧ idx ≤ 0x41FF) || decide (0x8000 ≤ idx ∧ idx ≤ 0xBFFF) ||
    (idx == 0x5000 && (sub == 3 || sub == 7))) && !memberOwn idx sub

/-- Does a session hold a scope as such? -/
def Session.holdsAs (x : Session) : Scope → Bool
  | .cluster => x.lockC
  | .string k => x.lockS.getLsbD k

/-- Does a session hold the lock of a scope: its own, or the cluster lock over a string (R319)? -/
def Session.holds (x : Session) (sc : Scope) : Bool := x.lockC || x.holdsAs sc

/-! ## The checks of an item (R303, R305, R307, R317) -/

/-- The refusals that do not concern the value: access 0x02, role 0x03, state 0x04 (Table entries "only in COMMISSION or
BLOCKED", and R352), redundancy role 0x0E. 0: none. -/
def State.preStatus (s : State) (roles : BitVec 8) (r : EntryRow) (idx sub : Nat) : Nat :=
  if r.acc = .ro then 2
  else if hasRole roles r.roles = false then 3
  else if r.cfgOnly && !s.cfgState then 4
  else if lockedAcc r.acc && s.activating then 4
  else if decide (s.sys.role = .standby) && pairShared idx sub then 0xE
  else 0

/-- Type, length and range of an item: 0x06 or 0x05; 0 where they hold. -/
def itemStatus (r : EntryRow) (w : WItem) : Nat :=
  if w.ty ≠ tyCode r.ty then 6
  else if tyBytes r.ty then (if w.offset + w.len ≤ r.size then 0 else 6)
  else if w.offset ≠ 0 ∨ w.len ≠ r.size then 6
  else if r.ty = .bool then (if w.val ≤ 1 then 0 else 6)
  else
    let v : Int := if tySigned r.ty then toSigned (8 * r.size) w.val else (w.val : Int)
    if r.mn ≤ v ∧ v ≤ r.mx then 0 else 5

/-- The string that an item leaves of an old one. -/
def itemStr (old : Nat) (w : WItem) : List Byte := strPut (strBytes old) w.offset (beBytes w.val w.len)

/-- Does a write of a STRING leave no gap, at most n bytes and valid UTF-8 (R303, R317)? Any other type passes. -/
def strOk (r : EntryRow) (old : Nat) (w : WItem) : Bool :=
  r.ty != .str || (decide (w.offset ≤ (strBytes old).length ∧ (itemStr old w).length ≤ r.size) && utf8Ok (itemStr old w))

/-- The value that an item gives its entry: part of an OCTETS value replaced, a STRING as R317 says, reserved bits dropped. -/
def itemVal (r : EntryRow) (old : Nat) (w : WItem) : Nat :=
  match r.ty with
  | .octets => putOctets r.size old w.offset w.len w.val
  | .str => bytesNat (itemStr old w)
  | _ => keptVal w.idx w.sub w.val

/-! ## Acting entries -/

/-- Status bits of an engine cleared by writing 1 (0x3000+e.0C). -/
def State.engStatusClear (s : State) (e v : Nat) : State := s.wr (0x3000 + e) 12 (s.rd (0x3000 + e) 12 &&& (0xFFFF - v % 0x10000))

/-- The write of an entry that acts when executed; `none` for an entry that only stores. -/
def State.actWrite (s : State) (roles : BitVec 8) (w : WItem) (v : Nat) : Option (State × Nat) :=
  let idx := w.idx
  let sub := w.sub
  if idx = 0x1001 then some (s.reqState roles v)
  else if idx = 0x1002 then some (s.restoreDefaults v)
  else if 0x1201 ≤ idx ∧ idx < 0x1205 ∧ sub = 4 then some (s.tbStep (idx - 0x1201) (toSigned 32 v))
  else if idx = 0x1400 ∧ sub = 4 then some (s.lifecycleReq v)
  else if idx = 0x1410 ∧ sub = 1 then some (s.activateReq v)
  else if idx = 0x1410 ∧ sub = 3 then some (s.healthReq v)
  else if 0x1420 ≤ idx ∧ idx ≤ 0x1422 then some (s.secWrite idx sub v)
  else if idx = 0x1430 ∧ sub = 1 then some (s.debugCertWrite (certOfBytes v))
  else if 0x2100 ≤ idx ∧ idx < 0x2106 ∧ sub = 12 then 
    some (s.bypWrite (idx - 0x2100) (bitsOfMap v), s.bypStatus (idx - 0x2100) (bitsOfMap v))
  else if 0x2400 ≤ idx ∧ idx < 0x2580 ∧ 16 ≤ sub ∧ sub < 24 then some (s.legClear ((idx - 0x2400) * 8 + (sub - 16)) v, 0)
  else if 0x2600 ≤ idx ∧ idx < 0x260C ∧ sub = 3 then some (s.legClear (0x8000 + (idx - 0x2600)) v, 0)
  else if idx = 0x2790 ∧ sub = 2 then some (s.clearTrip v, 0)
  else if idx = 0x2790 ∧ sub = 4 then some (s.clearComp v, 0)
  else if 0x3000 ≤ idx ∧ idx < 0x3010 ∧ sub = 12 then some (s.engStatusClear (idx - 0x3000) v, 0)
  else if 0x3010 ≤ idx ∧ idx < 0x3020 ∧ sub = 1 then some (s.swapReq (idx - 0x3010) v)
  else if 0x3010 ≤ idx ∧ idx < 0x3020 ∧ sub = 2 then some (s.bankWrite (idx - 0x3010) w.offset (beBytes w.val w.len))
  else if idx = 0x3100 ∧ sub = 3 then some (s.traceCmd v)
  else if idx = 0x4000 ∧ sub = 2 then some (s.confirmSafety v)
  else if idx = 0x4200 ∧ sub = 3 then some (s.ladderRel v)
  else if idx = 0x4203 then some (s.forceClass (sub - 1) v, 0)
  else if idx = 0x4204 then some (s.ackClass (sub - 1) v, 0)
  else if idx = 0x5000 ∧ sub = 2 then some (s.switchOver v)
  else if idx = 0x5100 ∧ sub = 6 then some (s.blockReq v)
  else if idx = 0x6000 ∧ sub = 10 then some (s.clearKeep v)
  else if 0x6A00 ≤ idx ∧ idx < 0x6AC0 ∧ sub = 11 then some (s.obsClear (idx - 0x6A00) v)
  else none

/-! ## Stores -/

/-- An RW or WO write without an action, judged by the entry's rules on the state that the write leaves. -/
def State.plainWrite (s : State) (idx sub v : Nat) : State × Nat :=
  if (s.viewed.wr idx sub v).rulesOk idx sub then (s.storeNow idx sub v, 0) else (s, 5)

/-- An RWB or RWS write: it lands in the shadow (R304). DESIGN CHOICE (log entry 139): it is judged with the other pending boundary
writes, but without the writes of a yelm that waits, and not again at the boundary. -/
def State.shadowWrite (s : State) (idx sub v : Nat) : State × Nat :=
  if (s.viewed.wr idx sub v).rulesOk idx sub then (s.setShadow idx sub v, 0x10) else (s, 5)

/-- The value that an item's entry holds before a write: the shadow where one is pending. -/
def State.itemOld (s : State) (r : EntryRow) (idx sub : Nat) : Nat :=
  if atBoundary r.acc idx sub then s.readShadow idx sub else s.readEntry idx sub

/-- The value of an item over the entry's present one. -/
def State.itemNew (s : State) (r : EntryRow) (w : WItem) : Nat := itemVal r (s.itemOld r w.idx w.sub) w

/-- The effect of an item whose checks have passed. -/
def State.storeItem (s : State) (roles : BitVec 8) (r : EntryRow) (w : WItem) : State × Nat :=
  if r.ctr then s.clearCtr w.idx w.sub w.val
  else match s.actWrite roles w (s.itemNew r w) with
    | some x => x
    | none => if atBoundary r.acc w.idx w.sub then s.shadowWrite w.idx w.sub (s.itemNew r w)
      else s.plainWrite w.idx w.sub (s.itemNew r w)

/-- Is a status one of acceptance? -/
def accepted (st : Nat) : Bool := st == 0 || st == 0x10

/-- Does a coefficient bank or its control forward itself (R289, CTYPE 4 and 5)? -/
def ownForward (idx : Nat) : Bool := decide (0x3010 ≤ idx ∧ idx < 0x3020)

/-- The ACTIVE forwards an accepted write of pair-shared configuration (R289): an RW write applies on receipt, target 0. -/
def State.forwardItem (s : State) (r : EntryRow) (w : WItem) : State :=
  if pairShared w.idx w.sub && !ownForward w.idx then
    s.forwardCfg 1 (if lockedAcc r.acc then s.clk.tick + 1 else 0) 0 (wItemBytes w)
  else s

/-- A refusal for the state of the confirmation entry also sets 0x1001.04 (R257). -/
def State.preRefuse (s : State) (w : WItem) (st : Nat) : State × Nat :=
  if st = 4 ∧ w.idx = 0x4000 ∧ w.sub = 2 ∧ s.sys.dev ≠ .commission then (s.wr 0x1001 4 1, 4) else (s, st)

/-- A confirmation that an item has made names its writer's certificate (R257). -/
def State.confSerial (s : State) (serial : Nat) (w : WItem) : State :=
  if w.idx = 0x4000 ∧ w.sub = 2 then { s with saf.confBy := s.saf.confBy.map (fun _ => serial) } else s

/-- An item whose preconditions hold: lock, type, length and range, then its effect and its forward. -/
def State.checkedItem (s : State) (x : Session) (r : EntryRow) (w : WItem) : State × Nat :=
  if lockedAcc r.acc && !x.holds (s.entryScope w.idx) then (s, 8)
  else if itemStatus r w ≠ 0 then (s, itemStatus r w)
  else if !strOk r (s.itemOld r w.idx w.sub) w then (s, 6)
  else
    let y := s.storeItem x.roles r w
    if accepted y.2 then ((y.1.confSerial x.serial w).forwardItem r w, y.2) else y

/-- One item of a WRITE for a session (R307, R317). -/
def State.writeItem (s : State) (x : Session) (w : WItem) : State × Nat :=
  match s.row w.idx w.sub with
  | none => (s, 1)
  | some r =>
    let st := s.preStatus x.roles r w.idx w.sub
    if st ≠ 0 then s.preRefuse w st else s.checkedItem x r w

/-- The items of a WRITE in order, each on its own: the state and their statuses. -/
def State.writeItems (s : State) (x : Session) : List WItem → State × List Nat
  | [] => (s, [])
  | w :: ws =>
    let y := s.writeItem x w
    let z := y.1.writeItems x ws
    (z.1, y.2 :: z.2)

/-- A status as an item of a reply. -/
def resOf (st : Nat) : ItemRes := ⟨st, 0, 0, 0⟩

/-- The reply to a WRITE. -/
def writeReply (l : List Nat) : Reply := ⟨worst l, 0, l.map resOf⟩

/-- A fixed-size write of one entry by a session: as a WRITE of one item, its status logged. -/
def State.hostWrite (s : State) (i : Nat) (w : WItem) : State :=
  if s.sessUp i then
    let y := s.writeItem (s.sess i) w
    y.1.send (.itemStatus i y.2)
  else s

/-- The item that writes a whole value to an entry with its own type and size. -/
def fullItem (idx sub v : Nat) : WItem :=
  match entryRow idx sub with
  | some r => ⟨idx, sub, tyCode r.ty, 0, r.size, v⟩
  | none => ⟨idx, sub, 0, 0, 0, v⟩

/-- A session's whole write of an entry. -/
def State.hostSet (s : State) (i idx sub v : Nat) : State := s.hostWrite i (fullItem idx sub v)

/-! ## What a boundary applies (R17, R304, R214) -/

/-- A cell whose bypass bit a write has cleared: BYP_FAIL clears (R215). -/
def State.bypassLeft (s : State) (c : Nat) : State :=
  s.setCell c { s.cell c with bypFail := false, bypTarget := none }

/-- The bypass map in force takes the written one: its 1s set, the 0s accepted with it clear, what a decision has set since stays
(R214). -/
def State.bypassApply (s : State) (idx v : Nat) : State :=
  let st := idx - 0x2100
  let x := s.string st
  let off := x.bypClr &&& ~~~ bitsOfMap v
  let t := s.wr idx 12 (mapOfBits ((s.strMap st 12 &&& ~~~ off) ||| bitsOfMap v))
  let t := t.setString st { x with bypClr := 0 }
  (s.cellsOf st).foldl (fun t c => if off.getLsbD (s.cellIdx c) then t.bypassLeft c else t) t

/-- A value that a boundary gives an entry. -/
def State.storeBoundary (s : State) (idx sub v : Nat) : State :=
  if 0x2100 ≤ idx ∧ idx < 0x2106 ∧ sub = 12 then s.bypassApply idx v else s.storeNow idx sub v

/-- The shadow of an entry is used up. -/
def State.dropShadow (s : State) (key : Nat) : State := { s with reg.shadow := Tab.set none key none s.reg.shadow }

/-- One pending shadow applies where its value differs from the value in force (R304). -/
def State.applyShadow (s : State) (key : Nat) : State :=
  match Tab.get none key s.reg.shadow with
  | none => s
  | some x =>
    let t := s.dropShadow key
    if x.val = s.readEntry (key / 256) (key % 256) then t else t.storeBoundary (key / 256) (key % 256) x.val

/-! ## Yelms (R321 to R324) -/

/-- The checks of one write as it is added to a yelm: absent, access, role, scope, type, length and range (R321). -/
def State.addStatus (s : State) (x : Session) (sc : Scope) (w : WItem) : Nat :=
  match s.row w.idx w.sub with
  | none => 1
  | some r =>
    if r.acc = .ro then 2
    else if hasRole x.roles r.roles = false then 3
    else if lockedAcc r.acc && !(s.entryScope w.idx == sc || (x.lockC && s.entryScope w.idx != .cluster)) then 8
    else if itemStatus r w ≠ 0 then itemStatus r w
    else if decide (w.offset = 0) && !strOk r 0 w then 6
    else if ownRule w.idx w.sub w.val then 0 else 5

/-- The bytes of values in a list of writes. -/
def itemBytes (l : List WItem) : Nat := (l.map (·.len)).foldl (· + ·) 0

/-- Writes added to an open yelm, each checked; at most 256 writes and 16 KiB of values. -/
def State.addItems (s : State) (x : Session) (y : Yelm) : List WItem → Yelm × List Nat
  | [] => (y, [])
  | w :: ws =>
    let st := s.addStatus x y.scope w
    let st := if st = 0 ∧ (256 ≤ y.items.length ∨ 16384 < itemBytes y.items + w.len) then 9 else st
    let y := if st = 0 then { y with items := y.items ++ [w] } else y
    let z := s.addItems x y ws
    (z.1, st :: z.2)

/-- Why a write of a yelm is refused before its value is looked at; 0 where it is not. `forwarded` writes have been checked
by the ACTIVE. -/
def State.yelmPre (s : State) (forwarded : Bool) (roles : BitVec 8) (w : WItem) : Nat :=
  match s.row w.idx w.sub with
  | none => 1
  | some r => if forwarded then 0 else if s.preStatus roles r w.idx w.sub ≠ 0 then s.preStatus roles r w.idx w.sub else itemStatus r w

/-- Does an item act, rather than only store? -/
def State.itemActs (s : State) (w : WItem) : Bool :=
  (s.actWrite 0xFF w 0).isSome || (entryRow w.idx w.sub).any (·.ctr)

/-- The stores of a yelm in order, `pos` the position of the first, acting entries left out: the state they leave, with the positions of
writes that do not fit their strings. -/
def State.yelmStore (s : State) : Nat → List WItem → State × List (Nat × Nat)
  | _, [] => (s, [])
  | pos, w :: ws =>
    match s.row w.idx w.sub with
    | none => s.yelmStore (pos + 1) ws
    | some r =>
      if s.itemActs w then s.yelmStore (pos + 1) ws
      else
        let old := s.readEntry w.idx w.sub
        let y := (s.storeBoundary w.idx w.sub (itemVal r old w)).yelmStore (pos + 1) ws
        (y.1, if strOk r old w then y.2 else (pos, 6) :: y.2)

/-- An act of a yelm at its boundary: a swap of banks happens there, on both members of a pair, since the yelm is forwarded whole (R187,
R289); every other act as for a plain write. What it leaves in a shadow applies in the same cycle. -/
def State.yelmAct (s : State) (roles : BitVec 8) (r : EntryRow) (w : WItem) : State × Nat :=
  let y := if 0x3010 ≤ w.idx ∧ w.idx < 0x3020 ∧ w.sub = 1 then
      (if (s.itemNew r w).testBit 0 then s.swapNow (w.idx - 0x3010) else s, 0)
    else s.storeItem roles r w
  (y.1.applyShadow (ekey w.idx w.sub), y.2)

/-- The acts of a yelm in order: the state, with the position and status of the first refused one. -/
def State.yelmActs (s : State) (roles : BitVec 8) : Nat → List WItem → State × Option (Nat × Nat)
  | _, [] => (s, none)
  | pos, w :: ws =>
    match s.row w.idx w.sub with
    | none => s.yelmActs roles (pos + 1) ws
    | some r =>
      if s.itemActs w then
        let y := s.yelmAct roles r w
        if accepted y.2 then y.1.yelmActs roles (pos + 1) ws else (s, some (pos, y.2))
      else s.yelmActs roles (pos + 1) ws

/-- Is a write one of an entry that acts directly after the cycle: a WO entry (R323)? -/
def State.actsAfter (s : State) (w : WItem) : Bool := (s.row w.idx w.sub).any (fun r => r.acc == .wo)

/-- The acts of those writes of a yelm that a test names, in order. One whose conditions no longer hold, because of what another yelm of
the boundary has done, changes nothing (log entry 192). -/
def State.yelmDo (s : State) (roles : BitVec 8) (p : WItem → Bool) (items : List WItem) : State :=
  items.foldl (fun s w => match s.row w.idx w.sub with
    | some r => if s.itemActs w && p w then
        (let y := s.yelmAct roles r w
         if accepted y.2 then y.1 else s)
      else s
    | none => s) s

/-- Does a write belong to a profile's dead times or to the profile of a node leg (R145)? -/
def dtWrite (w : WItem) : Bool :=
  decide (0x2060 ≤ w.idx ∧ w.idx < 0x2070) || decide (0x2400 ≤ w.idx ∧ w.idx < 0x2580 ∧ (w.sub = 8 ∨ w.sub = 9))

/-- The rules that concern the combination a write belongs to. The interlock floor of a slot is part of the combination of R145, which
refuses writes of a profile or its assignment only. -/
def State.nearRule (t : State) (items : List WItem) (w : WItem) : Bool :=
  if 0x2200 ≤ w.idx ∧ w.idx < 0x22C0 ∧ w.sub ≤ 6 then
    t.valueRule w.idx w.sub && t.cellRule (w.idx - 0x2200) && (t.cellSlots (w.idx - 0x2200)).all (fun n => decide (384 ≤ n) || t.pspOk n)
  else if 0x2400 ≤ w.idx ∧ w.idx < 0x2580 ∧ w.sub = 2 then
    (t.cellList.filter (fun c => (t.cellSlots c).contains (w.idx - 0x2400))).all t.cellRule
  else if 0x2400 ≤ w.idx ∧ w.idx < 0x2580 ∧ w.sub = 5 then !items.any dtWrite || t.slotFloorOk (w.idx - 0x2400)
  else t.rulesOk w.idx w.sub

/-- The writes, `pos` the position of the first, whose combinations break a rule, each with status 0x05. -/
def State.rulesBad (t : State) (items : List WItem) : Nat → List WItem → List (Nat × Nat)
  | _, [] => []
  | pos, w :: ws => (if t.itemActs w || t.nearRule items w then [] else [(pos, 5)]) ++ t.rulesBad items (pos + 1) ws

/-- The writes refused before their values are looked at, with their statuses. -/
def State.preBad (s : State) (forwarded : Bool) (roles : BitVec 8) : Nat → List WItem → List (Nat × Nat)
  | _, [] => []
  | pos, w :: ws =>
    (if s.yelmPre forwarded roles w ≠ 0 then [(pos, s.yelmPre forwarded roles w)] else []) ++ s.preBad forwarded roles (pos + 1) ws

/-- The failure at the lowest position, the first listed of equals. -/
def firstFail (l : List (Nat × Nat)) : Option (Nat × Nat) :=
  l.foldl (fun a x => match a with
    | none => some x
    | some y => if x.1 < y.1 then some x else a) none

/-- Does a yelm fail on a state: its first failing write's position (0xFFFF where the failure belongs to no write) and status, judged on
the state that all its writes leave together (R322, R323)? -/
def State.yelmFails (s : State) (forwarded : Bool) (roles : BitVec 8) (items : List WItem) : Option (Nat × Nat) :=
  let y := s.yelmStore 0 items
  let l := s.preBad forwarded roles 0 items ++ y.2 ++ y.1.rulesBad items 0 items ++ (y.1.yelmActs roles 0 items).2.toList
  match firstFail l with
  | some e => some e
  | none => if items.all (fun w => y.1.itemActs w || y.1.rulesOk w.idx w.sub) then none else some (0xFFFF, 5)

/-- A yelm that does not fail applies in the cycle: its stores, then the acts of its entries other than WO (R323). -/
def State.yelmApply (s : State) (roles : BitVec 8) (items : List WItem) : State :=
  let t := (s.yelmStore 0 items).1
  t.yelmDo roles (fun w => !t.actsAfter w) items

/-- The check of a yelm at its commit, on the present state with every pending boundary write. -/
def State.yelmCheck (s : State) (roles : BitVec 8) (items : List WItem) : Option (Nat × Nat) := s.viewed.yelmFails false roles items

end Sys2Proof.Machine
end

