-- ==== Sys2Proof/Machine/Check.lean ====
section
/-! DEFINITION. The check values: safety parameter set, group configuration, pair configuration (R256, R290, R295), and the
persistent stores (R257, R258, R306). -/

namespace Sys2Proof.Machine

/-- The safety parameter set (Table SF-6) in ascending order: index and subindex. -/
def safetyMembers : List (Nat × Nat) :=
  [(0x2000, 4)] ++
  (List.range 6).flatMap (fun i => [(0x4001 + i, 1), (0x4001 + i, 2), (0x4001 + i, 3)]) ++
  (List.range 8).map (fun i => (0x4100 + i, 1)) ++
  (List.range 8).flatMap (fun c => (List.range 6).map (fun j => (0x4110 + c, j + 1)))

/-- The safety check value of the set in force (R256). -/
def State.safetyCheck (s : State) : Nat := entryCheck (s.rd 0x4000 3) (safetyMembers.map (fun m => (m.1, m.2, s.rd m.1 m.2))) []

/-- The pair-shared entries of access RWB or RWS that PAIR_CHK covers, ascending (R290). -/
def pairEntries : List (Nat × Nat) :=
  ((List.range 0x2200).map (fun i => 0x2000 + i) ++ [0x5000]).flatMap (fun idx =>
    (List.range (if idx = 0x3201 then 129 else 49)).filterMap (fun sub =>
      match entryRow idx sub with
      | some r =>
        if (r.acc == EAcc.rwb || r.acc == EAcc.rws) && pairShared idx sub && !r.ctr then some (idx, sub) else none
      | none => none))

/-- PAIR_CHK, the pair configuration check value (R290). -/
def State.pairCheck (s : State) : Nat :=
  entryCheck 1 (pairEntries.map (fun m => (m.1, m.2, s.rd m.1 m.2)))
    ((List.range 16).flatMap (fun e => beBytes (((s.engine e).pkg.map (·.pcrc)).getD 0) 4))

/-- Recompute the check values that the dictionary shows. -/
def State.refreshChecks (s : State) : State := (s.wr 0x4000 1 s.safetyCheck).wr 0x5100 2 s.groupCheck

/-! ## Persistent stores -/

/-- Is an entry kept in the dictionary's persistent store: persistent, and the mandate epoch (R273, R283, R306)? -/
def persists (key : Nat) : Bool :=
  (entryRow (key / 256) (key % 256)).any (fun r => r.pers == 1) || key == ekey 0x5000 1 || key == ekey 0x5000 4

/-- Is an entry one of the rainflow bins and counts, which are saved every hour and at each entry to BLOCKED only (R222)? -/
def rainKey (key : Nat) : Bool := decide (0x6A00 ≤ key / 256 ∧ key / 256 < 0x6AC0 ∧ 7 ≤ key % 256 ∧ key % 256 ≤ 8)

/-- The entries that a save writes: every persistent entry that differs from its default, the rainflow bins as they were
last saved unless a save of them is due. -/
def State.savedEntries (s : State) : Tab Nat :=
  s.reg.od.filter (fun e => persists e.1 && !rainKey e.1) ++
    (if s.evr.rainDue then s.reg.od else s.evr.copy1.ents).filter (fun e => rainKey e.1)

/-- The exported variables that the package marks persistent are saved with the dictionary; they stand in the CSM. The
store holds each value plus one, so that a saved 0 differs from nothing saved. -/
def State.savedExports (s : State) : Tab Nat :=
  s.exports.foldl (fun t x => if x.persist = 1 then Tab.set 0 (ekey x.idx x.sub) (s.readExport x + 1) t else t) []

/-- Does a copy's CRC-32C hold (R306)? -/
def StoreCopy.ok (c : StoreCopy) : Bool := decide (c.crc = storeCrc c.fmt c.seq c.conf c.ents)

/-- A copy that is being written: its CRC-32C does not hold. -/
def StoreCopy.torn (c : StoreCopy) : StoreCopy := { c with crc := storeCrc c.fmt c.seq c.conf c.ents + 1 }

/-- Does copy 2 of each store stand in the format of the image before, its confirmation pending (R356)? -/
def State.oldCopy (s : State) : Bool := s.fw.confirming && s.setFmt != s.evr.copy2.fmt

/-- The unit that a save writes: the persistent entries as they are, in the format in force (R306, R356). -/
def State.saveUnit (s : State) : StoreCopy :=
  StoreCopy.of s.setFmt (Nat.max s.evr.copy1.seq s.evr.copy2.seq + 1) 0 (s.savedEntries ++ s.savedExports)

/-- Save the persistent entries into both copies at once; while MRAM writes are forbidden the unit waits (R306, R389). While a confirmation
is pending after a migration copy 2 keeps the settings of the old image (R356). -/
def State.saveStores (s : State) : State :=
  if s.mramLock then { s with evr.storeWait := true }
  else
    let u := s.saveUnit
    let e := { s.evr with copy1 := u, copy2 := if s.oldCopy then s.evr.copy2 else u, saving := none, storeWait := false, rainDue := false }
    { s with evr := e }

/-- Load a store into the dictionary. -/
def State.loadStore (s : State) (t : Tab Nat) : State :=
  t.foldl (fun s e => if persists e.1 then s.wr (e.1 / 256) (e.1 % 256) e.2 else s) s

/-- The members of the safety set as the store keeps them. -/
def State.safetyEntries (s : State) : Tab Nat :=
  s.reg.od.filter (fun e => safetyMembers.any (fun m => decide (ekey m.1 m.2 = e.1)))

/-- Save the safety set with a confirmation into both copies of the safety parameter store (R257), copy 2 under R356; while MRAM writes
are forbidden the save waits (R389). -/
def State.saveSafety (s : State) (conf : Nat) : State :=
  if s.mramLock then { s with saf.safWait := true }
  else
    let u := StoreCopy.of s.setFmt (Nat.max s.saf.copy1.seq s.saf.copy2.seq + 1) conf s.safetyEntries
    let x := { s.saf with copy1 := u, copy2 := if s.oldCopy then s.saf.copy2 else u, safWait := false }
    { s with saf := x }

/-- Entries as the running image's migration leaves them: those of the safety set change where its header says so (FLAGS[0] SMIG; R356). -/
def State.migrated (s : State) (t : Tab Nat) : Tab Nat :=
  if s.runSlot.hdr.any (·.smig) then
    t.map (fun e => if safetyMembers.any (fun m => decide (ekey m.1 m.2 = e.1)) then
      (e.1, Sys2Proof.Config.migrated s.setFmt e.1 e.2 % 2 ^ regBits e.1) else e)
  else t

/-- Every member at its default (R258). -/
def State.safetyDefaults (s : State) : State :=
  safetyMembers.foldl (fun s m => s.wr m.1 m.2 (regDefault (ekey m.1 m.2))) s

end Sys2Proof.Machine
end

