-- ==== Sys2Proof/Machine/HostCmd.lean ====
section
/-! DEFINITION. A host's single writes with an effect of their own: requested states, acknowledgements, latches, releases,
forces, steps, swaps, blocks, recorder, images and lifecycle. Each is a WRITE of one entry by a session, checked as every
item is (R305, R307, R319), and acts as its own rule says. -/

namespace Sys2Proof.Machine

/-- R28: 0x1001.02 = 0x04. -/
def execPrepare (sess : Fin 40) (s : State) : Host.Outcome State Fault Refusal := .next (s.hostSet sess 0x1001 2 4)

/-- R24, R31: 0x1001.02 = 0x05. -/
def execDeblock (sess : Fin 40) (s : State) : Host.Outcome State Fault Refusal := .next (s.hostSet sess 0x1001 2 5)

/-- R23: 0x1001.02 = 0x03 in READY, RUN and COAST. -/
def execBlockRequest (sess : Fin 40) (s : State) : Host.Outcome State Fault Refusal := .next (s.hostSet sess 0x1001 2 3)

/-- R25, R270: 0x1001.02 = 0x03 in SAFE. -/
def execAcknowledge (sess : Fin 40) (s : State) : Host.Outcome State Fault Refusal := .next (s.hostSet sess 0x1001 2 3)

/-- R23: 0x1001.02 = 0x08. -/
def execSleepRequest (sess : Fin 40) (s : State) : Host.Outcome State Fault Refusal := .next (s.hostSet sess 0x1001 2 8)

/-- R257: 0x4000.02 = `v`. -/
def execSafetyConfirmation (sess : Fin 40) (v : BitVec 32) (s : State) : Host.Outcome State Fault Refusal :=
  .next (s.hostSet sess 0x4000 2 v.toNat)

/-- R263: the force bits of class `cls`. -/
def execForceBitWrite (sess : Fin 40) (cls : Fin 16) (v : BitVec 16) (s : State) : Host.Outcome State Fault Refusal :=
  .next (s.hostSet sess 0x4203 (cls + 1) v.toNat)

/-- R268: the acknowledgement of class `cls`. -/
def execFaultAcknowledge (sess : Fin 40) (cls : Fin 16) (v : BitVec 16) (s : State) : Host.Outcome State Fault Refusal :=
  .next (s.hostSet sess 0x4204 (cls + 1) v.toNat)

/-- R269: 0x4200.03 = `v`. -/
def execLadderRelease (sess : Fin 40) (v : BitVec 8) (s : State) : Host.Outcome State Fault Refusal :=
  .next (s.hostSet sess 0x4200 3 v.toNat)

/-- R233: 0x2790.02 = `v`. -/
def execTripLatchClear (sess : Fin 40) (v : BitVec 8) (s : State) : Host.Outcome State Fault Refusal :=
  .next (s.hostSet sess 0x2790 2 v.toNat)

/-- R233: 0x2790.04 = `v`. -/
def execComparatorLatchClear (sess : Fin 40) (v : BitVec 8) (s : State) : Host.Outcome State Fault Refusal :=
  .next (s.hostSet sess 0x2790 4 v.toNat)

/-- R214: the bypassed-cells map of string `st`, bit per index. -/
def execBypassMapWrite (sess : Fin 40) (st : Fin 6) (v : BitVec 96) (s : State) : Host.Outcome State Fault Refusal :=
  .next (s.hostSet sess (0x2100 + st) 12 (mapOfBits v))

/-- R146: the status of a node leg (0x2400+slot.10+leg), or of a local leg (0x2600+leg.03). -/
def execLegStatusClear (sess : Fin 40) (loc : Bool) (slot : Fin 384) (leg : Fin 12) (v : BitVec 16) (s : State) :
    Host.Outcome State Fault Refusal :=
  .next (if loc then s.hostSet sess (0x2600 + leg) 3 v.toNat else s.hostSet sess (0x2400 + slot) (16 + leg) v.toNat)

/-- R33: 0 to a counter; an entry that is no counter is not this command's. -/
def execCounterClear (sess : Fin 40) (idx sub : Nat) (s : State) : Host.Outcome State Fault Refusal :=
  .next (if (entryRow idx sub).any (·.ctr) then s.hostSet sess idx sub 0 else s)

/-- R282: 0x5000.02 = 1. -/
def execSwitchOverRequest (sess : Fin 40) (s : State) : Host.Outcome State Fault Refusal := .next (s.hostSet sess 0x5000 2 1)

/-- R299: 0x5100.06 = 1. -/
def execGroupBlockRequest (sess : Fin 40) (s : State) : Host.Outcome State Fault Refusal := .next (s.hostSet sess 0x5100 6 1)

/-- R299, R302: 0x5100.06 = 2. -/
def execSystemBlockRequest (sess : Fin 40) (s : State) : Host.Outcome State Fault Refusal := .next (s.hostSet sess 0x5100 6 2)

/-- R187: SWAP of engine `e`. -/
def execSwapRequest (sess : Fin 40) (e : Fin 16) (s : State) : Host.Outcome State Fault Refusal :=
  .next (s.hostSet sess (0x3010 + e) 1 1)

/-- R187: bytes of the inactive coefficient bank of engine `e`, from `offset` on. -/
def execInactiveBankWrite (sess : Fin 40) (e : Fin 16) (offset : Nat) (bytes : List Byte) (s : State) :
    Host.Outcome State Fault Refusal :=
  .next (s.hostWrite sess ⟨0x3010 + e, 2, 11, offset, bytes.length, bytesNat bytes⟩)

/-- R117: a step of time base `b` in ns. -/
def execTimeBaseStep (sess : Fin 40) (b : Fin 4) (step : Int) (s : State) : Host.Outcome State Fault Refusal :=
  .next (s.hostSet sess (0x1201 + b) 4 (ofSigned 32 step))

/-- R195: trace command 1. -/
def execTraceTriggerCommand (sess : Fin 40) (s : State) : Host.Outcome State Fault Refusal := .next (s.hostSet sess 0x3100 3 1)

/-- R195: trace command 2. -/
def execTraceRearm (sess : Fin 40) (s : State) : Host.Outcome State Fault Refusal := .next (s.hostSet sess 0x3100 3 2)

/-- R306: 0x1002.01 = 1. -/
def execRestorePersistentDefaults (sess : Fin 40) (s : State) : Host.Outcome State Fault Refusal :=
  .next (s.hostSet sess 0x1002 1 1)

/-- R340: 0x6000.0A = 1. -/
def execClearKeepFirst (sess : Fin 40) (s : State) : Host.Outcome State Fault Refusal := .next (s.hostSet sess 0x6000 10 1)

/-- R222: clear command 1 of cell `c`. -/
def execObserverClearMaxTemp (sess : Fin 40) (c : Fin 192) (s : State) : Host.Outcome State Fault Refusal :=
  .next (s.hostSet sess (0x6A00 + c) 11 1)

/-- R222: clear command 2 of cell `c`. -/
def execObserverClearRainflow (sess : Fin 40) (c : Fin 192) (s : State) : Host.Outcome State Fault Refusal :=
  .next (s.hostSet sess (0x6A00 + c) 11 2)

/-- R307: one item of a WRITE. -/
def execDictWrite (sess : Fin 40) (w : WItem) (s : State) : Host.Outcome State Fault Refusal := .next (s.hostWrite sess w)

/-- R351: 0x1410.01 = 1. -/
def execActivate (sess : Fin 40) (s : State) : Host.Outcome State Fault Refusal := .next (s.hostSet sess 0x1410 1 1)

/-- R358: 0x1410.03 = 1. -/
def execHealthConfirm (sess : Fin 40) (s : State) : Host.Outcome State Fault Refusal := .next (s.hostSet sess 0x1410 3 1)

/-- R365: 0x1400.04 = 2. -/
def execLifecycleDeploy (sess : Fin 40) (s : State) : Host.Outcome State Fault Refusal := .next (s.hostSet sess 0x1400 4 2)

/-- R365: 0x1400.04 = 3. -/
def execLifecycleReturn (sess : Fin 40) (s : State) : Host.Outcome State Fault Refusal := .next (s.hostSet sess 0x1400 4 3)

/-- R366: a debug certificate written to 0x1430.01, with its fields read and its signature checked. -/
def execDebugCertificate (sess : Fin 40) (cert : DebugCert) (s : State) : Host.Outcome State Fault Refusal :=
  .next (if s.sessUp sess then
    (if hasRole (s.sess sess).roles 16 then
      (s.debugCertWrite cert).1.send (.itemStatus sess (s.debugCertWrite cert).2)
     else s.send (.itemStatus sess 3))
   else s)

end Sys2Proof.Machine
end

