-- ==== Sys2Proof/Machine/Sessions.lean ====
section
/-! DEFINITION. Sessions, packages and FILE transfers: how a session ends, the proxy frames, engine packages accepted and loaded,
the bytes of the files a device sends, the checks of an image (R196, R198, R301, R314, R326, R327, R339, R348 to R350). -/

namespace Sys2Proof.Machine

/-! ## Proxy frames (R301, R293) -/

/-- Send a proxy frame, sealed with the next counter value, on both group lanes (R291, R293; log entry 189). -/
def State.sendProxy (s : State) (ptype target entry : Nat) (stag : BitVec 16) (roles : BitVec 8) (tag : BitVec 16)
    (r : Option Reply) (p : Option Pdu) : State :=
  if s.sealing then
    let t := { s with grp.ctrFrame := s.grp.ctrFrame + 1 }
    let m := RidgeMsg.proxy ptype target entry stag roles tag { ctr := t.sealCtr, key := t.fw.groupKey } r p
    (t.ridgeOn 0 t.ridgeHdr m).ridgeOn 1 t.ridgeHdr m
  else s

/-- The entry device closes the proxy sessions of its session `i` (R326). -/
def State.closeProxies (s : State) (i : Nat) : State :=
  (s.sess i).targets.foldl (fun s d => s.sendProxy 3 d s.devid (BitVec.ofNat 16 i) (s.sess i).roles 0 none none) s

/-! ## The end of a session (R314) -/

/-- A FILE transfer of a session is aborted: an image transfer leaves its slot EMPTY (R350). -/
def State.dropTransfer (s : State) (i : Nat) : State :=
  match (s.sess i).file with
  | some f => if f.id = 1 then s.setInactive FwSlot.empty else s
  | none => s

/-- The committed yelms of a session that ends stay queued, their session gone. -/
def State.orphanYelms (s : State) (i : Nat) : State :=
  { s with net.yelms := s.net.yelms.map (fun y => if y.sess = i then { y with alive := false } else y) }

/-- The unit of a session's records: 0 to 7, or 0x80 plus the proxy session (Table EV-3). -/
def sessUnit (i : Nat) : Nat := if i < 8 then i else 0x80 + (i - 8)

/-- What the end of a session does in the device: locks, open yelm, subscriptions and transfer go with it; one event names its
certificate serial, its locks and whether a yelm was discarded. -/
def State.sessionGone (s : State) (i : Nat) : State :=
  let x := s.sess i
  if x.isOpen then
    let t := (s.dropTransfer i).orphanYelms i
    (t.setSess i Session.init).ev 2 8 (sessUnit i) evEnd (x.serial * 512 + 2 * x.locks + (if x.yelm.isSome then 1 else 0))
  else s

/-- A session ends, and its proxy sessions on other devices with it (R326). -/
def State.endSession (s : State) (i : Nat) : State := if (s.sess i).isOpen then (s.closeProxies i).sessionGone i else s

/-- Every session ends, own and proxied. -/
def State.endAllSessions (s : State) : State := forUpTo (fun i s => s.endSession i) 40 s

/-- Every session ends with a reset of the device, which sends nothing (R314). -/
def State.resetSessions (s : State) : State := forUpTo (fun i s => s.sessionGone i) 40 s

/-! ## Engine packages (R196, R198) -/

/-- Does an export lie in the OEM ranges of indices and of the CSM? -/
def exportOk (x : Export) : Bool :=
  decide (0x8000 ≤ x.idx ∧ x.idx ≤ 0xBFFF ∧ 0x10000 ≤ x.csmOff ∧ x.csmOff + exportLen x ≤ 0x400000 ∧ 1 ≤ x.ty ∧ x.ty ≤ 12 ∧ x.acc ≤ 2)

/-- A field of `n` bytes from byte `a` on, most significant byte first. -/
def fieldOf (l : List Byte) (a n : Nat) : Nat := beNat ((l.drop a).take n) 0

/-- An export entry of a package (Table CE-19), 16 bytes. -/
def exportOf (l : List Byte) : Export :=
  { idx := fieldOf l 0 2, sub := fieldOf l 2 1, ty := fieldOf l 3 1, acc := fieldOf l 4 1, persist := fieldOf l 5 1,
    csmOff := fieldOf l 8 4, dflt := fieldOf l 12 4 }

/-- A package as the bytes of its file give it (Table CE-19); none where they end before their PCRC, or hold neither nothing nor a whole
signature after it. -/
def packageOf (l : List Byte) : Option Package :=
  let p := fieldOf l 8 4
  let d := fieldOf l 12 4
  let x := fieldOf l 16 4
  let n := 64 + p + d + 16 * x
  if l.length = n + 4 ∨ l.length = n + 100 then
    some { magicOk := decide (fieldOf l 0 4 = 0x4345504B ∧ fieldOf l 4 2 = 1), engine := fieldOf l 6 2, prog := (l.drop 64).take p,
           data := (l.drop (64 + p)).take d,
           exports := (List.range x).map (fun i => exportOf (l.drop (64 + p + d + 16 * i))),
           mirrorOff := fieldOf l 20 2, mirrorLen := fieldOf l 22 2, build := fieldOf l 24 4, pcrc := fieldOf l n 4,
           pcrcOk := decide (crc32c (l.take n) = fieldOf l n 4), file := l }
  else none

/-- Is a package accepted for engine `e` (R196)? -/
def State.packageOk (s : State) (e : Nat) (p : Package) : Bool :=
  p.magicOk && p.pcrcOk && decide (p.engine = e) &&
  decide (p.prog.length ≤ 131072 ∧ p.prog.length % 16 = 0 ∧ p.data.length ≤ 262144 ∧ p.mirrorLen ≤ 4096 ∧ p.mirrorLen % 4 = 0 ∧
    4 * p.mirrorOff + p.mirrorLen ≤ 262144) &&
  (s.rd 0x1421 1 == 0 || s.packageSigned p) && p.exports.all exportOk &&
  (List.range 16).all (fun d => d == e || (s.engine d).pkg.all (fun q =>
    p.exports.all (fun x => q.exports.all (fun y => !(x.idx == y.idx && x.sub == y.sub))))) &&
  decide (((List.range 16).map (fun d => if d = e then p.mirrorLen else ((s.engine d).pkg.map (·.mirrorLen)).getD 0)).foldl (· + ·) 0
    ≤ 4096)

/-- An export's stored or default value placed in the CSM: the stored value of a persistent one (R198), else the default. -/
def State.placeExport (s : State) (x : Export) : State :=
  let k := Tab.get 0 (ekey x.idx x.sub) s.evr.copy1.ents
  s.putExport x (if x.persist = 0 ∨ k = 0 then exportDflt x else k - 1)

/-- Load a package into its engine: verified, its data in the engine's data memory, its exports at their values (R196). -/
def State.loadPackage (s : State) (e : Nat) (p : Package) : State :=
  let x := s.engine e
  let t := s.setEngine e { x with pkg := some p, verified := true, data := Tab.writeBytes 0 p.data x.data }
  p.exports.foldl State.placeExport t

/-- Accept or refuse a package: status 0x00 or 0x12. The ACTIVE of a pair forwards the bytes of an accepted one, and both members take
it at the boundary named (R289). -/
def State.takePackage (s : State) (e : Nat) (p : Package) : State × Nat :=
  if s.packageOk e p then
    (if s.sys.role = .active then
      ({ s with sys.cfgDue := s.sys.cfgDue ++ [⟨s.clk.tick + 1, s.reg.accSeq, .package e p⟩], reg.accSeq := s.reg.accSeq + 1 } :
        State).forwardCfg 3 (s.clk.tick + 1) e p.file
     else (s.loadPackage e p).certCheck.refreshReady, 0)
  else (s, 0x12)

/-! ## Files that the device sends -/

/-- A trace record's bytes (Table CE-17): header, channels, capture. -/
def traceBytes (r : TraceRec) : List Byte :=
  beBytes r.tick.toNat 4 ++ beBytes r.tb0.toNat 5 ++ beBytes r.state 1 ++ beBytes (bitIf r.incomplete 2 + bitIf r.missed 1 + bitIf r.trigger 0) 2 ++
  beBytes (16 + 4 * r.chans.length + r.caps.length) 4 ++ r.chans.flatMap (fun w => beBytes w.toNat 4) ++ r.caps

/-- The event recorder's file (R339): its header, the keep-first records, the circulating records, each in SEQ order. -/
def State.eventFile (s : State) : List Byte :=
  let h := beBytes 0x45565231 4 ++ beBytes s.devid 2 ++ beBytes (s.rd 0x1000 5) 8 ++ beBytes s.evr.pcc 4 ++ beBytes s.evr.opTime 8 ++
    beBytes s.evr.keepFirst.length 2 ++ beBytes s.evr.circ.length 2 ++ beBytes 0 30
  h ++ beBytes (crc32c h) 4 ++ (bySeq s.evr.keepFirst).flatMap recBytes ++ (bySeq s.evr.circ).flatMap recBytes

/-! ## Images (R348, R349) -/

/-- The image header that the first 512 bytes of a file give (Table FW-2). -/
def imgOf (l : List Byte) : ImgHdr :=
  let raw := beNat (l.take 512) 0
  let k := fieldOf l 33 1
  { fmtOk := decide (fieldOf l 0 4 = 0x4155544D ∧ fieldOf l 4 2 = 1 ∧ fieldOf l 6 1 = 1 ∧ fieldOf l 7 1 < 4 ∧ fieldOf l 25 1 = 0 ∧
      fieldOf l 128 288 = 0),
    target := fieldOf l 8 16, stepping := fieldOf l 24 1, smig := (fieldOf l 7 1).testBit 0, revoke := (fieldOf l 7 1).testBit 1,
    compat := fieldOf l 26 2, version := fieldOf l 28 4, arb := fieldOf l 32 1, sigkey := k,
    sigOk := Sys2Proof.Config.imageSigOk k raw, setfmt := fieldOf l 34 2, ssfmt := fieldOf l 36 2, minset := fieldOf l 38 2,
    plen := fieldOf l 40 4, iv := fieldOf l 44 12, tag := fieldOf l 56 16, pdigest := fieldOf l 72 48, raw := raw }

/-- Does a payload have the digest that a header names (R349, R363)? -/
def digestOk (h : ImgHdr) (p : List Byte) : Bool := decide (Sys2Proof.Config.sha384 p = h.pdigest)

/-- Does a payload decrypt with the tag that a header names (R352, R363)? -/
def gcmOk (h : ImgHdr) (p : List Byte) : Bool := decide (Sys2Proof.Config.gcmTag h.iv (h.raw / 2 ^ 3744) p = h.tag)

/-- Does an image name this device as its target: TARGET the part name padded with zeros to 16 bytes, STEPPING its stepping (R12)? -/
def State.targetIs (s : State) (h : ImgHdr) : Bool := decide (h.target = s.rd 0x1000 2 * 2 ^ 64 ∧ h.stepping = s.rd 0x1000 4)

/-- Checks 1 to 5 of Table FW-3, in order; 0 where all pass. -/
def State.hdrStart (s : State) (h : ImgHdr) : Nat :=
  if h.fmtOk = false then 1
  else if s.targetIs h = false then 2
  else if 1 < h.sigkey ∨ s.rdBit 0x1400 3 h.sigkey then 3
  else if h.sigOk = false then 4
  else if h.arb < s.rd 0x1400 2 then 5
  else 0

/-- The whole of Table FW-3 up to the payload, for a file of `size` bytes. -/
def State.hdrCheck (s : State) (h : ImgHdr) (size : Nat) : Nat :=
  if s.hdrStart h ≠ 0 then s.hdrStart h
  else if h.plen = 0 ∨ 4193792 < h.plen ∨ 512 + h.plen ≠ size then 6
  else if s.setFmt < h.minset then 7
  else 0

/-- Is an image transfer refused (R350, R360)? -/
def State.imageBusy (s : State) : Bool :=
  decide (s.inactiveSlot.status = 5) || s.activating || s.mramLock || s.confPending ||
  (List.range 40).any (fun i => (s.sess i).file.any (fun f => f.id == 1))

end Sys2Proof.Machine
end

