-- ==== Sys2Proof/Machine/Zoa.lean ====
section
/-! DEFINITION. ZOA: the PDUs of a session, replies kept by tag, locks, yelms, subscriptions, FILE transfers, handshakes and the
ends of sessions (R308 to R327). -/

namespace Sys2Proof.Machine

/-! ## PDUs -/

/-- The extended time of a base in ns at the boundary of the tick in progress (R120). -/
def State.tbExt (s : State) (b : Nat) : Nat :=
  let x := s.tbs b
  let now : BitVec 32 := (s.tbVis b).extractLsb' 8 32
  (((x.epoch * 2 ^ 32 + x.last : Nat) : Int) + (now - BitVec.ofNat 32 x.last).toInt).toNat

/-- A scope of Table OD-11. -/
def scopeOk : Scope → Bool
  | .cluster => true
  | .string k => decide (k < 6)

/-- Does a lock request of a session conflict with what another session holds (R318)? -/
def lockConflict (sc : Scope) (o : Session) : Bool :=
  o.lockC || (match sc with
    | .cluster => o.lockS != 0
    | .string k => o.lockS.getLsbD k)

/-- The first other session that holds a conflicting lock. -/
def State.lockHolder (s : State) (i : Nat) (sc : Scope) : Option Nat :=
  (List.range 40).find? (fun j => j != i && (s.sess j).isOpen && lockConflict sc (s.sess j))

/-- A session with a scope granted: the cluster lock replaces its string locks, and its open yelm then uses it. -/
def Session.grant (x : Session) : Scope → Session
  | .cluster => { x with lockC := true, lockS := 0, yelm := x.yelm.map (fun y => { y with scope := .cluster }) }
  | .string k => { x with lockS := x.lockS ||| BitVec.ofNat 6 (2 ^ k) }

/-- LOCK (R318). -/
def State.pduLock (s : State) (i : Nat) (sc : Scope) : State × Reply :=
  if !scopeOk sc then (s, refuse 0x13)
  else if (s.sess i).holds sc then (s, refuse 0)
  else match s.lockHolder i sc with
    | some j => (s, ⟨7, j, []⟩)
    | none => (s.setSess i ((s.sess i).grant sc), refuse 0)

/-- A session without a scope it held, and without an open yelm whose scope it then holds no longer: a yelm of a string scope under the
cluster lock goes with that lock (R320). -/
def Session.drop (x : Session) (sc : Scope) : Session :=
  let z := match sc with
    | .cluster => { x with lockC := false }
    | .string k => { x with lockS := x.lockS &&& ~~~ BitVec.ofNat 6 (2 ^ k) }
  { z with yelm := z.yelm.filter (fun y => z.holds y.scope) }

/-- UNLOCK (R318, R320). -/
def State.pduUnlock (s : State) (i : Nat) (sc : Scope) : State × Reply :=
  if !scopeOk sc then (s, refuse 0x13)
  else if !(s.sess i).holdsAs sc then (s, refuse 8)
  else (s.setSess i ((s.sess i).drop sc), refuse 0)

/-- YELM_OPEN (R321). -/
def State.pduYelmOpen (s : State) (i : Nat) (sc : Scope) : State × Reply :=
  let x := s.sess i
  if !scopeOk sc then (s, refuse 0x13)
  else if x.yelm.isSome then (s, refuse 0xA)
  else if !x.holds sc then (s, refuse 8)
  else
    let id := (s.net.yelmNext + 1) % 65536
    let y : Yelm := { id := id, sess := i, serial := x.serial, roles := x.roles, scope := sc, items := [], target := 0, seq := 0, alive := true }
    let t := { s with net.yelmNext := s.net.yelmNext + 1 }
    (t.setSess i { x with yelm := some y }, ⟨0, id, []⟩)

/-- YELM_ADD (R321). -/
def State.pduYelmAdd (s : State) (i : Nat) (ws : List WItem) : State × Reply :=
  let x := s.sess i
  match x.yelm with
  | none => (s, refuse 0xA)
  | some y =>
    if 1012 < itemBytes ws + 8 * ws.length then (s, refuse 0x13) else
    let r := s.addItems x y ws
    (s.setSess i { x with yelm := some r.1 }, ⟨worst r.2, r.1.items.length, r.2.map resOf⟩)

/-- The ticks that a target lies ahead at least: three full ticks after the check, 32 on a member of a pair (R322). -/
def State.yelmLead (s : State) : Int := if s.paired then 33 else 4

/-- Does a target lie in the window of R322? -/
def State.yelmWindow (s : State) (target : BitVec 32) : Bool :=
  decide (s.yelmLead ≤ tickDiff target s.clk.tick ∧ tickDiff target s.clk.tick ≤ 2 ^ 24)

/-- Queue a committed yelm, forwarded by the ACTIVE of a pair (R289). -/
def State.queueYelm (s : State) (i : Nat) (x : Session) (y : Yelm) (target : BitVec 32) : State :=
  let z := { y with target := target, seq := s.reg.accSeq, roles := x.roles }
  let t := { s with net.yelms := s.net.yelms ++ [z], reg.accSeq := s.reg.accSeq + 1 }
  let t := t.setSess i { x with yelm := none }
  let shared := y.items.filter (fun w => pairShared w.idx w.sub)
  if shared.isEmpty then t else t.forwardCfg 2 target 0 (shared.flatMap wItemBytes)

/-- YELM_COMMIT (R321, R322, R352). -/
def State.pduYelmCommit (s : State) (i : Nat) (target : BitVec 32) : State × Reply :=
  let x := s.sess i
  match x.yelm with
  | none => (s, refuse 0xA)
  | some y =>
    if s.activating then (s, refuse 4)
    else if !s.yelmWindow target then (s, refuse 0xB)
    else if 4 ≤ (s.net.yelms.filter (fun z => z.sess == i && z.alive)).length ∨ 16 ≤ s.net.yelms.length then (s, refuse 9)
    else match s.yelmCheck x.roles y.items with
      | some (pos, st) => (s, ⟨0xC, y.id, [⟨st, 0, 0, pos⟩]⟩)
      | none => (s.queueYelm i x y target, ⟨0x10, y.id, []⟩)

/-- The bytes an item takes in a notification. -/
def State.noteLen (s : State) (i : RItem) : Nat :=
  match s.row i.idx i.sub with
  | some r => if tyBytes r.ty then (if i.maxLen = 0 then r.size - i.offset else Nat.min i.maxLen (r.size - i.offset)) else r.size
  | none => i.maxLen

/-- SUBSCRIBE, open (R325): the first notification is due at the next boundary. -/
def State.pduSubOpen (s : State) (i n period : Nat) (items : List RItem) : State × Reply :=
  let x := s.sess i
  if 15 < n ∨ period = 0 ∨ 65535 < period ∨ period * s.tNs < 1000 * s.rd 0x6100 4 then (s, refuse 5)
  else if 32 < items.length ∨ x.subs.any (fun q => q.num == n) ∨ 16 ≤ x.subs.length ∨ 64 ≤ s.subsOpen ∨
      1012 < 8 + (items.map s.noteLen).foldl (· + ·) 0 then (s, refuse 0xD)
  else
    let q : Subscr := { num := n, period := period, items := items, next := s.clk.tick + 1, held := none }
    (s.setSess i { x with subs := x.subs ++ [q] }, ⟨0, n, (s.readItems .force 1000000 items).map (fun r => resOf r.status)⟩)

/-- SUBSCRIBE, close. -/
def State.pduSubClose (s : State) (i n : Nat) : State × Reply :=
  let x := s.sess i
  if x.subs.any (fun q => q.num == n) then
    (s.setSess i { x with subs := x.subs.filter (fun q => q.num != n) }, ⟨0, n, []⟩)
  else (s, refuse 5)

/-- HEARTBEAT: state, role, tick and the extended TB3. -/
def State.pduHeartbeat (s : State) : Reply :=
  ⟨0, 0, [⟨0, 2, 1, devCode s.sys.dev⟩, ⟨0, 2, 1, roleCode s.sys.role⟩, ⟨0, 4, 4, s.clk.tick.toNat⟩, ⟨0, 5, 8, s.tbExt 3⟩]⟩

/-- A WRITE's items must fit in one PDU. -/
def State.pduWrite (s : State) (i : Nat) (ws : List WItem) : State × Reply :=
  if 1012 < itemBytes ws + 8 * ws.length then (s, refuse 0x13)
  else
    let y := s.writeItems (s.sess i) ws
    (y.1, writeReply y.2)

/-- The execution of a PDU for a session, own or proxied. -/
def State.runPdu (s : State) (i : Nat) : Pdu → State × Reply
  | .read is => (s, s.readReply .force is)
  | .readShadow is => (s, s.readReply .shadow is)
  | .readDesc is => (s, s.readReply .desc is)
  | .write ws => s.pduWrite i ws
  | .lock sc => s.pduLock i sc
  | .unlock sc => s.pduUnlock i sc
  | .yelmOpen sc => s.pduYelmOpen i sc
  | .yelmAdd ws => s.pduYelmAdd i ws
  | .yelmCommit t => s.pduYelmCommit i t
  | .subOpen n p is => s.pduSubOpen i n p is
  | .subClose n => s.pduSubClose i n
  | .heartbeat => (s, s.pduHeartbeat)

/-! ## Requests and replies (R315, R326) -/

/-- The reply kept for a tag. -/
def Session.kept (x : Session) (tag : BitVec 16) : Option Reply := (x.replies.find? (fun r => r.1 == tag)).map (·.2)

/-- Keep a reply: those of the 16 most recent tags stay. -/
def State.keepReply (s : State) (i : Nat) (tag : BitVec 16) (r : Reply) : State :=
  let x := s.sess i
  let l := x.replies ++ [(tag, r)]
  s.setSess i { x with replies := l.drop (l.length - 16) }

/-- A reply to the peer of an own session. -/
def State.sendReply (s : State) (i : Nat) (tag : BitVec 16) (r : Reply) : State := s.sendHost (s.sess i).onEs (fun v => .reply v i tag r)

/-- Answer a request of an own session. -/
def State.answer (_s : State) (i : Nat) (tag : BitVec 16) (y : State × Reply) : State := (y.1.keepReply i tag y.2).sendReply i tag y.2

/-- May a PDU go to another device (R326)? -/
def State.proxyOk (s : State) (i target : Nat) : Bool :=
  !(s.sess i).onEs && s.rdBit 0x5100 8 0 && (s.member target).dig.isSome && s.sealing

/-- A PDU goes to its target in a proxy frame and waits for the answer. -/
def State.proxyOn (s : State) (i : Nat) (tag : BitVec 16) (target : Nat) (p : Pdu) : State :=
  let x := s.sess i
  let x := { x with
    waiting := x.waiting ++ [tag], targets := if x.targets.contains target then x.targets else x.targets ++ [target] }
  (s.setSess i x).sendProxy 0 target s.devid (BitVec.ofNat 16 i) x.roles tag none (some p)

/-- A request of an own session: answered from the kept reply, executed here, or proxied. -/
def State.request (s : State) (i : Nat) (tag : BitVec 16) (target : Nat) (p : Pdu) : State :=
  let x := s.sess i
  if !s.sessUp i then s
  else match x.kept tag with
    | some r => s.sendReply i tag r
    | none =>
      if x.waiting.contains tag then s
      else if target = 0xFFFF ∨ target = s.devid then s.answer i tag (s.runPdu i p)
      else if s.proxyOk i target then s.proxyOn i tag target p
      else s.answer i tag (s, refuse 0xF)

/-- A READ (R316). -/
def execRead (sess : Fin 8) (tag : BitVec 16) (target : Nat) (items : List RItem) (s : State) :
    Host.Outcome State Fault Refusal := .next (s.request sess tag target (.read items))

/-- A READ with DESC: the descriptors of Table OD-12. -/
def execDescRead (sess : Fin 8) (tag : BitVec 16) (target : Nat) (items : List RItem) (s : State) :
    Host.Outcome State Fault Refusal := .next (s.request sess tag target (.readDesc items))

/-- A READ with SHADOW (R304). -/
def execShadowRead (sess : Fin 8) (tag : BitVec 16) (target : Nat) (items : List RItem) (s : State) :
    Host.Outcome State Fault Refusal := .next (s.request sess tag target (.readShadow items))

/-- A WRITE (R317). -/
def execWrite (sess : Fin 8) (tag : BitVec 16) (target : Nat) (items : List WItem) (s : State) :
    Host.Outcome State Fault Refusal := .next (s.request sess tag target (.write items))

/-- LOCK (R318). -/
def execLock (sess : Fin 8) (tag : BitVec 16) (target : Nat) (sc : Scope) (s : State) : Host.Outcome State Fault Refusal :=
  .next (s.request sess tag target (.lock sc))

/-- UNLOCK (R320). -/
def execUnlock (sess : Fin 8) (tag : BitVec 16) (target : Nat) (sc : Scope) (s : State) : Host.Outcome State Fault Refusal :=
  .next (s.request sess tag target (.unlock sc))

/-- YELM_OPEN (R321). -/
def execYelmOpen (sess : Fin 8) (tag : BitVec 16) (target : Nat) (sc : Scope) (s : State) : Host.Outcome State Fault Refusal :=
  .next (s.request sess tag target (.yelmOpen sc))

/-- YELM_ADD (R321). -/
def execYelmAdd (sess : Fin 8) (tag : BitVec 16) (target : Nat) (items : List WItem) (s : State) :
    Host.Outcome State Fault Refusal := .next (s.request sess tag target (.yelmAdd items))

/-- YELM_COMMIT (R322). -/
def execYelmCommit (sess : Fin 8) (tag : BitVec 16) (target : Nat) (tick : BitVec 32) (s : State) :
    Host.Outcome State Fault Refusal := .next (s.request sess tag target (.yelmCommit tick))

/-- SUBSCRIBE, OP 1 (R325). -/
def execSubscribeOpen (sess : Fin 8) (tag : BitVec 16) (target sub period : Nat) (items : List RItem) (s : State) :
    Host.Outcome State Fault Refusal := .next (s.request sess tag target (.subOpen sub period items))

/-- SUBSCRIBE, OP 2 (R325). -/
def execSubscribeClose (sess : Fin 8) (tag : BitVec 16) (target sub : Nat) (s : State) : Host.Outcome State Fault Refusal :=
  .next (s.request sess tag target (.subClose sub))

/-- HEARTBEAT (R314). -/
def execHeartbeat (sess : Fin 8) (tag : BitVec 16) (target : Nat) (s : State) : Host.Outcome State Fault Refusal :=
  .next (s.request sess tag target .heartbeat)

/-! ## Notifications (R323, R325) -/

/-- A notification of a session: to its peer, or for a proxied one to its entry device. -/
def State.notifySess (s : State) (i id : Nat) (r : Reply) : State :=
  if i < 8 then (if s.sessUp i then s.sendHost (s.sess i).onEs (fun v => .notify v i id r) else s)
  else s.sendProxy 2 s.devid (s.sess i).entry (s.sess i).stag (s.sess i).roles (BitVec.ofNat 16 id) (some r) none

/-- The values of a notification: an item that cannot be read is zeros with its VALID bit clear (its status). -/
def State.noteItems (s : State) (items : List RItem) : List ItemRes :=
  (s.readItems .force 1000000 items).map (fun r => if r.status = 0 then r else ⟨r.status, r.ty, r.len, 0⟩)

/-- A subscription that is due at this boundary takes its values; a notification that has not gone by then is not sent (R325). -/
def State.subDue (s : State) (q : Subscr) : Subscr :=
  if tickDiff s.clk.tick q.next < 0 then q
  else { q with next := q.next + BitVec.ofNat 32 q.period, held := some (s.clk.tick, s.noteItems q.items) }

/-- Is a notification given up, the next one of its subscription being due? -/
def State.subMissed (s : State) (q : Subscr) : Bool := decide (0 ≤ tickDiff s.clk.tick q.next) && q.held.isSome

/-- The subscriptions that are due take their values, all of them those of this boundary. -/
def State.subsDue (s : State) : State :=
  forUpTo (fun i t =>
    let x := s.sess i
    if x.subs.isEmpty then t
    else (t.setSess i { x with subs := x.subs.map s.subDue }).countN 0x6100 3 (x.subs.filter s.subMissed).length) 40 s

/-- The notification of a subscription whose values have been taken: it goes, or is skipped. -/
def State.subNotify (s : State) (i n : Nat) (gathered : Bool) : State :=
  let x := s.sess i
  match x.subs.find? (fun q => q.num == n) with
  | none => s
  | some q => match q.held with
    | none => s
    | some v =>
      let t := s.setSess i { x with subs := x.subs.map (fun p => if p.num = n then { p with held := none } else p) }
      if gathered && !s.derated then (t.notifySess i n ⟨0, v.1.toNat, v.2⟩).count 0x6100 2 else t.count 0x6100 3

/-- The notification of a subscription's last boundary goes, or its values could not be gathered (R325). -/
def execSubscriptionNotify (sess : Fin 40) (sub : Fin 16) (gathered : Bool) (s : State) : Host.Outcome State Fault Refusal :=
  .next (s.subNotify sess sub gathered)

/-! ## FILE (R327, R339, R348 to R350) -/

/-- The roles that may transfer a file (Table OD-16). -/
def fileRoles (id : Nat) : Nat := if id = 1 then 20 else if id = 0x21 then 31 else 4

/-- Is there a file of an identifier in a direction? -/
def fileThere (id : Nat) (toDevice : Bool) : Bool :=
  if toDevice then decide (id = 1 ∨ (2 ≤ id ∧ id < 18)) else decide (id = 0x20 ∨ id = 0x21)

/-- Why a transfer is refused; 0 where it opens. -/
def State.fileRefusal (s : State) (x : Session) (id : Nat) (toDevice : Bool) : Nat :=
  if !fileThere id toDevice then 5
  else if hasRole x.roles (fileRoles id) = false then 3
  else if x.file.isSome then 0xD
  else if id = 1 then (if s.imageBusy then 0xD else 0)
  else if id < 18 then (if !s.cfgState then 4 else if s.sys.role = .standby then 0xE else 0)
  else if id = 0x20 then (if s.rdBit 0x3100 4 2 then 0 else 4)
  else 0

/-- The transfer as it opens; a file from the device shows what it holds then. -/
def State.fileNew (s : State) (id : Nat) (toDevice : Bool) (size : Nat) : FileX :=
  { id := id, toDevice := toDevice, size := size, segs := [], hdr := none,
    shot := if id = 0x20 then s.cpu.trace.flatMap traceBytes else if id = 0x21 then s.eventFile else [] }

/-- FILE, OP 1. -/
def State.pduFileOpen (s : State) (i id : Nat) (toDevice : Bool) (size : Nat) : State × Reply :=
  let x := s.sess i
  let st := s.fileRefusal x id toDevice
  if st ≠ 0 then (s, refuse st)
  else
    let t := s.setSess i { x with file := some (s.fileNew id toDevice size) }
    (if id = 1 then t.setInactive { FwSlot.empty with status := 1 } else t, ⟨0, (s.fileNew id toDevice size).shot.length, []⟩)

/-- The bytes received without a gap from segment `k` on, among `n` segments. -/
def runBytes (segs : Tab (List Byte)) : Nat → Nat → List Byte
  | 0, _ => []
  | n + 1, k => if Tab.get [] k segs = [] then [] else Tab.get [] k segs ++ runBytes segs n (k + 1)

/-- The bytes of a file received so far, up to the first segment that is missing. -/
def FileX.bytes (f : FileX) : List Byte := runBytes f.segs (f.segs.length + 1) 0

/-- An image header once its 512 bytes are there: accepted, or the transfer aborted with 0x12 (R348). -/
def State.headerSeen (s : State) (i : Nat) (x : Session) (f : FileX) (seg : Nat) : State × Reply :=
  let h := imgOf f.bytes
  let st := s.hdrCheck h f.size
  let t := s.wr 0x1403 1 st
  if st = 0 then
    (let g := some { f with hdr := some h }
     (t.setSess i { x with file := g }).setInactive { status := 1, hdr := some h, payload := f.bytes.drop 512 }, ⟨0, seg, []⟩)
  else (((t.setSess i { x with file := none }).setInactive FwSlot.empty).secRec 3 evCheck st, ⟨0x12, seg, []⟩)

/-- A segment to the device: stored once, acknowledged again where it comes again; a payload goes into the slot as it arrives (R349). -/
def State.fileIn (s : State) (i : Nat) (x : Session) (f : FileX) (seg : Nat) (bytes : List Byte) : State × Reply :=
  let g := if Tab.get [] seg f.segs = [] then { f with segs := Tab.set [] seg bytes f.segs } else f
  if f.id = 1 ∧ f.hdr = none ∧ 512 ≤ g.bytes.length then s.headerSeen i x g seg
  else
    let t := s.setSess i { x with file := some g }
    (if f.id = 1 ∧ f.hdr ≠ none then t.setInactive { t.inactiveSlot with payload := g.bytes.drop 512 } else t, ⟨0, seg, []⟩)

/-- The transfer that a FILE request names; none where the session runs no transfer of that file. -/
def Session.transfer (x : Session) (id : Nat) : Option FileX := x.file.filter (fun f => f.id == id)

/-- FILE, OP 2: a segment of at most 992 bytes to the device, or from it by number. -/
def State.pduFileData (s : State) (i id seg : Nat) (bytes : List Byte) : State × Reply :=
  let x := s.sess i
  match x.transfer id with
  | none => (s, refuse 5)
  | some f =>
    if f.toDevice then (if 992 < bytes.length then (s, refuse 0x13) else s.fileIn i x f seg bytes)
    else
      let b := (f.shot.drop (992 * seg)).take 992
      (s, ⟨0, seg, [⟨0, 11, b.length, bytesNat b⟩]⟩)

/-- Does a file stand whole: every byte named at its opening, under the CRC-32C that CLOSE carries (R327)? -/
def FileX.whole (f : FileX) (crc : BitVec 32) : Bool := decide (f.bytes.length = f.size ∧ crc32c f.bytes = crc.toNat)

/-- CLOSE of an image: its payload's digest decides between STAGED and EMPTY (R349). -/
def State.closeImage (s : State) (f : FileX) (crc : BitVec 32) : State × Nat :=
  match f.hdr with
  | none => (s.setInactive FwSlot.empty, 0x12)
  | some h =>
    if !f.whole crc then (s.setInactive FwSlot.empty, 0x12)
    else if digestOk h (f.bytes.drop 512) then
      ((s.setInactive { status := 2, hdr := some h, payload := f.bytes.drop 512 }).ev 2 4 0 evState 2, 0)
    else (((s.wr 0x1403 1 8).setInactive FwSlot.empty).secRec 3 evCheck 8, 0x12)

/-- CLOSE of a package: its bytes are read as Table CE-19 lays them out (R196). -/
def State.closePackage (s : State) (f : FileX) (crc : BitVec 32) : State × Nat :=
  if !s.cfgState then (s, 4)
  else if !f.whole crc then (s, 0x12)
  else match packageOf f.bytes with
    | none => (s, 0x12)
    | some q => s.takePackage (f.id - 2) q

/-- FILE, OP 3. -/
def State.pduFileClose (s : State) (i id : Nat) (crc : BitVec 32) : State × Reply :=
  let x := s.sess i
  match x.transfer id with
  | none => (s, refuse 5)
  | some f =>
    let t := s.setSess i { x with file := none }
    let y := if f.id = 1 then t.closeImage f crc
      else if f.toDevice then t.closePackage f crc
      else (t, 0)
    (y.1, refuse y.2)

/-- FILE, OP 4. -/
def State.pduFileAbort (s : State) (i id : Nat) : State × Reply :=
  if ((s.sess i).transfer id).isNone then (s, refuse 5)
  else
    let t := s.dropTransfer i
    (t.setSess i { t.sess i with file := none }, refuse 0)

/-- A FILE request, which is never proxied: one for another device is refused with 0x0F (R326). -/
def State.fileRequest (s : State) (i : Nat) (tag : BitVec 16) (target : Nat) (f : State → State × Reply) : State :=
  let x := s.sess i
  if !s.sessUp i then s
  else match x.kept tag with
    | some r => s.sendReply i tag r
    | none => s.answer i tag (if target = 0xFFFF ∨ target = s.devid then f s else (s, refuse 0xF))

/-- FILE open (R327, R348, R350). -/
def execFileOpen (sess : Fin 8) (tag : BitVec 16) (file : FileRef) (toDevice : Bool) (size : Nat) (s : State) :
    Host.Outcome State Fault Refusal :=
  .next (s.fileRequest sess tag file.target (fun s => s.pduFileOpen sess file.fileId toDevice size))

/-- FILE data. -/
def execFileData (sess : Fin 8) (tag : BitVec 16) (seg : Nat) (bytes : List Byte) (file : FileRef) (s : State) :
    Host.Outcome State Fault Refusal :=
  .next (s.fileRequest sess tag file.target (fun s => s.pduFileData sess file.fileId seg bytes))

/-- FILE close. -/
def execFileClose (sess : Fin 8) (tag : BitVec 16) (target fileId : Nat) (crc : BitVec 32) (s : State) :
    Host.Outcome State Fault Refusal := .next (s.fileRequest sess tag target (fun s => s.pduFileClose sess fileId crc))

/-- FILE abort. -/
def execFileAbort (sess : Fin 8) (head : FileHead) (s : State) : Host.Outcome State Fault Refusal :=
  .next (s.fileRequest sess head.tag head.file.target (fun s => s.pduFileAbort sess head.file.fileId))

/-! ## Handshakes and ends (R310 to R314) -/

/-- Is a handshake heard: the runtime up, not in the activation pause, and the datagram one that reaches the device (R309, R310)? -/
def State.portHeard (s : State) (v : HostVia) (addr : Nat) : Bool := s.up && !s.fw.pause && s.reaches v addr

/-- Is PTP_LOCK set (Table TM-5)? -/
def State.ptpLock (s : State) : Bool := s.rdBit 0x1200 5 3

/-- Does a chain end at a trust anchor: one of the four provisioned, or the provisioning anchor of the ROM until the device is Deployed
(R311, Tables FW-1 and FW-9)? -/
def State.chainTrusted (s : State) (anchorProvisioning : Bool) (c : ClientChain) : Bool :=
  c.ok && (if anchorProvisioning then decide (s.fw.lifecycle ≤ 1)
    else c.root != 0 && (List.range 4).any (fun i => s.rd 0x1420 (3 + i) == c.root))

/-- Does a client's handshake authenticate (R311, R312)? The device itself needs its identity key for it (Table FW-1). -/
def State.clientOk (s : State) (roles : BitVec 8) (anchorProvisioning : Bool) (chain : ClientChain) (suiteOk validNow fullHandshake : Bool) :
    Bool :=
  s.fw.idKey && s.chainTrusted anchorProvisioning chain && suiteOk && fullHandshake && roles.toNat % 32 != 0 && (!s.ptpLock || validNow)

/-- A refused handshake: alert, counter and security record, whose data carry the peer address and the first 4 of the 20 bytes of the
certificate serial (R330, the chapter's example). -/
def State.refuseClient (s : State) (onEs : Bool) (addr port serial : Nat) (code : DtlsAlert) : State :=
  ((s.sendHost onEs (fun v => .alert v addr port code)).count 0x1110 4).secRec 3 evRefused (addr * 2 ^ 32 + bitsN serial 159 128)

/-- A session opens in a free place. -/
def State.openSession (s : State) (i : Nat) (onEs : Bool) (addr port : Nat) (roles : BitVec 8) (serial : Nat) : State :=
  let t := s.setSess i { Session.init with
    isOpen := true, addr := addr, port := port, onEs := onEs, roles := roles &&& 0x1F, serial := serial }
  if s.ptpLock then t else t.ev 2 8 (sessUnit i) evCheck 0

/-- The session of a peer address and port ends when the peer shakes hands anew. -/
def State.endPeer (s : State) (addr port : Nat) : State :=
  match (List.range 8).find? (fun i => (s.sess i).isOpen && (s.sess i).addr == addr && (s.sess i).port == port) with
  | some i => s.endSession i
  | none => s

/-- A client's DTLS handshake (R311 to R313). -/
def execDtlsHandshake (via : HostVia) (addr port : Nat) (roles : BitVec 8) (serial : Nat) (anchorProvisioning : Bool) (chain : ClientChain)
    (suiteOk validNow fullHandshake : Bool) (s : State) : Host.Outcome State Fault Refusal :=
  let onEs := via.port == .es
  .next (if !s.portHeard via addr then s
    else if !s.clientOk roles anchorProvisioning chain suiteOk validNow fullHandshake then s.refuseClient onEs addr port serial .refused
    else
      let t := s.endPeer addr port
      match (List.range 8).find? (fun i => !(t.sess i).isOpen) with
      | some i => t.openSession i onEs addr port roles serial
      | none => t.refuseClient onEs addr port serial .internalError)

/-- The session timeout has elapsed (R314). -/
def execSessionTimeout (sess : Fin 8) (s : State) : Host.Outcome State Fault Refusal :=
  .next (if (s.sess sess).isOpen then (s.endSession sess).count 0x1110 5 else s)

/-- The peer closes its session (R314). -/
def execSessionClose (sess : Fin 8) (s : State) : Host.Outcome State Fault Refusal :=
  .next (if s.sessUp sess then s.endSession sess else s)

end Sys2Proof.Machine
end

