-- ==== Sys2Proof/Machine/Clocks.lean ====
section
/-! DEFINITION. Time bases, clock synthesis, timing outputs and compare channels (R113 to R120, R131 to R142). -/

namespace Sys2Proof.Machine

/-! ## Time bases at a boundary (R113 to R117) -/

/-- Nominal increment. -/
def incNominal : Nat := 0xCCCCCC

/-- Time-base clock cycles from an accumulator's present value until it reaches a time. -/
def cyclesTo (acc : BitVec 56) (inc : Nat) (target : BitVec 40) : Nat :=
  let d := ((target ++ (0 : BitVec 16)) - acc).toInt
  if d ≤ 0 ∨ inc = 0 then 0 else (d.toNat + inc - 1) / inc

/-- The active increment of a base. -/
def State.incOf (s : State) (b : Nat) : Nat := s.rd (0x1201 + b) 3

/-- A base `n` cycles on. -/
def State.tbRun (s : State) (n b : Nat) : State :=
  let x := s.tbs b
  s.setTb b { x with acc := x.acc + BitVec.ofNat 56 (n * s.incOf b) }

/-- All bases run on to the boundary that TB0 reaches next (R115, R116). -/
def State.tbAdvance (s : State) : State :=
  let n := cyclesTo (s.tbs 0).acc (s.incOf 0) s.clk.bnd
  forUpTo (fun b s => s.tbRun n b) 4 s

/-- Time-base clock cycles from the boundary of the tick in progress to an instant, in ns of TB0 after it. -/
def State.cyclesAt (s : State) (ns : Nat) : Nat :=
  cyclesTo (s.tbs 0).acc (s.incOf 0) (s.clk.bnd + BitVec.ofNat 40 (256 * ns))

/-- A base at an instant of the tick in progress, in ns of TB0 after its boundary. -/
def State.tbAt (s : State) (b ns : Nat) : BitVec 40 :=
  ((s.tbs b).acc + BitVec.ofNat 56 (s.cyclesAt ns * s.incOf b)).extractLsb' 16 40

/-- The increment that a base is to take at this boundary: its last one while it runs free (R118), else the pending one, unless its
mode holds it (R119, Table TM-3). -/
def State.incWanted (s : State) (b : Nat) : Nat :=
  let p := s.rd (0x1201 + b) 2
  if s.rdBit (0x1201 + b) 7 3 then s.incOf b
  else if s.tbAuto b then p
  else if s.tbMode b = 1 then incNominal
  else if b = 0 ∧ s.tbMode b = 2 then s.incOf 1
  else p

/-- The increment moved towards a target by at most `lim`. -/
def towards (lim cur want : Nat) : Nat :=
  if want ≤ cur + lim ∧ cur ≤ want + lim then want else if cur < want then cur + lim else cur - lim

/-- A base's increment at a boundary, with LIMIT (R114). -/
def State.tbInc (s : State) (b : Nat) : State :=
  let w := s.incWanted b
  let n := if b ≤ 1 then towards 4 (s.incOf b) w else w
  (s.wr (0x1201 + b) 3 n).wrBit (0x1201 + b) 7 2 (n != w)

/-- Does the host, as the owner of a base in MANUAL, give it an increment at this boundary, whose settings have written the entries
`ks`? -/
def State.tbGiven (s : State) (ks : List Nat) (b : Nat) : Bool :=
  !s.tbAuto b && s.tbMode b == 0 && ks.contains (ekey (0x1201 + b) 2)

/-- FREERUN ends at the boundary after a change of mode or the end of an automatic one where the written mode gives the increment
itself, and in MANUAL with the host's next increment (R118, R119). -/
def State.tbFree (s : State) (ks : List Nat) (b : Nat) : State :=
  let own := !s.tbAuto b && (s.tbMode b == 1 || (b == 0 && s.tbMode b == 2))
  if own || s.tbGiven ks b then s.wrBit (0x1201 + b) 7 3 false else s

/-- Has the source of a base's rate changed with its entry: another mode, or another engine in ENGINE mode? -/
def State.tbMoved (s o : State) (b : Nat) : Bool :=
  s.tbMode b != o.tbMode b || (b == 2 && s.tbMode 2 == 4 && bitsN (s.rd 0x1203 1) 7 4 != bitsN (o.rd 0x1203 1) 7 4)

/-- Has a leader that the system reference steered lost it with this boundary, the first without a message in 3 ticks (R118, R124)? -/
def State.refLost (s : State) : Bool :=
  s.grouped && s.grp.leader == s.devid && s.grp.refAt.any (fun t => tickDiff s.clk.tick t == 4)

/-- A base's increment at a boundary; one whose source has changed or vanished runs free (R118), unless the host has given it the next
increment with the change (R114). -/
def State.tbIncAt (s o : State) (ks : List Nat) (b : Nat) : State :=
  if (s.tbMoved o b && !s.tbAuto b && !s.tbGiven ks b) || (b == 1 && s.refLost) then s.freerun b else (s.tbFree ks b).tbInc b

/-- The increments that become active at a boundary, the settings of the boundary, `ks`, among them (R114). -/
def State.tbIncs (s o : State) (ks : List Nat) : State :=
  let s := if s.tb1Steered && s.grp.tb1At.any (fun t => decide (3 < tickDiff s.clk.tick t)) then s.freerun 1 else s
  forUpTo (fun b s => s.tbIncAt o ks b) 4 s

/-- A step of a base at a boundary: its accumulator, the epoch word, and for TB0 the boundary schedule (R117, R120). -/
def State.tbApplyStep (s : State) (b : Nat) : State :=
  let x := s.tbs b
  let s := s.wrBit (0x1201 + b) 7 1 false
  if x.stepPend = 0 then s
  else
    let e := (((s.tbExt b : Nat) : Int) + x.stepPend) % 18446744073709551616
    let y := { x with acc := x.acc + BitVec.ofInt 56 (x.stepPend * 16777216), stepPend := 0,
                      epoch := e.toNat / 4294967296, last := e.toNat % 4294967296 }
    let s := s.setTb b y
    if b = 0 then { s with clk.bnd := tbAdd s.clk.bnd (256 * x.stepPend) } else s

/-- The sets of a leg, whose anchors are stamps, seen from a boundary that a step of TB0 has moved by `d`. -/
def LegB.reanchor (d : Int) (l : LegB) : LegB :=
  { l with
    port := l.port.map (·.shift d), portLate := l.portLate.map (fun x => (x.1.shift d, x.2)), inForce := l.inForce.map (·.shift d),
    next := l.next.map (fun x => (x.1.shift d, x.2)),
    coastPort := l.coastPort.map (fun c => { c with anchor := c.anchor - d }),
    coastLate := l.coastLate.map (fun c => { c with anchor := c.anchor - d }),
    coastSet := l.coastSet.map (fun c => { c with anchor := c.anchor - d }),
    pat := l.pat.map (fun q => { q with anchor := q.anchor - d }) }

/-- The lowest increment of a base's range (Table TM-4). -/
def incLow (b : Nat) : Nat := if b ≤ 1 then 0xCCCBC0 else if b = 2 then 0x999999 else 0xCCC250
/-- The highest increment of a base's range. -/
def incHigh (b : Nat) : Nat := if b ≤ 1 then 0xCCCDD8 else if b = 2 then 0x1000000 else 0xCCD748

/-- A servo of the runtime writes a pending increment of a base: a value that the manual leaves to the servo, within the
range of Table TM-4; FREERUN ends with it (R118). -/
def State.servo (s : State) (b : Nat) : State :=
  let n := incLow b + Sys2Proof.Config.freeNat s.fresh % (incHigh b - incLow b + 1)
  ((s.useFresh).wr (0x1201 + b) 2 n).wrBit (0x1201 + b) 7 3 false

/-- One base read by SC0: its epoch word, last value and extended time (R120). -/
def State.tbRead (s : State) (b : Nat) : State :=
  let x := s.tbs b
  let now := ((s.tbVis b).extractLsb' 8 32).toNat
  let e := if now < x.last then (x.epoch + 1) % 4294967296 else x.epoch
  (s.setTb b { x with epoch := e, last := now }).wr (0x1201 + b) 5 (e * 4294967296 + now)

/-! ## Compare channels (Table TM-14, R142) -/

/-- The base of a compare channel. -/
def State.cmpBase (s : State) (c : Nat) : Nat := bitsN (s.rd (0x1240 + c) 1) 14 13

/-- The extended time of a base at the boundary of the tick in progress, in 1/256 ns. -/
def State.tbExt256 (s : State) (b : Nat) : Int := ((256 * s.tbExt b + (s.tbVis b).toNat % 256 : Nat) : Int)

/-- The extended time of a base at an instant of the tick in progress, in 1/256 ns: at its own rate, what lies below 1/256 ns of its
accumulator carried. -/
def State.tbExtAt (s : State) (b ns : Nat) : Int :=
  s.tbExt256 b + ((((s.tbs b).acc.toNat % 65536 + s.cyclesAt ns * s.incOf b) / 65536 : Nat) : Int)

/-- Arm a channel where its target lies less than 2 s ahead (R142). -/
def State.cmpArm (s : State) (c : Nat) : State :=
  match Tab.get none c s.clk.cmpTgt with
  | none => s
  | some t => { s with clk.cmpArmed := Tab.set false c (decide (t - s.tbExt256 (s.cmpBase c) < 512000000000)) s.clk.cmpArmed }

/-- A target in force at the boundary where its write applies: the extended time within half the wrap of the base. -/
def State.cmpTake (s : State) (c : Nat) : State :=
  let b := s.cmpBase c
  let t := s.tbExt256 b + tbDiff (BitVec.ofNat 40 (s.rd (0x1240 + c) 2)) (s.tbVis b)
  ({ s with clk.cmpTgt := Tab.set none c (some t) s.clk.cmpTgt } : State).cmpArm c

/-- A step of a channel's base: one that has carried it past the target arms the channel, whose match falls on this boundary; one that
has put the target 2 s or more ahead disarms it (R142). -/
def State.cmpStepped (s : State) (c : Nat) : State :=
  match Tab.get none c s.clk.cmpTgt with
  | none => s
  | some t =>
    let d := t - s.tbExt256 (s.cmpBase c)
    let b := if d ≤ 0 then true else if 512000000000 ≤ d then false else Tab.get false c s.clk.cmpArmed
    { s with clk.cmpArmed := Tab.set false c b s.clk.cmpArmed }

/-- The steps of all bases, and what they do to the compare channels; stamps of TB0 that the device keeps move with a step of TB0. -/
def State.tbSteps (s : State) : State :=
  let d := 256 * (s.tbs 0).stepPend
  let t := forUpTo (fun b s => s.tbApplyStep b) 4 s
  let t := forUpTo (fun c t => if (s.tbs (s.cmpBase c)).stepPend = 0 then t else t.cmpStepped c) 8 t
  { t with
    clk.moved := d,
    fld.legs := if d = 0 then t.fld.legs else Tab.mapV LegB.init (LegB.reanchor d) t.fld.legs,
    fld.strings := if d = 0 then t.fld.strings
      else Tab.mapV StringSt.init (fun x => { x with coastT0 := x.coastT0.map (fun c => tbAdd c d) }) t.fld.strings,
    fld.localCoastT0 := t.fld.localCoastT0.map (fun c => tbAdd c d) }

/-- The time bases at a boundary: latched, then the steps apply. -/
def State.tbBoundary (s : State) : State := s.tbAdvance.tbSteps

/-- How far a base runs within the tick in progress, in 1/256 ns. -/
def State.tbSpan (s : State) (b : Nat) : Int :=
  ((cyclesTo (s.tbs 0).acc (s.incOf 0) (s.clk.bnd + BitVec.ofNat 40 s.tTb) * s.incOf b / 65536 : Nat) : Int)

/-! ## Clock sources (R131 to R135, R137, Table TM-5) -/

/-- The references in use in order of priority: a STANDBY puts the recovered Spar clock first, any other role leaves it out
(R131). -/
def State.refList (s : State) : List Nat :=
  let v := s.rd 0x1210 1
  (if s.sys.role = .standby then [4] else []) ++
    [bitsN v 15 12, bitsN v 11 8, bitsN v 7 4, bitsN v 3 0].filter (fun c => c != 0 && c != 4)

/-- Is a reference valid? -/
def State.refValid (s : State) (c : Nat) : Bool := s.rdBit 0x1210 7 c

/-- The highest valid reference of the list; 0 for none. -/
def State.bestRef (s : State) : Nat := (s.refList.find? s.refValid).getD 0

/-- The reference that the ADPLL follows. -/
def State.adpllRef (s : State) : Nat := bitsN (s.rd 0x1210 6) 3 0

/-- Let the ADPLL follow a reference. -/
def State.setRef (s : State) (c : Nat) : State := s.wr 0x1210 6 (putBitsN (s.rd 0x1210 6) 3 0 c)

/-- Is internal clocking on the fall-back PLL? -/
def State.onFallback (s : State) : Bool := s.rdBit 0x1200 5 5

/-- The reference of the fall-back PLL: REFIN or REFIN2, the higher valid one of the list (R134). -/
def State.fallbackRef (s : State) : Nat := ((s.refList.filter (fun c => c == 1 || c == 2)).find? s.refValid).getD 0

/-- Does the ADPLL (0) or the fall-back (1) hold lock and reference? -/
def State.srcGood (s : State) (k : Nat) : Bool :=
  if k = 0 then s.rdBit 0x1210 6 7 && s.adpllRef != 0 else s.rdBit 0x1211 1 7 && s.rd 0x1211 1 % 16 != 0

/-- Since when the two PLLs have held lock and reference. -/
def State.srcTimes (s : State) : State :=
  let f (k : Nat) (t : Tab (Option Nat)) : Tab (Option Nat) :=
    Tab.set none k (if s.srcGood k then some ((Tab.get none k t).getD s.evr.opTime) else none) t
  { s with clk.srcSince := f 1 (f 0 s.clk.srcSince) }

/-- Has a PLL held lock and reference for 100 ms (R141)? -/
def State.srcLong (s : State) (k : Nat) : Bool := (Tab.get none k s.clk.srcSince).any (fun t => decide (t + 100000 ≤ s.evr.opTime))

/-- PLL_LOCK, REF_OK, HOLDOVER and TIMING_DEGRADED as they follow; each time the last one sets it is reported (R137). -/
def State.refreshTiming (s : State) : State :=
  let was := s.rdBit 0x1200 5 7
  let hold := s.rdBit 0x1210 6 6
  let now := hold || s.onFallback
  let s := s.wr 0x1211 1 (putBitsN (s.rd 0x1211 1) 3 0 s.fallbackRef)
  let s := s.wrBit 0x1200 5 0 (if s.onFallback then s.rdBit 0x1211 1 7 else s.rdBit 0x1210 6 7)
  let s := s.wrBit 0x1200 5 1 (s.refList.any s.refValid)
  let s := ((s.wrBit 0x1200 5 6 hold).wrBit 0x1200 5 7 now).srcTimes
  if now && !was then (s.raise 0xE0).ev 3 9 0 evWarn 0 else if was && !now then s.unraise 0xE0 else s

/-- The ADPLL enters holdover (R133). -/
def State.holdover (s : State) : State := ((s.setRef 0).wrBit 0x1210 6 6 true).refreshTiming

/-- The ADPLL takes the best reference it has; without one it enters holdover (R132, R133). -/
def State.retake (s : State) : State :=
  if s.bestRef = 0 then s.holdover else ((s.setRef s.bestRef).wrBit 0x1210 6 6 false).refreshTiming

/-- A STANDBY locks its ADPLL to the recovered Spar clock where that is valid (R121, R131). -/
def State.takeSpar (s : State) : State := if s.sys.role = .standby ∧ s.refValid 4 = true then s.retake else s.refreshTiming

/-! ## Timing outputs (R138 to R141) -/

/-- An output's configuration entry: bank A 0x1220 to 0x1227, bank B 0x1230 to 0x1233. -/
def outIdx (bankB : Bool) (m : Nat) : Nat := if bankB then 0x1230 + m else 0x1220 + m

/-- Is an output enabled? -/
def State.outEn (s : State) (bankB : Bool) (m : Nat) : Bool := s.rdBit (outIdx bankB m) 1 (if bankB then 15 else 31)

/-- May an output run from the fall-back PLL? -/
def State.outFb (s : State) (bankB : Bool) (m : Nat) : Bool := s.rdBit (outIdx bankB m) 1 (if bankB then 14 else 29)

/-- Does an output's source hold lock and reference: the ADPLL, or the fall-back where FALLBACK is set and FB_EN allows? -/
def State.outSource (s : State) (bankB : Bool) (m : Nat) : Bool :=
  if s.onFallback then s.outFb bankB m && s.srcGood 1 else s.srcGood 0

/-- Has that source held for 100 ms? -/
def State.outLong (s : State) : Bool := s.srcLong (if s.onFallback then 1 else 0)

/-- The number of an output in the gate table and in events: bank A 0 to 7, bank B 8 to 11. -/
def outNum (bankB : Bool) (m : Nat) : Nat := if bankB then 8 + m else m

/-- Is an output's gate open? -/
def State.gateIs (s : State) (bankB : Bool) (m : Nat) : Bool := Tab.get false (outNum bankB m) s.clk.gateOpen

/-- An output's gate opens or closes, with its event (R141). -/
def State.setGate (s : State) (bankB : Bool) (m : Nat) (b : Bool) : State :=
  if s.gateIs bankB m = b then s
  else ({ s with clk.gateOpen := Tab.set false (outNum bankB m) b s.clk.gateOpen } : State).ev 2 9 (outNum bankB m) evState
    (if b then 1 else 0)

/-- The periods of a bank A output, in ps: the whole, and its high part (R138). -/
def bankAWave (v : Nat) : Nat × Nat :=
  let d := bitsN v 23 12
  ((d + 1) * 4000, if d = 0 then 2000 else (d + 2) / 2 * 4000)

/-- The first rising edge of a bank A output at or after the boundary of a tick less one period, in ps: with ALIGN the divider restarts
at the boundary plus DELAY (R138); without, the phase is the divider's own, which the manual leaves open. -/
def State.bankARise (s : State) (m : Nat) : Int :=
  let v := s.rd (0x1220 + m) 1
  if v.testBit 30 then (25 * bitsN v 11 0 : Nat) else ((Sys2Proof.Config.outPhase m s.clk.tick.toNat % (bankAWave v).1 : Nat) : Int)

/-- The level of a bank A output at an instant of the tick in progress, in ps after its boundary (R138, R141). -/
def State.bankALevel (s : State) (m : Nat) (ps : Int) : Bool :=
  let w := bankAWave (s.rd (0x1220 + m) 1)
  s.gateIs false m && decide (Int.emod (ps - s.bankARise m) w.1 < w.2)

/-- The frequency of a bank B output: 5 GHz times the first number over the second (Table TM-13). -/
def bankBRatio (v : Nat) : Nat × Nat :=
  let l : List (Nat × Nat) := [(1, 200), (1, 50), (1, 40), (1, 32), (33, 1024)]
  l.getD (bitsN v 5 3) (1, 200)

/-- What the pins of an output show: the divided clock, or the level held while its gate is closed (R141). -/
inductive OutPin where
  | running
  | low
  | pLowNHigh
  deriving DecidableEq, Repr

/-- The pins of an output: bank A is LVCMOS, bank B differential in the formats LVDS and HCSL (Table TM-12). -/
def State.outPin (s : State) (bankB : Bool) (m : Nat) : OutPin :=
  if s.gateIs bankB m then .running
  else if bankB && decide (s.rd (0x1230 + m) 1 % 8 < 2) then .pLowNHigh
  else .low

/-- A changed configuration applies through the gate: the output closes, and opens again where it is enabled and its source has held
lock and reference for 100 ms (R140, R141). -/
def State.outReconfig (s : State) (bankB : Bool) (m : Nat) : State :=
  let s := s.setGate bankB m false
  if s.outEn bankB m && s.outSource bankB m && s.outLong then s.setGate bankB m true else s

/-- Open the gates of enabled outputs that may run from the fall-back. -/
def State.fallbackGates (s : State) : State :=
  let f (bankB : Bool) (m : Nat) (s : State) : State :=
    if s.outEn bankB m && s.outSource bankB m then s.setGate bankB m true else s
  forUpTo (f true) 4 (forUpTo (f false) 8 s)

/-- The move to the fall-back that an ADPLL loss has asked for, at a boundary at which the fall-back is locked; the gates of outputs
with FB_EN open with it (R134, R141). -/
def State.fallbackMove (s : State) : State :=
  if s.clk.adpllLoss && !s.onFallback && s.rdBit 0x1211 1 7 then
    (((s.wrBit 0x1200 5 5 true).wrBit 0x1211 1 6 true).refreshTiming).fallbackGates
  else s

end Sys2Proof.Machine
end

