-- ==== Sys2Proof/Machine/Lanes.lean ====
section
/-! DEFINITION. The lane layer: the status of ports, Spar and Ridge lanes, their locks, sleep and wake (R45 to R48, R80,
R81, R272, R274, R291). Lanes 0 to 47 are DLP0 to DLP47, 48 and 49 SPL0 and SPL1, 50 to 53 RGE, RGW, RGT0 and RGT1. -/

namespace Sys2Proof.Machine

/-- UP as the other bits give it: RXSLP, LOS and LOL clear and BLK_LOCK set. -/
def laneUpOf (n : Nat) : Bool := !n.testBit 7 && !n.testBit 4 && !n.testBit 3 && n.testBit 2

/-- Is a lane in use: its ring enabled, the pair configured, its Ridge lane enabled (R48, R272, Table RP-10)? -/
def State.laneWanted (s : State) (l : Nat) : Bool :=
  if l < 48 then (s.paired || decide (s.portRing l < 24)) && s.ringEn (s.portRing l)
  else if l < 50 then s.paired
  else s.rdBit 0x5100 7 (l - 50)

/-- The fault source of a lane: of its ring, 0xF2 and 0xF3 for Spar, 0xF6 to 0xF9 for Ridge (Table SF-8). -/
def State.laneSource (s : State) (l : Nat) : Nat :=
  if l < 48 then laneSrc (s.portRing l) else if l < 50 then 0xF2 + (l - 48) else 0xF6 + (l - 50)

/-- Is an eye opening below 16/64 UI or 40 mV (R343)? -/
def eyeNarrow (h v : Nat) : Bool := decide (h < 16 ∨ v < 10)

/-- Was the eye of a lane narrow when last measured; 0 stands for no measurement (Table EV-6)? -/
def State.eyeBad (s : State) (l : Nat) : Bool :=
  s.rd 0x6090 (l + 1) != 0 && eyeNarrow (s.rd 0x6090 (l + 1) / 256) (s.rd 0x6090 (l + 1) % 256)

/-- Does a condition of a ring's lane-class source last: a driven port without UP or with a narrow eye, a break, a module
fault, a Response lost (R47, R75, R81, R271, R343)? -/
def State.ringBad (s : State) (r : Nat) : Bool :=
  s.rd 0x2016 (r + 1) != 0xFF || (s.ringPorts r).any (fun p => !s.portBit p 0 || s.portBit p 5 || s.eyeBad p) ||
  (s.ringSlots r).any (fun n => (s.slot n).stale && (s.slot n).resp.isSome && (s.slot n).step == 7)

/-- The source of a lane ends once nothing that raises it lasts. -/
def State.laneClear (s : State) (l : Nat) : State :=
  if l < 48 then (if s.ringBad (s.portRing l) then s else s.unraise (s.laneSource l))
  else if s.eyeBad l then s else s.unraise (s.laneSource l)

/-- The bits that other entries show of the lanes: SPL0_UP and SPL1_UP (Table RP-2), RIDGE_BRK (Table RP-10). -/
def State.laneViews (s : State) : State :=
  let s := (s.wrBit 0x5000 5 5 (s.laneUp 48)).wrBit 0x5000 5 6 (s.laneUp 49)
  s.wrBit 0x5100 4 3 ((s.laneWanted 50 && !s.laneUp 50) || (s.laneWanted 51 && !s.laneUp 51))

/-- Store the status bits of a lane with the UP that follows from them. -/
def State.putLane (s : State) (l n : Nat) : State :=
  let n := setBitN n 0 (laneUpOf n)
  if l < 48 then s.wr 0x2011 (l + 1) n
  else ({ s with pair.laneSt := Tab.set 0x188 l n s.pair.laneSt } : State).laneViews

/-- Change the status bits of a lane: a lane in use that loses UP raises its source, one that regains UP may end it. -/
def State.setLane (s : State) (l n : Nat) : State :=
  let was := s.laneUp l
  let t := s.putLane l n
  if was && !t.laneUp l && t.laneWanted l then t.raise (t.laneSource l)
  else if !was && t.laneUp l then t.laneClear l
  else t

/-- Does the module of a lane's port report a TX fault? -/
def State.txFaulty (s : State) (l : Nat) : Bool := s.fld.txFault.getLsbD l

/-- A lane put to sleep or woken as its use asks; the transmitter sleeps on while its module reports a TX fault (R48). A sleeping
receiver has neither lock nor LOS. -/
def State.wakeLane (s : State) (l : Nat) : State :=
  let n := s.laneBits l
  let want := s.laneWanted l && !n.testBit 6 && s.up
  if want && n.testBit 7 then s.putLane l (setBitN (setBitN (setBitN n 7 false) 8 (s.txFaulty l)) 3 true)
  else if !want && !n.testBit 7 then
    s.putLane l (setBitN (setBitN (setBitN (setBitN (setBitN n 7 true) 8 true) 4 false) 3 true) 2 false)
  else s

/-! ## Optical modules (R79 to R81) -/

/-- The I2C master that serves a port. -/
def i2cMaster (p : Nat) : Nat := p / 12
/-- The address of the switch through which a port's module is reached. -/
def i2cSwitch (p : Nat) : Nat := if p % 12 < 8 then 0x70 else 0x71
/-- The channel of that switch. -/
def i2cChannel (p : Nat) : Nat := if p % 12 < 8 then p % 12 else p % 12 - 8

/-- Does a master's bus run at 400 kHz (0x2019)? -/
def State.i2cFast (s : State) (p : Nat) : Bool := s.rdBit 0x2019 (i2cMaster p + 1) 0

/-- Select the channels of one switch, where they are not selected. -/
def State.i2cSet (s : State) (p addr chans : Nat) : State :=
  let k := 2 * i2cMaster p + (addr - 0x70)
  if Tab.get 0 k s.fld.i2cSel = chans then s
  else ({ s with fld.i2cSel := Tab.set 0 k chans s.fld.i2cSel } : State).send (.i2cSelect (i2cMaster p) addr chans (s.i2cFast p))

/-- Reach the module of a port: its channel alone on its switch, none on the master's other switch, every module answering at the
same addresses (log entry 155). -/
def State.i2cReach (s : State) (p : Nat) : State :=
  (s.i2cSet p (0xE1 - i2cSwitch p) 0).i2cSet p (i2cSwitch p) (2 ^ i2cChannel p)

/-- Read bytes of the module of a port, at address 0x50 or 0x51. -/
def State.modRead (s : State) (p addr first count : Nat) : State :=
  (s.i2cReach p).send (.i2cRead (i2cMaster p) addr first count (s.i2cFast p))

/-- Put the module of a port into soft TX disable or out of it: byte 110 at 0x51, bit 6 (SFF-8472; log entry 155). -/
def State.modDarken (s : State) (p : Nat) (dark : Bool) : State :=
  if s.fld.modDark.getLsbD p = dark then s
  else
    let m : BitVec 48 := BitVec.ofNat 48 (2 ^ p)
    let t : State := { s with fld.modDark := if dark then s.fld.modDark ||| m else s.fld.modDark &&& ~~~ m }
    (t.i2cReach p).send (.i2cWrite (i2cMaster p) 0x51 110 (if dark then 64 else 0) (s.i2cFast p))

/-- Every lane asleep or awake as its use asks; every module of a disabled ring in soft TX disable (R48, R80). -/
def State.wakeLanes (s : State) : State :=
  forUpTo (fun p s => s.modDarken p (!s.laneWanted p)) 48 (forUpTo (fun l s => s.wakeLane l) 54 s)

/-- What a module tells of itself: identifier (byte 0), nominal rate in 100 MBd (byte 12), diagnostic-monitoring type (byte 92) and
enhanced options (byte 93), at 0x50 (SFF-8472). -/
structure ModId where
  ident : Nat
  rate : Nat
  monType : Nat
  options : Nat
  deriving DecidableEq, Repr

/-- What the module of a port answers is the world's: a free value, `none` where nothing answers. -/
def freeModule (n : Nat) : Option ModId :=
  let v := Sys2Proof.Config.freeNat n
  if v % 2 = 0 then none
  else some { ident := v / 2 % 256, rate := v / 512 % 256, monType := v / 131072 % 256, options := v / 33554432 % 256 }

/-- Does a module pass the check of R80: identifier, nominal rate, diagnostics present and calibrated internally, soft TX disable? -/
def ModId.ok (m : ModId) (slow : Bool) : Bool :=
  m.ident == 3 && decide ((if slow then 52 else 103) ≤ m.rate) && m.monType.testBit 6 && m.monType.testBit 5 && m.options.testBit 6

/-- The module of a port is checked when its ring is enabled; one that fails, or does not answer, counts as absent (R80). -/
def State.moduleCheck (s : State) (p : Nat) : State :=
  let ok := (freeModule s.fresh).any (fun m => m.ok (s.rdBit 0x2010 (s.portRing p + 1) 5))
  (((s.useFresh).modRead p 0x50 0 1).modRead p 0x50 12 1 |>.modRead p 0x50 92 2).setPortBit p 6 (!ok)

/-- The modules of a ring that has been enabled are checked (R80). -/
def State.ringEnabled (s : State) (r : Nat) : State := (s.ringPorts r).foldl (fun s p => s.moduleCheck p) s

/-- BLOCK_LOCK_ACHIEVED: 128 valid headers in a row at a receiver that is awake with its CDR in lock (R46). -/
def execBlockLockAchieved (lane : Fin 54) (s : State) : Host.Outcome State Fault Refusal :=
  let n := s.laneBits lane
  .next (if n.testBit 7 || n.testBit 3 then s else s.setLane lane (setBitN n 2 true))

/-- BLOCK_LOCK_LOSS: 24 of 256 headers invalid. A port counts the loss in 0x2018 (R46). -/
def execBlockLockLoss (lane : Fin 54) (s : State) : Host.Outcome State Fault Refusal :=
  let n := s.laneBits lane
  .next (if n.testBit 2 then
    let t := if lane.val < 48 then s.count 0x2018 (lane.val + 1) else s
    t.setLane lane (setBitN n 2 false)
  else s)

/-- LOS_ASSERT: the input swing has stayed below 65 mV for 1 µs; a sleeping receiver reports no LOS (R47, R48). -/
def execLosAssert (lane : Fin 54) (s : State) : Host.Outcome State Fault Refusal :=
  let n := s.laneBits lane
  .next (if n.testBit 7 then s else s.setLane lane (setBitN n 4 true))

/-- LOS_RELEASE: the swing has stayed at 85 mV or above for 1 µs (R47). -/
def execLosRelease (lane : Fin 54) (s : State) : Host.Outcome State Fault Refusal :=
  .next (s.setLane lane (setBitN (s.laneBits lane) 4 false))

/-- CDR_LOCK_LOSS: LOL follows the CDR lock detector (R47). -/
def execCdrLockLoss (lane : Fin 54) (s : State) : Host.Outcome State Fault Refusal :=
  .next (s.setLane lane (setBitN (s.laneBits lane) 3 true))

/-- CDR_LOCK_ACHIEVED: the CDR of a receiver that is awake is in lock (R47, R48). -/
def execCdrLockAchieved (lane : Fin 54) (s : State) : Host.Outcome State Fault Refusal :=
  let n := s.laneBits lane
  .next (if n.testBit 7 then s else s.setLane lane (setBitN n 3 false))

/-- MODULE_POLL: every present module is read; one that does not acknowledge is read once more after 1 ms, the next poll (Table SF-12). The module is read through its switch, and gives the diagnostics of Table DL-19; an alarm flag or a TX fault sets MOD_FLT and raises the ring's source, a
switch or bus that does not acknowledge raises it too. The transmitter sleeps while a TX fault is reported (R48, R81). -/
def execModulePoll (port : Fin 48) (acked : Bool) (temp vcc bias txp rxp flags : Nat) (txFault : Bool) (s : State) :
    Host.Outcome State Fault Refusal :=
  let p := port.val
  let m : BitVec 48 := BitVec.ofNat 48 (2 ^ p)
  let again := s.fld.modRetry.getLsbD p
  .next (if s.portBit p 6 || !s.up then s
  else if !acked then
    if again then ({ s.i2cReach p with fld.modRetry := s.fld.modRetry &&& ~~~ m } : State).raise (s.laneSource p)
    else { s.i2cReach p with fld.modRetry := s.fld.modRetry ||| m }
  else
    let s := if again then ({ s with fld.modRetry := s.fld.modRetry &&& ~~~ m } : State).transient (5 + s.portRing p / 16) else s
    let i := 0x2020 + p
    let s := ((s.modRead p 0x51 96 10).modRead p 0x51 110 1).modRead p 0x51 112 6
    let s : State := { s with fld.txFault := if txFault then s.fld.txFault ||| m else s.fld.txFault &&& ~~~ m }
    let t := (((((s.wr i 1 temp).wr i 2 vcc).wr i 3 bias).wr i 4 txp).wr i 5 rxp).wr i 6 flags
    let bad := txFault || bitsN flags 31 16 != 0
    let t := (t.setPortBit p 5 bad).setPortBit p 8 (txFault || t.portBit p 7)
    if bad then t.raise (t.laneSource p) else t.laneClear p)

end Sys2Proof.Machine
end

