-- ==== Sys2Proof/Machine/Boot.lean ====
section
/-! DEFINITION. Reset, cold boot and the end of BOOT (R257, R258, R306, R328, R337, R362 to R364, R369, R380 to R385, and
Tables PW-3 and PW-5). -/

namespace Sys2Proof.Machine

/-! ## What a reset leaves -/

/-- Register-file entries that do not stand in the memory a reset clears: identity, OTP rows, the counts of PD0, and the
confirmations since manufacture. -/
def resetKeeps (key : Nat) : Bool :=
  key / 256 == 0x1000 || key == ekey 0x1400 2 || key == ekey 0x1400 3 || key == ekey 0x1310 2 || key == ekey 0x1320 3 ||
  key == ekey 0x1320 4 || key == ekey 0x1300 5 || key == ekey 0x1300 6 || key == ekey 0x1330 6 || key == ekey 0x4000 5

/-- Records after a loss of both VAON supplies: repeats not yet written to MRAM are lost (R335). -/
def lostReps (l : List EvRec) : List EvRec := l.map (fun r => { r with rep := r.repSaved, lastrep := r.lastSaved })

/-- The recorder after a reset: MRAM stays; the RAM buffer and the SRAM copies stay unless both VAON supplies were lost,
when PD0's counts return to their last save (R328, R335, R337). The sequence goes on from the highest number that is held (R329). -/
def Rec.wiped (r : Rec) (lost : Bool) : Rec :=
  let kept := r.keepFirst ++ r.circ ++ (if lost then [] else r.ramBuf)
  let q : Rec := { r with evSeq := topSeq ((kept.head?.map (·.seq)).getD 0) kept, saving := none, storeWait := false, rainDue := false }
  if lost then
    { q with keepFirst := lostReps r.keepFirst, circ := lostReps r.circ, ramBuf := [], pcc := r.aonSaved.1, opTime := r.aonSaved.2 }
  else q

/-- Firmware state after a reset: slots, lifecycle and keys are in MRAM and OTP; a debug session ends. -/
def Fw.wiped (f : Fw) : Fw :=
  { Fw.init with slotA := f.slotA, slotB := f.slotB, runB := f.runB, confirming := f.confirming, arbWait := f.arbWait,
                 lifecycle := f.lifecycle, groupKey := f.groupKey, groupKeyNext := f.groupKeyNext, idKey := f.idKey, certCfg := f.certCfg,
                 boot1 := f.boot1, boot2 := f.boot2 }

/-- Pins during a reset: outputs at their reset states, inputs as the board drives them. -/
def Pins.wiped (p : Pins) : Pins :=
  { Pins.init with resetN := p.resetN, trip := p.trip, drven := p.drven, flt := p.flt, partnerActive := p.partnerActive,
                   pgoodMain := p.pgoodMain, pgoodBkup := p.pgoodBkup, pselMain := p.pselMain, pselBkup := p.pselBkup,
                   gpio := p.gpio }

/-- Local leg `n` after a reset: gated by it, and by its group's enable where that is low. -/
def wipedLocals (p : Pins) : Tab LocalLeg :=
  (List.range 12).foldl (fun t n =>
    Tab.set LocalLeg.init n { LocalLeg.init with gDrven := !p.drven.getLsbD (n / 3) } t) []

/-- The safety parameter store is in MRAM: both copies stay. -/
def Saf.wiped (x : Saf) : Saf :=
  { Saf.init with copy1 := x.copy1, copy2 := x.copy2 }

/-- The state of a held reset (R369, R382, R385): everything at reset but MRAM, OTP, PD0, the pins' inputs and the world
outside; the device is in BOOT and goes no further while the internal reset is asserted. Every session ends with a reset; a loss of both
VAON supplies leaves no time for its events (R314). -/
def State.wiped (o : State) (lost : Bool) : State :=
  let s := if lost then { o with evr.ramBuf := [] } else o.resetSessions
  { State.reset with
    pending := s.pending, fresh := s.fresh, tx := s.tx,
    sys := { Sys.init with straps := s.sys.straps, pins := s.sys.pins.wiped, intReset := true },
    reg := { Regs.init with od := s.reg.od.filter (fun e => resetKeeps e.1) },
    fld := { Fld.init with nodes := s.fld.nodes, locals := wipedLocals s.sys.pins },
    cpu := { Cpu.init with engines := Tab.mapV Engine.init (fun x => { Engine.init with pkg := x.pkg }) s.cpu.engines },
    saf := s.saf.wiped,
    evr := s.evr.wiped lost,
    fw := s.fw.wiped,
    pw := { Pw.init with bootCause := s.pw.bootCause, bootRecs := s.pw.bootRecs, aonB := s.pw.aonB,
                         wdPending := s.pw.wdPending, backupFrom := s.pw.backupFrom, lowFrom := s.pw.lowFrom } }

/-- A cold boot with an image unconfirmed starts the other slot as a fallback (R362). Table FW-6 has two codes for it,
and R362 does not say which. -/
def State.bootFallback (s : State) : State :=
  if s.fw.confirming then
    let bad := s.runSlot
    let s := s.setRunSlot { bad with status := 7 }
    let s := { s.setRun (!s.fw.runB) with fw.confirming := false, fw.fwFallback := true }
    let s := s.setRunSlot { s.runSlot with status := 3 }
    (s.useFresh).wr 0x1410 2 (5 + Sys2Proof.Config.freeNat s.fresh % 2)
  else s

/-- The internal reset ends: straps sampled, the power-cycle count steps, BOOT begins (Table PW-3, R328, R394). -/
def State.coldBoot (s : State) (st : Straps) (cause : Nat) (lost : Bool) : State :=
  let shut := s.pw.thermalOff
  let lock := s.rdBit 0x1330 2 4 && !lost
  let s := (s.wiped lost).wrBit 0x1330 2 4 lock
  let s := { s with sys.straps := st, sys.intReset := false, evr.pcc := Nat.min 0xFFFFFFFF (s.evr.pcc + 1),
                    pw.bootCause := cause, pw.domains := 15 }
  let s := if shut then s.wrBit 0x1330 2 2 true else s
  let s := if s.sys.pins.pselBkup then s.wrBit 0x1300 1 2 true else s
  (s.wrBit 0x1300 1 3 s.pw.aonB).bootFallback

/-- PD0 counts operating time while the device is in reset or BOOT, or switched off (R328). -/
def State.opOn (s : State) (us : Nat) : State := { s with evr.opTime := s.evr.opTime + us }

/-- A time in µs that the row does not carry passes, counted by PD0 (R328; log entry 107). -/
def State.opFree (s : State) : State := (s.useFresh).opOn (Sys2Proof.Config.freeNat s.fresh)

/-- A record that PD0 holds for the next boot (R381). -/
def State.holdRec (s : State) (sev code data : Nat) : State :=
  { s with pw.bootRecs := s.pw.bootRecs ++ [s.mkRec sev 6 0 code data] }

/-- The internal reset asserted: the machine stands at reset with RSTOUT_N low. PD0 keeps whether MRAM writes are forbidden. -/
def State.holdReset (s : State) : State := (s.wiped false).wrBit 0x1330 2 4 (s.rdBit 0x1330 2 4)

/-! ## The Slath ROM (R363, R364) -/

/-- Does a slot start: confirmed once, a header that passes Table FW-3 but for 0x06 and 0x07, a payload with the digest and the tag that it
names, both read without an error (R345, R363)? -/
def State.slotStarts (s : State) (x : FwSlot) (r : SlotRead) : Bool :=
  decide (3 ≤ x.status ∧ x.status ≤ 6) && r.hdrOk && r.payloadOk &&
  x.hdr.any (fun h => s.hdrStart h == 0 && digestOk h x.payload && gcmOk h x.payload)

/-- Does a copy of the boot record's CRC-32C hold? -/
def BootCopy.ok (c : BootCopy) : Bool := decide (c.crc = bootCrc c.slotB)

/-- The slot that the boot record names: by the first of its copies that reads and whose CRC-32C holds (R363). With neither it names none,
and no slot is startable (log entry 194). -/
def State.bootNamed (s : State) (rec1Ok rec2Ok : Bool) : Option Bool :=
  if rec1Ok && s.fw.boot1.ok then some s.fw.boot1.slotB
  else if rec2Ok && s.fw.boot2.ok then some s.fw.boot2.slotB
  else none

/-- SLATH_IMAGE_START: the slot that the boot record names, or the other one where it is PREVIOUS or FALLBACK; a start
from that one is a fallback (R363). With neither, the device stays in BOOT (R364). -/
def execSlathImageStart (slotA slotB : SlotRead) (rec1Ok rec2Ok : Bool) (s : State) : Host.Outcome State Fault Refusal :=
  .next (if s.sys.dev ≠ .boot ∨ s.sys.intReset = true ∨ s.sys.imgStarted = true then s
  else match s.bootNamed rec1Ok rec2Ok with
    | none => { s with fw.romDone := true }
    | some b =>
      let s : State := { s with fw.runB := b }
      let of (c : Bool) : SlotRead := if c then slotB else slotA
      if s.slotStarts s.runSlot (of b) then { s with sys.imgStarted := true }
      else
        let t := s.setRunSlot { s.runSlot with status := 7 }
        let o := t.inactiveSlot
        if (o.status = 6 ∨ o.status = 5) ∧ t.slotStarts o (of (!b)) = true then
          (({ (t.setInactive { o with status := 3 }) with fw.fwFallback := true, sys.imgStarted := true } : State).setRun (!b)).wr 0x1410 2 6
        else { t with fw.romDone := true })

/-- JTAG_IMAGE_LOAD: with no slot startable and BOOTSEL high the ROM takes an image into slot A; in Deployed or Returned
only after a debug certificate (R364, R366). -/
def execJtagImageLoad (hdr : ImgHdr) (payload : List Byte) (cert : Option DebugCert) (s : State) :
    Host.Outcome State Fault Refusal :=
  .next (if s.sys.dev ≠ .boot ∨ s.sys.intReset = true ∨ s.sys.imgStarted = true ∨ s.sys.straps.bootsel = false ∨ s.fw.romDone = false then s
  else
    let opens := decide (s.fw.lifecycle ≥ 2) && cert.any s.certOpens
    let t := if opens && !s.fw.debugOpen then s.openDebug ((cert.map certPerm).getD 0) else s
    if (t.fw.lifecycle ≤ 1 ∨ (t.fw.debugOpen = true ∧ t.fw.debugPerm.getLsbD 0 = true)) ∧ t.hdrStart hdr = 0 ∧
        digestOk hdr payload = true ∧ gcmOk hdr payload = true then
      ({ t with fw.slotA := { status := 3, hdr := some hdr, payload := payload }, sys.imgStarted := true } : State).setRun false
    else t)

/-- JTAG_DEBUG_OPEN: in Provisioned without a certificate, in Deployed or Returned with one (R366). -/
def execJtagDebugOpen (cert : Option DebugCert) (s : State) : Host.Outcome State Fault Refusal :=
  .next (if !s.debugState || s.pw.thermalOff then s
  else if s.fw.lifecycle ≤ 1 then s.openDebug ((cert.map certPerm).getD 7)
  else match cert with
    | some c => if s.certOpens c then s.openDebug (certPerm c) else s.secRec 3 evRefused 0
    | none => s.secRec 3 evRefused 0)

/-- BIST_COMPLETE: the result stands until the end of BOOT, when a failure takes the device to SAFE (R254, Table PW-3). -/
def execBistComplete (ok : Bool) (s : State) : Host.Outcome State Fault Refusal :=
  .next (if s.sys.dev = .boot ∧ s.sys.intReset = false then { s with sys.bistOk := ok } else s)

/-! ## The end of BOOT (Table PW-3, R258, R306, R337, R381) -/

/-- The buffered records are written whole in SEQ order, with BUFFERED set, each under the rule of its area, unless MRAM writes are
forbidden (R335, R337). -/
def State.flushBuf (s : State) : State :=
  if s.mramLock then s
  else (bySeq s.evr.ramBuf).foldl (fun s r => s.putRec { r with buffered := true, repSaved := r.rep, lastSaved := r.lastrep })
    { s with evr.ramBuf := [] }

/-- Which of two copies of a store is used, copy 2 where true: a valid one, of the format that the running image has where there is one, and
of two of those the one written later; a fallback uses copy 2 (R258, R356, R361). None where neither is valid. -/
def pickCopy (fb : Bool) (fmt : Nat) (ok1 ok2 : Bool) (c1 c2 : StoreCopy) : Option Bool :=
  if !ok1 && !ok2 then none
  else if !ok1 then some true
  else if !ok2 then some false
  else if fb then some true
  else if c1.fmt = c2.fmt then some (decide (c1.seq < c2.seq))
  else some (decide (c1.fmt ≠ fmt ∧ c2.fmt = fmt))

/-- A copy in the format of the running image: as it is, or migrated (R356). -/
def State.inFormat (s : State) (c : StoreCopy) : StoreCopy :=
  if c.fmt = s.setFmt then c
  else StoreCopy.of s.setFmt (c.seq + 1) c.conf (s.migrated c.ents)

/-- The dictionary's persistent store, checked as R258 and R306 lay down; the other copy is rewritten from the one used. With neither
valid, the defaults, with an event. -/
def State.loadDict (s : State) (read1 read2 : Bool) : State :=
  let e := s.evr
  match pickCopy s.fw.fwFallback s.setFmt (read1 && e.copy1.ok) (read2 && e.copy2.ok) e.copy1 e.copy2 with
  | some b =>
    let c := s.inFormat (if b then e.copy2 else e.copy1)
    { (s.loadStore c.ents) with evr.copy1 := c, evr.copy2 := c }
  | none =>
    let c := StoreCopy.of s.setFmt 0 0 []
    ({ s with evr.copy1 := c, evr.copy2 := c } : State).ev 4 0xB 0 evCheck 0

/-- A stored safety set and its confirmation into the working copy. -/
def State.takeSafety (s : State) (l : Tab Nat) (conf : Nat) : State :=
  (l.foldl (fun (s : State) e => s.wr (e.1 / 256) (e.1 % 256) e.2) s).wr 0x4000 2 conf

/-- The safety parameter store (R258): the set and its confirmation from the copy that is used, the other rewritten from it, or the
defaults of Table SF-5; STORE_REPAIRED where exactly one copy was valid. -/
def State.loadSafety (s : State) (read1 read2 : Bool) : State :=
  let x := s.saf
  let ok1 := read1 && x.copy1.ok
  let ok2 := read2 && x.copy2.ok
  let t := match pickCopy s.fw.fwFallback s.setFmt ok1 ok2 x.copy1 x.copy2 with
    | some b =>
      let c := s.inFormat (if b then x.copy2 else x.copy1)
      { (s.takeSafety c.ents c.conf) with saf := { x with copy1 := c, copy2 := c } }
    | none =>
      let c := StoreCopy.of s.setFmt 0 0 []
      { s.safetyDefaults with saf := { x with copy1 := c, copy2 := c } }
  (t.wrBit 0x4000 4 3 (ok1 != ok2)).refreshChecks

/-- The check of the working copy that follows at boot (R258, Table SF-4). -/
def State.workingCopyAtBoot (s : State) (ok : Bool) : State :=
  if ok then s else ({ s with saf.wcBad := true } : State).bootNote 3

/-- The stored records whose RCRC fails are removed and counted in 0x6000.09, and a record carries the count (R338). -/
def State.checkRecords (s : State) (bad : List (BitVec 32)) : State :=
  let ok (r : EvRec) : Bool := !bad.contains r.seq
  let n := (s.evr.keepFirst ++ s.evr.circ).length - (s.evr.keepFirst.filter ok ++ s.evr.circ.filter ok).length
  if n = 0 then s
  else
    let e := { s.evr with keepFirst := s.evr.keepFirst.filter ok, circ := s.evr.circ.filter ok }
    (({ s with evr := e } : State).countN 0x6000 9 n).ev 4 0xB 0 evCheck n

/-- The safety set format version of the running image (0x4000.03, Table FW-2). -/
def State.imageFormat (s : State) : State := s.wr 0x4000 3 ((s.runSlot.hdr.map (·.ssfmt)).getD 1)

/-- Every package kept in MRAM is loaded into its engine (R196). -/
def State.loadPackages (s : State) : State :=
  forUpTo (fun e s => match (s.engine e).pkg with | some p => s.loadPackage e p | none => s) 16 s

/-- The clocks at the end of BOOT: B(0), tick 0, and holdover where no reference is valid (R115, R137, R380). -/
def State.startClocks (s : State) (tb0 : BitVec 40) : State :=
  let s := { s with clk.tick := 0, clk.bnd := tb0 }
  let s := s.setTb 0 { s.tbs 0 with acc := BitVec.ofNat 56 (tb0.toNat * 65536) }
  if s.bestRef = 0 then s.holdover else s.refreshTiming

/-- Trip inputs that are low at the end of BOOT act at that moment (R231). -/
def State.tripsAtBoot (s : State) : State :=
  forUpTo (fun i s => if s.sys.pins.trip.getLsbD i then (s.wrBit 0x2790 1 i true).tripActs i else s) 8 s

/-- Fault inputs that are low at the end of BOOT, with FLT_EN set, gate their legs and set LEGFLT (R228). -/
def State.faultsAtBoot (s : State) : State :=
  forUpTo (fun n s => if s.sys.pins.flt.getLsbD n && s.rdBit (0x2600 + n) 7 0 then
    (s.gate (2 ^ n) (fun x => { x with gFlt := true })).legFlag (0x8000 + n) 1 else s) 12 s

/-- What BOOT has found enters at its end: sources, then the detections of Table SF-4, a BIST failure among them (R254, R262). -/
def State.bootFindings (s : State) : State :=
  let t := s.saf.bootOcc.foldl (fun (s : State) src => s.occur src) s
  let t := if s.sys.bistOk && !s.saf.bootSf5.getLsbD 3 then t else t.sf5 3
  let t := if s.saf.bootSf5.getLsbD 9 then t.sf5 9 else t
  { t with saf.bootSf5 := 0, saf.bootOcc := [] }

/-- The records that PD0 holds for the boot, and its cause (R381). -/
def State.bootRecords (s : State) : State :=
  let t := s.pw.bootRecs.foldl (fun (s : State) r => s.ev r.sev r.origin r.unit r.code r.data) s
  ({ t with pw.bootRecs := [], pw.wdPending := false } : State).wr 0x1320 2 s.pw.bootCause

/-- The role and its pins at the end of BOOT; a STANDBY takes the recovered Spar clock (R121, R272, R273, R285). -/
def State.bootRole (s : State) : State :=
  let r : Role := if s.paired then .standby else .solo
  let a := decide (r ≠ .standby)
  let t : State := { s with sys.role := r, sys.pins.active := a, pair.noActive := 0, pair.hbMissed := 0 }
  if t.sys.role = .standby then t.takeSpar else t

/-- A fallback made at this boot is reported (R361). -/
def State.bootFwReport (s : State) : State :=
  if s.fw.fwFallback then ({ s with fw.fwFallback := false } : State).occur 0xE9 |>.ev 4 4 0 evAction 6 else s

/-- CERT_CFG as this cold boot finds it; a change of it writes a security record and raises 0xEA (R367). -/
def State.bootCert (s : State) (ok : Bool) : State :=
  if s.fw.certCfg = ok then s else (({ s with fw.certCfg := ok } : State).secRec 3 evState (bitIf ok 0)).occur 0xEA

/-- COMMISSION or BLOCKED, as the safety set is confirmed (Table CM-10). -/
def State.bootState (s : State) : State :=
  if s.rd 0x4000 2 = s.rd 0x4000 1 then s.setDev .blocked else s.setDev .commission

/-- Converters start (R236), lanes wake for the rings in use (R48, R80), the local legs leave the reset's gate. -/
def State.bootUnits (s : State) : State :=
  let s := s.wr 0x2700 1 (setBitN 0xFF0 0 true)
  let s := (List.range 48).foldl (fun s r => if s.ringEn r && (s.paired || decide (r < 24)) then s.ringEnabled r else s) s
  (s.mapLocs (fun _ x => { x with gReset := false })).wakeLanes.laneViews

/-- BOOT_END: the stored records and the stores are checked, B(0) is set, the recorder opens and what BOOT has buffered is written, the
boot cause is recorded, and the device enters COMMISSION or BLOCKED, or SAFE where a diagnostic failed (R254, R258, R262, R298, R306, R338, R381). -/
def execBootEnd (boottag : BitVec 16) (badRecs : List (BitVec 32)) (c : BootChecks) (tb0 : BitVec 40) (s : State) :
    Host.Outcome State Fault Refusal :=
  .next (if s.sys.dev ≠ .boot ∨ s.sys.intReset = true ∨ s.sys.imgStarted = false then s
  else
    let t := (s.opFree.checkRecords badRecs).imageFormat.loadDict c.dict1Ok c.dict2Ok
    let t := ((t.loadSafety c.saf1Ok c.saf2Ok).workingCopyAtBoot c.workOk).loadPackages
    let t := (t.startClocks tb0).bootRole
    let certified := t.certNow
    let t := { t with grp.boottag := boottag, grp.leader := t.devid, grp.leaderNext := t.devid, sys.booted := true,
                      sys.pins.safeN := true }
    let t := t.flushBuf.bootState.bootRecords.bootFwReport.bootCert certified |>.bootUnits.refreshReady
    let t := if t.sys.pins.pselBkup then t.raise 0xE7 else t
    t.bootFindings.tripsAtBoot.faultsAtBoot.faultPin)

/-! ## Resets (R369, R382 to R385) -/

/-- Nominal voltages in mV of the rails of 0x1301, in its order. -/
def railNominal : List Nat := [800, 900, 900, 1200, 1800, 3300, 5000, 3300, 900, 3300, 3300]

/-- Is a rail below its reset threshold (Table PW-1)? -/
def railLow (rail mv : Nat) : Bool :=
  if rail < 9 then decide (100 * mv < 88 * railNominal.getD rail 0) else decide (mv < 2800)

/-- RAIL_UNDERVOLTAGE: a rail below its reset threshold for 1 µs asserts the internal reset. Of the two always-on supplies
the one that PD0 draws from counts (R369, R371). -/
def execRailUndervoltage (rail : Fin 11) (mv : Nat) (s : State) : Host.Outcome State Fault Refusal :=
  .next (if !railLow rail mv || (rail.val == 9 && s.pw.aonB) || (rail.val == 10 && !s.pw.aonB) || s.sys.dev == .sleep then s
  else
    let t := s.holdReset
    { t with pw.bootCause := if rail.val < 9 then 6 else 0 })

/-- POWER_ON: 1 ms after the last rail has reached its threshold the internal reset ends (R369). With no reset asserted by
a board rail, both VAON supplies had been lost. -/
def execPowerOn (st : Straps) (s : State) : Host.Outcome State Fault Refusal :=
  .next (if s.sys.intReset = true ∧ s.pw.wdPending = true then s
  else if s.sys.intReset = true ∧ s.pw.bootCause = 6 then s.opFree.coldBoot st 6 false
  else
    let p := { s.sys.pins with pgoodMain := true, pgoodBkup := true, pselMain := true, pselBkup := false }
    let t : State := { s with sys.pins := p, pw.aonB := false }
    { (t.coldBoot st 0 true) with fresh := s.fresh })

/-- RESET_N_LOW: every local leg is gated within 100 ns (R382, Table LA-2). -/
def execResetNLow (s : State) : Host.Outcome State Fault Refusal :=
  let t : State := { s with sys.pins.resetN := false, sys.resetLow := 0, pw.lowFrom := s.evr.opTime }
  .next (t.gate 0xFFF (fun x => { x with gReset := true }))

/-- RESET_N_RISE: after 10 µs or more a cold boot; a shorter low resets nothing and is counted; one of 30 s or more is
recorded with its duration (R382, R383). What of a longer low the boundaries have not counted is operating time (R328). -/
def execResetNRise (lowUs : Nat) (st : Straps) (s : State) : Host.Outcome State Fault Refusal :=
  let t : State := { s with sys.pins.resetN := true }
  let u := t.opOn (s.pw.lowFrom + lowUs - s.evr.opTime)
  .next (if lowUs < 10 then
    let t := t.count 0x1320 4
    if t.sys.booted then t.mapLocs (fun _ x => { x with gReset := false }) else t
  else if lowUs < 30000000 then u.coldBoot st 1 false
  else
    let d := Nat.min 0xFFFFFFFF (lowUs / 1000000)
    ((u.holdRec 4 evState d).coldBoot st 2 false).wr 0x1320 3 d)

/-- A watchdog expiry: the internal reset for 1 ms, its cause kept by PD0 (R385). -/
def State.watchdogBite (s : State) : State :=
  let t := (s.holdRec 4 evCheck 3).holdReset
  { t with pw.wdPending := true, pw.bootCause := 3 }

/-- Does the watchdog run: the runtime is up and in no activation pause (R384)? -/
def State.watchdogOn (s : State) : Bool := s.up && !s.fw.pause

/-- WATCHDOG_SERVICE: a service before every supervised core has marked itself alive is an expiry; else a new period
begins (R384). -/
def execWatchdogService (alive0 alive1 alive3 : Bool) (s : State) : Host.Outcome State Fault Refusal :=
  .next (if s.watchdogOn && !(alive0 && alive1 && alive3) then s.watchdogBite else s)

/-- WATCHDOG_EXPIRY: no service within the period (R384, R385). -/
def execWatchdogExpiry (s : State) : Host.Outcome State Fault Refusal :=
  .next (if s.watchdogOn then s.watchdogBite else s)

/-- WATCHDOG_RESET_END: the internal reset of an expiry ends after 1 ms and the cold boot starts (R385). -/
def execWatchdogResetEnd (st : Straps) (s : State) : Host.Outcome State Fault Refusal :=
  .next (if s.pw.wdPending = true ∧ s.sys.intReset = true then (s.opOn 1000).coldBoot st 3 false else s)

/-- RSTOUT_N_RELEASE: 10 ms after the internal reset ends (R370). -/
def execRstoutNRelease (s : State) : Host.Outcome State Fault Refusal :=
  .next (if s.sys.intReset || s.pw.thermalOff || s.sys.dev == .sleep || !s.sys.pins.resetN then s
  else { s with sys.pins.rstoutN := true })

end Sys2Proof.Machine
end

