-- ==== Sys2Proof/Machine/PairOps.lean ====
section
/-! DEFINITION. The roles of a pair: the mandate epoch, assuming ACTIVE and becoming STANDBY (R30 to R32, R119, R131, R253,
R279, R282 to R285). -/

namespace Sys2Proof.Machine

/-- Does the device take part in group-coordinated functions: in a group, not UNSYNC since the last boundary, no duplicate DEVID (R125,
R298, R300)? -/
def State.coordinated (s : State) : Bool := s.grouped && !(s.rdBit 0x1200 5 4 && s.grp.unsyncThen) && !s.rdBit 0x1001 5 11

/-- The digest whose share a position of the CSM shows: a member's, or the device's own. -/
def State.shareDigest (s : State) (d : Nat) : Option Digest := if d = s.devid then s.grp.sent.head? else (s.member d).dig

/-- The 64 bytes of a share in the CSM: the share, its DEVID and SEQ, and a valid byte. -/
def shareBytes (d : Option Digest) : List Byte :=
  match d with
  | some x => x.share.take 32 ++ beBytes x.devid 2 ++ beBytes x.seq.toNat 2 ++ [if x.shareValid then 1 else 0] ++ List.replicate 27 0
  | none => List.replicate 64 0

/-- The shares of the present members at 0x00C000 + 64 j; a device that withholds group-coordinated functions marks every
entry invalid (R300). -/
def State.putShares (s : State) : State :=
  let l := s.present
  forUpTo (fun j s =>
    let b := if s.coordinated then shareBytes ((l[j]?).bind s.shareDigest) else List.replicate 64 0
    { s with cpu.csm := Tab.writeBytes (0xC000 + 64 * j) b s.cpu.csm }) 64 s

/-- The largest EPOCH_SEEN in the Responses of the last tick. -/
def State.epochSeen (s : State) : Nat :=
  s.fld.slots.foldl (fun a e => match e.2.resp with
    | some r => if e.2.stale then a else Nat.max a r.epochSeen
    | none => a) 0

/-- The epoch of a device that assumes ACTIVE (R283). -/
def State.newEpoch (s : State) : Nat := Nat.max (s.rd 0x5000 4) (Nat.max s.pair.maxEpoch s.epochSeen) + 1

/-- The epoch taken and written to the store, or as soon as MRAM writes are permitted. -/
def State.takeEpoch (s : State) : State := (s.wr 0x5000 4 s.newEpoch).saveStores

/-- The string blocks of the ladder that the mirror brought stay in force on a device that becomes ACTIVE: their copies go on, one at
every boundary, and the local legs associated with them are gated (R62, R267; log entry 187). -/
def State.ladderBlocks (s : State) : State :=
  let m := s.rd 0x4200 4 % 64
  let b : BlockSet := { scope := 1, strmask := BitVec.ofNat 6 m, cause := 5, devid := s.devid, wellFormed := true }
  if m = 0 then s
  else ({ s with saf.blocks := s.saf.blocks.filter (fun x => x.cause != 5) ++ [b] } : State).gate (s.assocLegs m)
    (fun x => { x with gString := true })

/-- The device becomes ACTIVE at a boundary: epoch, pin, TB0 on its last increment, the Spar clock out of its list. -/
def State.toActive (s : State) : State :=
  let s := s.takeEpoch
  let p := { s.pair with failed := false, handover := false, hbMissed := 0, noActive := 0, demote := false }
  let s : State := { s with pair := p, sys.role := .active, sys.pins.active := true }
  let s := (s.freerun 0).wr 0x5000 14 s.clk.tick.toNat
  let s := s.ladderBlocks
  let s := s.wrBit 0x1200 5 2 false
  if s.adpllRef = 4 then s.retake else s.refreshTiming

/-- A local leg coasts in the builder for the tick in progress (R169, R279). -/
def State.coastNow (s : State) (h : Nat) : State :=
  let l := s.leg h
  if s.legBlocked h then s.setLeg h { l with remain := [], blocked := true, coasting := true }
  else s.setLeg h { l with
    remain := s.coastEdges h (s.patOf h) l.w 0 s.tTb, coasting := true }

/-- The coast windows that run from the takeover boundary where none runs from an earlier one (R253, R279). -/
def State.takeWindows (s : State) : State :=
  let now := s.clk.bnd
  let t := forUpTo (fun st s =>
    if s.strEn st then s.setString st { s.string st with coastT0 := some ((s.string st).coastT0.getD now) } else s) 6 s
  if s.localLegs.isEmpty then t else { t with fld.localCoastT0 := some (t.fld.localCoastT0.getD now) }

/-- A takeover (R279): the local legs coast, RUN becomes COAST; it is counted, reported and recorded. -/
def State.takeOver (s : State) : State :=
  let t := s.toActive
  let t := t.localLegs.foldl (fun s h => s.coastNow h) t
  let t := if t.running then t.takeWindows else t
  let t := if t.sys.dev = .run then t.setDev .coast else t
  ((t.count 0x5000 8).raise 0xF1).ev 7 3 0 evAction 1

/-- The device becomes STANDBY at a boundary: its outputs are suppressed, ACTIVE goes low, TB0 runs on until it is steered (R118, R224,
R285); the blocks of ladder, host and diagnostics are the partner's to send from now on (R267). -/
def State.toStandby (s : State) : State :=
  let now := s.clk.bnd
  let p := { s.pair with failed := false, handover := false, hbMissed := 0, noActive := 0, demote := false, fwds := [] }
  let p := { p with tb0Stepped := false }
  let s := s.endBlocks (fun b => b.cause == 3 || (decide (5 ≤ b.cause ∧ b.cause ≤ 8)))
  let s : State := { s with pair := p, sys.role := .standby, sys.pins.active := false }
  (((s.mapLocs (fun _ x => x.low now)).wr 0x5000 14 s.clk.tick.toNat).freerun 0).takeSpar

/-- The device is SOLO from a boundary on, its pair no longer configured (R272, R131, R285). -/
def State.toSolo (s : State) : State :=
  let p := { s.pair with failed := false, handover := false, hbMissed := 0, noActive := 0, demote := false, fwds := [], cfgIn := [],
                         partner := none, partnerSeen := false }
  let was := s.sys.role
  let t : State := { s with pair := p, sys.role := .solo, sys.pins.active := true }
  let t := (t.wr 0x5000 14 t.clk.tick.toNat).wrBit 0x1200 5 2 false
  let t := if was = .standby then t.freerun 0 else t
  if t.adpllRef = 4 then t.retake else t.refreshTiming

/-- The role as pair configured changes at a boundary: set, STANDBY, from which the member becomes ACTIVE under R273; clear, SOLO
(R272). -/
def State.pairChanged (s o : State) : State :=
  if s.paired && !o.paired then s.toStandby else if o.paired && !s.paired then s.toSolo else s

/-- An ACTIVE gives way (R284): it becomes STANDBY, with an event of severity critical. -/
def State.giveWay (s : State) : State := s.toStandby.ev 7 3 0 evState 2

/-- Source 0xF0 of the ACTIVE: its partner has left READY, RUN or COAST, or is missing (R31, R267, R278). -/
def State.lossOfRedundancy (s : State) : State := s.raise 0xF0

end Sys2Proof.Machine
end

