-- ==== Sys2Proof/Machine/Pause.lean ====
section
/-! DEFINITION. The pause of an activation: its beginning, its end, and the fallback (R353 to R357, R361, Table FW-7). -/

namespace Sys2Proof.Machine

/-- The lanes that are UP, a bit each (Table FW-8). -/
def State.lanesUp (s : State) : BitVec 54 :=
  BitVec.ofNat 54 ((List.range 54).foldl (fun a l => if s.laneUp l then a ||| 2 ^ l else a) 0)

/-- The notice of the pause's end for the partner (RTYPE 0x06, R354); like that of its beginning it is a device's own, in
either role. -/
def State.pauseOver (s : State) : State :=
  if s.paired then s.forwardAs (fun f => .fwd f 6 s.clk.tick 0) else s

/-- The pause begins at B(a): every session ends, the firmware domains start warm (R353, Table FW-7). -/
def State.beginPause (s : State) (fb : Bool) : State :=
  let t := s.endAllSessions
  let lanes := t.lanesUp
  let occ := (List.range 256).filter (fun i => t.rd (0x4210 + i / 16) (i % 16 + 1) != 0)
  let f := { t.fw with
    wasRun := s.running, ctrlGood := 0, challGood := 0, newL3 := false, occBefore := occ,
    pause := true, fbPause := fb, loading := false, loaded := false, pauseTick := t.clk.tick, lanesAtPause := lanes,
    pauseSafe := s.fw.pause && s.fw.pauseSafe, fbDue := false, challPause := false }
  { t with fw := f }

/-- COMMISSION and BLOCKED as Table CM-10 gives them at the end of BOOT (R357, R361). -/
def State.stateAnew (s : State) : State :=
  if s.sys.dev = .commission ∧ s.confirmed = true then s.setDev .blocked
  else if s.sys.dev = .blocked ∧ s.confirmed = false then s.setDev .commission
  else s

/-- The runtime starts at B(r): challenges go on with the boundary's, R278 counts anew, a protection that called for SAFE in the
pause has its state now (R353 to R355). The challenge itself is the monitor's: a free value. -/
def State.endPause (s : State) : State :=
  let safe := s.fw.pauseSafe
  let p := { s.pair with hbMissed := 0, noActive := 0, failed := false }
  let s : State := { s with pair := p, fw.pause := false, fw.fbPause := false, fw.pauseSafe := false }
  let ch := BitVec.ofNat 32 (Sys2Proof.Config.freeNat s.fresh)
  let s : State := { s.useFresh with clk.challenge := ch, clk.challenged := true, fw.challPause := true }
  (if safe then s.enterSafe else s).pauseOver

/-- The stores loaded anew from copy 2, the safety set with them. -/
def State.loadCopy2 (s : State) : State :=
  let s := { s with reg.od := s.reg.od.filter (fun e => !persists e.1) }
  let t := ((s.loadStore s.evr.copy2.ents).imageFormat.safetyDefaults).takeSafety s.saf.copy2.ents s.saf.copy2.conf
  { t.refreshChecks with saf := { t.saf with copy1 := s.saf.copy2 }, evr := { t.evr with copy1 := s.evr.copy2, saving := none } }

/-- FALLBACK (R361): the abandoned slot becomes INVALID, the other ACTIVE; copy 2 of each store is loaded; 0xE9 occurs and a
privileged image record is written. One more pause lasts until its runtime has started. -/
def State.fallback (s : State) (code : Nat) : State :=
  let s := s.setRunSlot { s.runSlot with status := 7 }
  let s : State := { s.setRun (!s.fw.runB) with fw.confirming := false, fw.confirmed := false }
  let s := (s.setRunSlot { s.runSlot with status := 3 }).wr 0x1410 2 code
  let s := s.loadCopy2
  ((s.beginPause true).occur 0xE9).ev 1 4 0 evAction code

/-- The activated image takes the place of the running one, pending its confirmation; the old one is kept for a fallback. -/
def State.toNew (s : State) : State :=
  let old := s.runSlot
  let new := s.inactiveSlot
  ((s.setRunSlot { old with status := 5 }).setRun (!s.fw.runB)).setRunSlot { new with status := 4 }

/-- The fallback that a missed challenge of a pause, or of its B(r), brings at the next boundary, from SAFE: the image abandoned is the
activated one, whether its runtime has started or not (R355, R361). One missed in a fallback pause leaves the device in SAFE (R361). -/
def State.missedFallback (s : State) : State :=
  if s.fw.fbDue then
    let again := s.fw.fbPause
    let inPause := s.fw.pause
    let t : State := { s with fw.pause := false, fw.fbPause := false, fw.fbDue := false }
    if again then t.enterSafe.pauseOver
    else (if inPause then t.enterSafe.toNew else t.enterSafe).fallback 6
  else s

end Sys2Proof.Machine
end

