-- ==== Sys2Proof/Machine/Bringup.lean ====
section
/-! DEFINITION. Node bring-up and delay measurement: the Management requests of the device, the identity check, the
thresholds it writes and reads back, the probe pairs and the three transit figures (R65, R69 to R74, R88, R247, R248). -/

namespace Sys2Proof.Machine

/-! ## Delays (R69 to R74) -/

/-- The sum of the elements of a list of integers. -/
def sumI (l : List Int) : Int := l.foldl (· + ·) 0

/-- What one probe pair gives, by the formulas of the chapter's delay measurement (R69). The half of a fibre's delay is rounded down to
whole 1/256 ns, the model's choice (log entry 141): the manual gives no rounding. -/
def probeCalc (sA rB sB : Int) (rows : List ProbeRow) : ProbeSet :=
  let n := rows.length
  let h := sB - rB
  let dAB := rB - sA
  let f (j : Nat) : Int := (rows.map (·.fab)).getD j 0
  let g (j : Nat) : Int := (rows.map (·.fba)).getD j 0
  let fwdAB (j : Nat) : Int := sumI ((rows.drop (j + 1)).map (·.fab))
  let fwdBA (j : Nat) : Int := sumI ((rows.drop (j + 1)).map (·.fba))
  let fib (j : Nat) : Int := Int.fdiv ((rows.map (·.i)).getD j 0 - h - f j - fwdAB j - fwdBA j) 2
  let fromB (j : Nat) : Int := fib j + fwdBA j
  let fromA (j : Nat) : Int := dAB - f j - fwdAB j - fib j
  let fibA (j : Nat) : Int := fromA j - sumI ((rows.take j).map (·.fab))
  let toA (j : Nat) : Int := fibA j + sumI ((rows.take j).map (·.fba))
  let js := List.range n
  { n := 1, dAB := dAB, dBA := if n = 0 then dAB else fromB 0 + g 0 + toA 0,
    fromA := js.map fromA, fromB := js.map fromB, toA := js.map toA, toB := js.map (fun j => fib j + fwdAB j) }

/-- Do two lists of delays differ by more than 1 ns in some place? -/
def offBy (l m : List Int) : Bool := (l.zip m).any (fun x => decide (256 < (x.1 - x.2).natAbs))

/-- Does a result of RUN differ from the prepare value by more than 1 ns (R69)? -/
def ProbeSet.drifted (p q : ProbeSet) : Bool := offBy [p.dAB, p.dBA] [q.dAB, q.dBA] ||
  offBy p.fromA q.fromA || offBy p.fromB q.fromB || offBy p.toA q.toA || offBy p.toB q.toB

/-- Whole nanoseconds of a delay in 1/256 ns, rounded up. That 0x2012 to 0x2015 round up is the model's choice (log entry 141):
the manual gives no rounding. No whole limit is passed by the rounding that the delay itself keeps. -/
def nsUp (d : Int) : Nat := (-(Int.fdiv (-d) 256)).toNat

/-- As `nsUp`, of tenths of 1/256 ns. -/
def nsUp10 (d : Int) : Nat := (-(Int.fdiv (-d) 2560)).toNat

/-- Response transit at one end (R71), in tenths of 1/256 ns. -/
def State.respTransit10 (s : State) (r : Nat) (endB : Bool) : Int :=
  let d := (s.ring r).delays
  let n := s.ringNodes r
  (List.range n).foldl (fun a j =>
    let far : Nat := if endB then j + 1 else n - j
    maxI a (10 * (if endB then d.toB else d.toA).getD j 0 + (far : Int) * (72 * s.byteTime10 r))) 0

/-- Wale delivery from one end (R72), in tenths of 1/256 ns. -/
def State.waleDelivery10 (s : State) (r : Nat) (endB : Bool) : Int :=
  (List.range (s.ringNodes r)).foldl (fun a j => maxI a (s.waleAt10 r endB j)) 0

/-- Block reach of a ring (R73): in a pair from the device's own end, else from the nearer end, in 1/256 ns. -/
def State.blockReach (s : State) (r : Nat) : Int :=
  let d := (s.ring r).delays
  (List.range (s.ringNodes r)).foldl (fun a j =>
    let x := d.fromA.getD j 0
    let y := d.fromB.getD j 0
    maxI a (if s.paired then (if s.sys.straps.pairselB then y else x) else if x < y then x else y)) 0

/-- The ends from which a ring may be commanded: both in a pair, else the one WALE_END names (R72). -/
def State.cmdEnds (s : State) (r : Nat) : List Bool := if s.paired then [false, true] else [s.cmdEndB r]

/-- The ends at which the device receives Responses (R71). -/
def State.drivenEnds (s : State) : List Bool := if s.paired then [s.sys.straps.pairselB] else [false, true]

/-- Record the transit figures of a ring in 0x2012 to 0x2015 (R69, R71, R74). -/
def State.recordTransit (s : State) (r : Nat) : State :=
  let d := (s.ring r).delays
  let s := s.wr 0x2012 (r + 1) (nsUp (maxI d.dAB d.dBA))
  let s := s.wr 0x2013 (r + 1) (nsUp10 (s.drivenEnds.foldl (fun a e => maxI a (s.respTransit10 r e)) 0))
  let s := s.wr 0x2014 (r + 1) (nsUp10 ((s.cmdEnds r).foldl (fun a e => maxI a (s.waleDelivery10 r e)) 0))
  s.wr 0x2015 (r + 1) (nsUp (s.blockReach r))

/-- TRANSIT (0x1001.05 [8]): a measured transit or delivery beyond T_ring, or a Block reach beyond 1.4 µs (R20, R72 to
R74). -/
def State.transitFails (s : State) : Bool :=
  s.rings.any (fun r => decide (s.tRing < s.rd 0x2012 (r + 1) ∨ s.tRing < s.rd 0x2013 (r + 1) ∨
    s.tRing < s.rd 0x2014 (r + 1) ∨ 1400 < s.rd 0x2015 (r + 1)))

/-- A Management write of `len` bytes. -/
def mgWrite (addr v len : Nat) : MgmtReq := { tag := 0, op := 1, addr := addr, data := beBytes v len, resends := 0 }

/-- A Management read; the list holds one byte for each that COUNT asks for. -/
def mgRead (addr len : Nat) : MgmtReq := { tag := 0, op := 0, addr := addr, data := List.replicate len 0, resends := 0 }

/-- A delay as DLY_A and DLY_B take it. -/
def dlyCode (d : Int) : Nat := (clampI 0 0x0FFFFFFF d).toNat

/-- DLY_A and DLY_B of a slot's node as the delays in use give them. -/
def State.dlyWrites (s : State) (n : Nat) : List MgmtReq :=
  let a := (s.slotNode n).getD 0
  let d := (s.ring (a / 16)).delays
  [mgWrite 0x110 (dlyCode (d.fromA.getD (a % 16) 0)) 4, mgWrite 0x114 (dlyCode (d.fromB.getD (a % 16) 0)) 4]

/-- The delays of a ring measured again after a relock (R66): they replace those in use, and the nodes that bring-up has reached are
written their DLY_A and DLY_B. One pair is taken for the measurement: the model's reading (log entry 176). -/
def State.remeasured (s : State) (r : Nat) (q : ProbeSet) : State :=
  let s := (s.setRing r { s.ring r with pref := q, remeasure := false }).recordTransit r
  (s.ringSlots r).foldl (fun s n =>
    let x := s.slot n
    if x.step = 5 ∨ x.step = 7 then s.setSlot n { x with todo := x.todo ++ s.dlyWrites n } else s) s

/-- PROBE_RETURN: outside RUN and COAST the pairs add up to the 16 that give the prepare value; afterwards a result that
differs by more than 1 ns raises the ring's lane source (R69). -/
def State.probeResult (s : State) (r : Nat) (q : ProbeSet) : State :=
  let x := s.ring r
  if s.running || x.pref.n != 0 then
    let s := s.wr 0x2012 (r + 1) (nsUp (maxI q.dAB q.dBA))
    let t := if q.drifted x.pref then s.raise (laneSrc r) else s.laneClear ((s.ringPorts r).headD 0)
    if x.remeasure then t.remeasured r q else t
  else
    let sum := x.psum.add q
    let s := s.setRing r { x with psum := sum, pref := if 16 ≤ sum.n then sum.mean else x.pref }
    s.recordTransit r

/-- PROBE_RETURN: a probe return completes a delay measurement of the ring (R69). -/
def execProbeReturn (ring : Fin 48) (sA rB sB : Int) (rows : List ProbeRow) (s : State) : Host.Outcome State Fault Refusal :=
  .next (if s.up && s.ringEn ring then s.probeResult ring (probeCalc sA rB sB rows) else s)

/-- Does the device drive an end of its rings (R42)? -/
def State.drivesEnd (s : State) (endB : Bool) : Bool := !s.paired || s.sys.straps.pairselB == endB

/-- Is TB0 valid: always in role SOLO or ACTIVE, in role STANDBY while aligned (R121)? -/
def State.tb0Valid (s : State) : Bool := s.commands || s.rdBit 0x1200 5 2

/-- A Sync frame of this tick. -/
def State.syncFrame (s : State) (subtype : Nat) (tDep tAux : BitVec 40) : SyncFrame :=
  { subtype := subtype, tick := s.clk.tick, tDep := tDep, tAux := tAux, tper := s.tNs }

/-- T_DEP of the tick's Syncs, t_start. -/
def State.syncDep (s : State) : BitVec 40 := s.clk.bnd + BitVec.ofNat 40 (256 * (s.tGather + 400))

/-- The probe out of a pair leaves end A in place of this tick's Sync, where the device drives end A. -/
def State.probeOut (s : State) (r : Nat) : State :=
  if s.drivesEnd false then
    (s.setRing r { s.ring r with probeNow := true }).send (.sync r false (s.syncFrame 1 s.syncDep 0))
  else s

/-- The probe return leaves end B at `sB`, with the arrival `rB` of the probe out in T_AUX, where the device drives end B. -/
def State.probeBack (s : State) (r : Nat) (rB sB : BitVec 40) : State :=
  if s.drivesEnd true then s.send (.sync r true (s.syncFrame 2 sB rB)) else s

/-- RING_PROBE: a probe pair of a ring. In a pair the member strapped A sends the probe out, the one strapped B the return (R69).
That the return leaves on the arrival of the probe out, beside end B's Sync, is the model's reading (log entry 156). -/
def execRingProbe (p : ProbePair) (s : State) : Host.Outcome State Fault Refusal :=
  .next (if s.up && s.ringEn p.ring && (s.paired || decide (p.ring.val < 24)) && s.tb0Valid then
    (s.probeOut p.ring).probeBack p.ring p.rB p.sB
  else s)

/-! ## What a node should hold -/

/-- A 16-bit threshold code: 32,767 for 0.0, else the quotient held to 1 to 32,767 (R247). -/
def ovCode (ov fs : Nat) : Int := if ov = 0 then 32767 else clampI 1 32767 (f32Div ov fs)

/-- The cell of an LV node's first or second place. -/
def State.lvCell (s : State) (n : Nat) (second : Bool) : Option Nat :=
  s.cellList.find? (fun c => s.cellType c == 3 && s.lvSlot c == n && s.lvSecond c == second)

/-- OVTH0 or OVTH1 that a node of a slot should hold (R247). -/
def State.ovth (s : State) (n : Nat) (second : Bool) : Int :=
  let fs := ((s.slot n).ident.map (fun i => i.measfs.getD (if second then 1 else 0) 0)).getD 0
  if s.rd (0x2400 + n) 2 = 4 then
    match s.lvCell n second with
    | some c => ovCode (s.rd (0x4001 + s.cellStr c) 3) fs
    | none => 32767
  else if second then 32767
  else match s.cellList.find? (fun c => s.mvSlot c == n) with
    | some c => ovCode (s.rd (0x4001 + s.cellStr c) 1) fs
    | none => 32767

/-- Is a MEASFS that a threshold of the node needs 0.0 (R247)? -/
def State.fsMissing (s : State) (n : Nat) : Bool :=
  let z (i : Nat) : Bool := (s.slot n).ident.all (fun d => (f32Rat (d.measfs.getD i 0)).1 == 0)
  if s.rd (0x2400 + n) 2 = 4 then
    ((s.lvCell n false).any (fun c => s.rd (0x4001 + s.cellStr c) 3 != 0) && z 0) ||
    ((s.lvCell n true).any (fun c => s.rd (0x4001 + s.cellStr c) 3 != 0) && z 1)
  else s.cellList.any (fun c => s.mvSlot c == n && s.rd (0x4001 + s.cellStr c) 1 != 0) && z 0

/-- STRMEM of a slot's node. -/
def State.strmem (s : State) (n : Nat) : Nat := (s.slotStrs n).foldl (fun a st => a + 2 ^ st) 0

/-- The writes of COASTWIN and the thresholds, read back after (R247, R248). -/
def State.limitWrites (s : State) (n : Nat) : List MgmtReq :=
  [mgWrite 0x118 (s.rd 0x2000 4) 4, mgWrite 0x120 (ofSigned 16 (s.ovth n false)) 2,
   mgWrite 0x122 (ofSigned 16 (s.ovth n true)) 2, mgRead 0x118 4, mgRead 0x120 4]

/-- Bring-up steps 4 and 5 (the requests after a passed identity check), CFG_DONE last. -/
def State.bringWrites (s : State) (n : Nat) : List MgmtReq :=
  s.dlyWrites n ++ [mgWrite 0x11C (s.strmem n) 1, mgWrite 0x11E (s.rd (0x2400 + n) 5) 2] ++ s.limitWrites n ++ [mgWrite 0x100 1 2]

/-! ## Identity (R88) -/

/-- The legs that the configuration assigns at a node: those with a command form, beyond those of Table NC-7 too: the model's reading
(log entry 183). -/
def State.assignedLegs (s : State) (n : Nat) : List Nat := (s.slotLegs n).map (· % 8)

/-- The result of the identity check (Table NC-8a): the first condition of R88 that fails. -/
def State.identCheck (s : State) (n : Nat) (i : NodeIdent) : Nat :=
  let cells := s.cellList.filter (fun c => s.mvSlot c == n || (s.cellType c == 3 && s.lvSlot c == n))
  let legs := s.assignedLegs n
  let rate := s.rdBit 0x2010 ((s.slotNode n).getD 0 / 16 + 1) 5
  let two := cells.any (fun c => s.cellType c == 3 && s.lvSlot c == n && s.lvSecond c)
  let want := s.rd (0x2400 + n) 3
  if !i.icrcOk then 3
  else if i.cverMajor ≠ 1 then 4
  else if i.nclass ≠ s.rd (0x2400 + n) 2 then 5
  else if want ≠ 0 ∧ i.serial ≠ want then 6
  else if legs.any (fun l => decide (i.nlegs ≤ l)) || decide (i.cells < (if two then 2 else if cells.isEmpty then 0 else 1)) ||
      legs.any (fun l => decide (l < 4) && i.legcell.getLsbD l != (i.nclass == 4 && decide (2 ≤ l))) then 7
  else if !(i.rates.getLsbD (if rate then 1 else 0)) then 8
  else if 100 < i.gran ∨ 64 < i.fwdlat then 9
  else if legs.any (fun l => !i.osdcap.getLsbD l) ||
      (i.bypt == 0 && i.nclass != 4 && cells.any (fun c => s.mvSlot c == n && s.bypEn c)) then 0xA
  else 1

/-! ## Requests -/

/-- The limits that a node holds once it has taken a write: COASTWIN, OVTH0, OVTH1 (Table NC-3). -/
def limAfter (q : MgmtReq) (l : Nat × Nat × Nat) : Nat × Nat × Nat :=
  if q.op ≠ 1 then l
  else if q.addr = 0x118 then (beNat q.data 0, l.2)
  else if q.addr = 0x120 then (l.1, beNat q.data 0, l.2.2)
  else if q.addr = 0x122 then (l.1, l.2.1, beNat q.data 0)
  else l

/-- Send the next Management request of a slot, with a new TAG (R65). -/
def State.mgmtSend (s : State) (n : Nat) (q : MgmtReq) : State :=
  let x := s.slot n
  let q := { q with tag := x.tag + 1, resends := 0 }
  (s.setSlot n { x with tag := x.tag + 1, req := some q, limSent := limAfter q x.limSent }).send (.mgmt n q.tag q.op q.addr q.data)

/-- The fault sources of a slot's strings: 0xB0 (node) or 0xB6 (management) plus the string (Table SF-8). -/
def State.slotRaise (s : State) (base n : Nat) : State := (s.slotStrs n).foldl (fun s st => s.raise (base + st)) s

/-- A node that fails its configuration: no CFG_DONE, its string's node source raised (R247, R248). -/
def State.bringFail (s : State) (n : Nat) : State :=
  let x := s.slot n
  let s := s.setSlot n { x with todo := if x.rewrite then [mgWrite 0x100 0 2] else [], step := 1, rewrite := false, nen := false }
  s.slotRaise 0xB0 n

/-- The identity has come: check it, and go on with steps 4 and 5 or leave the node in N-OFF (R88). -/
def State.identReply (s : State) (n : Nat) (ident : Option NodeIdent) : State :=
  match ident with
  | none => s
  | some i =>
    let r := s.identCheck n i
    let s := (s.setSlot n { s.slot n with ident := some i }).wr (0x2400 + n) 7 r
    if r ≠ 1 then s.setSlot n { s.slot n with step := 1, todo := [] }
    else if s.fsMissing n then s.bringFail n
    else s.setSlot n { s.slot n with step := 5, todo := s.bringWrites n }

/-- Does a readback agree with the values written before it (R247, R248)? -/
def SlotSt.readbackOk (x : SlotSt) (addr : Nat) (data : List Byte) : Bool :=
  if addr = 0x118 then decide (beNat data 0 = x.limSent.1)
  else decide (beNat data 0 = x.limSent.2.1 * 65536 + x.limSent.2.2)

/-- The node has taken CFG_DONE = 1: bring-up goes on with its coast pattern and its NEN bit (bring-up steps 6 and 7). -/
def State.bringDone (s : State) (n : Nat) : State :=
  s.setSlot n { s.slot n with step := 7, nen := true, patSent := none, patEver := false, stale := false }

/-- A reply completes a request (R65): what follows from it. The reply to a resend counts as transient (Table SF-12). -/
def State.mgmtDone (s : State) (n : Nat) (q : MgmtReq) (status : Nat) (data : List Byte) (ident : Option NodeIdent) : State :=
  let s := (s.slotStrs n).foldl (fun s st => s.unraise (0xB6 + st)) s
  let s := if 0 < q.resends then s.transient 0xB else s
  if q.op = 2 then s.identReply n ident
  else if q.op = 0 ∧ q.addr = 0x107 then
    if status = 0 then s.setSlot n { s.slot n with bypRead := BitVec.ofNat 4 (beNat data 0) } else s
  else if status ≠ 0 then s.bringFail n
  else if q.op = 0 then
    if (s.slot n).readbackOk q.addr data then
      (if q.addr = 0x120 ∧ !(s.slot n).todo.any (fun r => r.addr == 0x120) then s.setSlot n { s.slot n with rewrite := false } else s)
    else s.bringFail n
  else if q.addr = 0x100 then
    if beNat q.data 0 = 1 then s.bringDone n else s
  else s

/-- MGMT_REPLY: a reply with the TAG outstanding completes the request. One that fails its FCS is discarded and counted at
the port of the commanding end (R50, R65). -/
def execMgmtReply (slot : Fin 384) (tag : BitVec 8) (status : Nat) (data : List Byte) (ident : Option NodeIdent)
    (checkOk : Bool) (s : State) : Host.Outcome State Fault Refusal :=
  let n := slot.val
  .next (if !s.up then s
  else if !checkOk then
    match s.slotNode n with
    | some a => s.count 0x2017 ((s.ringPorts (a / 16)).headD 0 + 1)
    | none => s
  else match (s.slot n).req with
    | none => s
    | some q => if q.tag = tag then (s.setSlot n { s.slot n with req := none }).mgmtDone n q status data ident else s)

/-- MGMT_TIMEOUT: no reply within 4 ticks. The request is resent with its TAG up to 3 times; then the node's management
source enters the ladder (R65), and an identity read is recorded as unanswered (Table NC-8a). -/
def execMgmtTimeout (slot : Fin 384) (s : State) : Host.Outcome State Fault Refusal :=
  let n := slot.val
  let x := s.slot n
  .next (match x.req with
  | none => s
  | some q =>
    if q.resends < 3 then
      (s.setSlot n { x with req := some { q with resends := q.resends + 1 } }).send (.mgmt n q.tag q.op q.addr q.data)
    else
      let t := s.setSlot n { x with req := none, todo := if x.rewrite then [mgWrite 0x100 0 2] else [], step := 0, rewrite := false }
      let t := if q.op = 2 then t.wr (0x2400 + n) 7 2 else t
      let t := if x.rewrite then t.slotRaise 0xB0 n else t
      t.slotRaise 0xB6 n)

/-- What OVTH0 or OVTH1 of a slot's node is compared with: the set in force, or in N-BYPASS the values that the node keeps (R248). -/
def State.ovthHeld (s : State) (n : Nat) (second : Bool) : Int :=
  let x := s.slot n
  if x.resp.any (fun r => r.nstate == .bypass) then toSigned 16 (if second then x.limSent.2.2 else x.limSent.2.1) else s.ovth n second

/-- THRESHOLD_READBACK: in READY, RUN and COAST a difference counts as an SF2 trigger for each cell the node serves, once
the rewrite of a changed set has passed (R247, R248). -/
def execThresholdReadback (slot : Fin 384) (ovth0 ovth1 : Int) (s : State) : Host.Outcome State Fault Refusal :=
  let n := slot.val
  .next (if s.live && s.commands && (s.slotNode n).isSome && (s.slot n).ident.isSome && !(s.slot n).rewrite &&
      (ovth0 != s.ovthHeld n false || ovth1 != s.ovthHeld n true) then
    let t := (s.cellList.filter (fun c => s.mvSlot c == n || (s.cellType c == 3 && s.lvSlot c == n))).foldl
      (fun t c => t.setCell c { t.cell c with sf2 := true }) s
    t.slotRaise 0xB0 n
  else s)

end Sys2Proof.Machine
end

