-- ==== Sys2Proof/Machine/Resp.lean ====
section
/-! DEFINITION. What the device takes from a Response: its copy in the CSM, leg faults and interlocks, strength adaptation,
junction temperatures, a node back in N-OFF (R60, R88, R104, R146, R158, R159, R179, R387; Tables CE-9 and DL-12). -/

namespace Sys2Proof.Machine

/-- Bytes 0 to 59 of a Response as it came in at an end (Table DL-12), the node's ring, end and position in its header. -/
def respBytes (r : Response) (endB : Bool) : List Byte :=
  [0x10, BitVec.ofNat 8 (4 * (r.ring % 64) + (if endB then 2 else 0)),
   BitVec.ofNat 8 (16 * (r.pos % 16)), 0] ++
  beBytes r.seq.toNat 2 ++ beBytes 52 2 ++ beBytes (16 * nodeCode r.nstate) 1 ++ beBytes (respFlags r) 1 ++
  beBytes r.legflt.toNat 1 ++ beBytes r.intlk.toNat 1 ++ beBytes r.epochSeen 4 ++ beBytes r.wseq.toNat 2 ++
  (List.range 8).flatMap (fun i => beBytes (ofSigned 16 (r.meas.getD i (-32768))) 2) ++
  (List.range 4).flatMap (fun i => beBytes (ofSigned 16 (r.tj.getD i (-32768))) 2) ++
  (List.range 8).flatMap (fun i => beBytes (r.swt.getD i 0x7FFF) 2) ++ beBytes r.osd.toNat 2

/-- The slot status of Table CE-9 at the end of a slot's response area. -/
def State.putSlotStatus (s : State) (n : Nat) : State :=
  let x := s.slot n
  { s with cpu.csm := Tab.writeLE (n * 64 + 60) (x.sampleTick.toNat * 65536 + x.bits) 4 s.cpu.csm }

/-- A Response into the CSM's response area. -/
def State.putResponse (s : State) (n : Nat) (r : Response) (endB : Bool) : State :=
  { s with cpu.csm := Tab.writeBytes (n * 64) (respBytes r endB) s.cpu.csm }

/-! ## Legs -/

/-- A strength code one step on: faster above the window or for a time beyond its range, slower below it (R159). -/
def adaptCode (lo hi cmin cmax v code : Nat) : Nat :=
  if v = 0x7FFD ∨ v = 0x7FFF then code
  else if v = 0x7FFE ∨ hi < v then Nat.min cmax (code + 1)
  else if v < lo then Nat.max cmin (code - 1)
  else code

/-- Gate-strength adaptation of one leg from its SWT value (R159); none before a leg resumes after a block, whose end finds the
initial codes (R158, R170). -/
def State.adaptLeg (s : State) (h swt : Nat) : State :=
  let p := s.legProf h
  if s.legForm h = 0 ∨ (s.prof p).adapt = false ∨ s.legBlocked h = true ∨ (s.leg h).blocked = true then s
  else
    let l := s.leg h
    let v := swt % 0x8000
    let cmin := bitsN (s.rd (0x2060 + p) 11) 6 4
    let lo (sub : Nat) : Nat := s.rd (0x2060 + p) sub
    if 0x8000 ≤ swt then s.setLeg h { l with sOff := adaptCode (lo 9) (lo 10) cmin (s.strMax h) v l.sOff }
    else s.setLeg h { l with sOn := adaptCode (lo 7) (lo 8) cmin (s.strMax h) v l.sOn }

/-- LEGFLT of a leg sets where the Response reports it, and the leg is cut (R170); it clears only where a complete NEN toggle has cleared the node's bit
(R146). -/
def State.takeLegFlt (s : State) (h : Nat) (was now : Bool) : State :=
  if now then
    (if (s.leg h).status.getLsbD 0 then s else s.cutLegs (fun j => j == h)).legFlag h 1
  else if was then
    let l := s.leg h
    s.setLeg h { l with status := putBit false 0 l.status, sOn := s.strInit h, sOff := s.strInit h }
  else s

/-- INTLK_WB of a leg clears by a complete NEN toggle that leaves the node's own INTLK clear (R85, R146). -/
def State.takeIntlk (s : State) (h : Nat) (was now done : Bool) : State :=
  if (was || done) && !now then s.setLeg h { s.leg h with status := putBit false 1 (s.leg h).status } else s

/-- What a Response says of one leg, the Response before it given where there was one. -/
def State.takeLeg (s : State) (n : Nat) (o : Option Response) (r : Response) (l : Nat) : State :=
  let h := n * 8 + l
  let s := s.takeLegFlt h (o.any (fun x => x.legflt.getLsbD l)) (r.legflt.getLsbD l)
  let s := s.takeIntlk h (o.any (fun x => x.intlk.getLsbD l)) (r.intlk.getLsbD l)
    (s.slot n).nenDone
  s.adaptLeg h (r.swt.getD l 0x7FFF)

/-- A coast of the tick before that the builder did not decide, known from COASTED: the leg's state is the one that the pattern
replayed gives (R156, R164). -/
def State.learnCoast (s : State) (h : Nat) : State :=
  let l := s.leg h
  if l.coasted || s.legBlocked h then s
  else s.setLeg h { l with w := l.wPrev.feedAll (s.coastEdges h (s.patOf h) l.wPrev (-(s.tTb : Int)) 0), learnt := true }

/-- A node interlock that is new is an occurrence of the schedule source of its strings (Table SF-8). -/
def State.takeNodeIlk (s : State) (n : Nat) (o : Option Response) (r : Response) : State :=
  let before : BitVec 8 := (o.map (·.intlk)).getD 0
  if r.intlk &&& ~~~ before = 0 then s else (s.slotStrs n).foldl (fun s st => s.occur (0x80 + st)) s

/-! ## Junction temperatures (R387) -/

/-- The history kept: back to the first entry that is at least 1 ms old. -/
def keepHist (tNs : Nat) (now : BitVec 32) : List (BitVec 32 × List Int) → List (BitVec 32 × List Int)
  | [] => []
  | e :: t => if 1000000 ≤ tickDiff now e.1 * (tNs : Int) then [e] else e :: keepHist tNs now t

/-- Does a junction temperature rise by more than 2 °C per ms against one at least 1 ms older? Units are 1/16 °C. -/
def tjRise (tNs : Nat) (now : BitVec 32) (tj : List Int) (hist : List (BitVec 32 × List Int)) : Bool :=
  match hist.find? (fun e => decide (1000000 ≤ tickDiff now e.1 * (tNs : Int))) with
  | none => false
  | some e => (List.range 4).any (fun i =>
      let a := tj.getD i (-32768)
      let b := e.2.getD i (-32768)
      decide (a ≠ -32768 ∧ b ≠ -32768 ∧ 32 * (tickDiff now e.1 * (tNs : Int)) < (a - b) * 1000000))

/-- The junction temperatures of a Response: a fast rise is an occurrence of the node source of its strings and a record. -/
def State.takeTj (s : State) (n : Nat) (r : Response) : State :=
  let x := s.slot n
  let rise := tjRise s.tNs s.clk.tick r.tj x.tjHist
  let s := s.setSlot n { x with tjHist := (s.clk.tick, r.tj) :: keepHist s.tNs s.clk.tick x.tjHist }
  if rise then ((s.slotStrs n).foldl (fun s st => s.occur (0xB0 + st)) s).ev 3 7 0xFF evWarn n else s

/-! ## The Response -/

/-- Use a copy of a Response: the first that passes its check in the tick, by t_gather (R60). A copy taken after another failed counts
as transient. A node that regains lock on a port, or falls back to N-OFF, is brought up again (R66, R88). -/
def State.useResponse (s : State) (n : Nat) (r : Response) (endB fromPartner : Bool) : State :=
  let x := s.slot n
  if x.got || s.clk.gathered then s
  else
    let relock := x.resp.any (fun o => (!o.portALock && r.portALock) || (!o.portBLock && r.portBLock))
    let again := relock || (x.resp.any (fun o => decide (o.nstate ≠ .off)) && decide (r.nstate = .off))
    let s := s.setSlot n { x with
      resp := some r, got := true, stale := false, recovered := x.gotFailed || fromPartner, fromPartner := fromPartner,
      sampleTick := r.seq, step := if again then 0 else x.step }
    let s := if relock then s.setRing r.ring { s.ring r.ring with remeasure := true } else s
    let s := if x.gotFailed || fromPartner then s.transient (5 + r.ring / 16) else s
    let s := if x.stale then s.laneClear ((s.ringPorts r.ring).headD 0) else s
    let s := (s.putResponse n r endB).putSlotStatus n
    let s := (List.range 8).foldl (fun s l => s.takeLeg n x.resp r l) s
    let s := s.setSlot n { s.slot n with nenDone := false }
    let s := if r.coasted then (s.slotLegs n).foldl (fun s h => s.learnCoast h) s else s
    (s.takeNodeIlk n x.resp r).takeTj n r

end Sys2Proof.Machine
end

