-- ==== Sys2Proof/Machine/Ring.lean ====
section
/-! DEFINITION. Events of the Dollin rings: Responses, Heartbeats and Wales that reach a ring end, breaks and bridging,
Blocks at a ring end, a bypass that is not confirmed (R50, R51, R58 to R60, R68, R75 to R78, R215, R278). -/

namespace Sys2Proof.Machine

/-- A frame or record check failed at a port: counted in 0x2017 (R50, R51). -/
def State.portCheck (s : State) (p : Nat) : State := s.count 0x2017 (p + 1)

/-- A copy of a Response that fails its FCS: counted; in a pair the partner's copy is asked for (R60, Table RP-3). -/
def State.failResponse (s : State) (p n : Nat) (r : Response) : State :=
  let s := s.portCheck p
  let x := s.slot n
  if x.got then s
  else
    let s := s.setSlot n { x with gotFailed := true }
    if s.paired && !s.clk.gathered then s.sendSpar (.respReq r.ring r.pos s.clk.tick) else s

/-- Does the STANDBY relay Responses of a ring unrequested: its end sends the bridged portions (R76, Table RP-3)? -/
def State.relays (s : State) (r : Nat) : Bool :=
  s.paired && s.sys.role == .standby && (s.ring r).portionAt.any (fun t => decide (tickDiff s.clk.tick t ≤ 1))

/-- A Response of the tick taken, and relayed where its ring is bridged through this device. -/
def State.ringResponse (s : State) (p n : Nat) (r : Response) : State :=
  let t := s.useResponse n r (s.portEndB p) false
  if t.relays r.ring then t.sendSpar (.relay r.ring r.pos true r) else t

/-- RESPONSE_RECEIVE: a Response at a ring end. One with a wrong header or from another ring is discarded and counted
(R51); one that fails its FCS too (R50, R60). -/
def execResponseReceive (port : Fin 48) (r : Response) (hdrOk fcsOk : Bool) (s : State) : Host.Outcome State Fault Refusal :=
  let p := port.val
  .next (if !s.up || !s.laneWanted p then s
  else if !hdrOk || r.ring != s.portRing p then s.portCheck p
  else match s.nodeSlot (r.ring * 16 + r.pos) with
    | none => if fcsOk then s else s.portCheck p
    | some n =>
      if !fcsOk then s.failResponse p n r
      else if r.seq = s.clk.tick.truncate 16 then s.ringResponse p n r
      else s)

/-- A Heartbeat or a Wale from the opposite end has arrived at a port in this tick (FAR_OK, Table DL-3). -/
def State.farSeen (s : State) (p : Nat) : State :=
  let r := s.portRing p
  let x := s.ring r
  s.setRing r { x with hbTick := x.hbTick ||| (if s.paired || p % 2 = 0 then 1 else 2) }

/-- A STANDBY adopts the epoch of the ACTIVE from each of its Heartbeats (R283). -/
def State.adoptEpoch (s : State) (role epoch : Nat) : State :=
  if s.sys.role = .standby ∧ role = 1 then s.wr 0x5000 4 epoch else s

/-- RING_HEARTBEAT_RECEIVE: from the opposite end, for monitoring and failure detection only (R68, R278, R273); a partner
that claims ACTIVE there with an equal epoch makes the member strapped B give way, as does a larger epoch the ACTIVE (R284). -/
def execRingHeartbeatReceive (port : Fin 48) (h : Heartbeat) (checkOk : Bool) (s : State) :
    Host.Outcome State Fault Refusal :=
  let p := port.val
  .next (if !s.up || !s.laneWanted p then s
  else if !checkOk then s.portCheck p
  else
    let t := s.farSeen p
    let even := t.sys.role == .active && (decide (t.rd 0x5000 4 < h.epoch) ||
      (t.sys.straps.pairselB && h.role == 1 && h.epoch == t.rd 0x5000 4))
    if !t.paired || h.devid = t.devid then t
    else ({ t with
      pair.demote := t.pair.demote || even,
      pair.ringHbSeen := t.pair.ringHbSeen ||| BitVec.ofNat 48 (2 ^ s.portRing p),
      pair.activeSeen := t.pair.activeSeen || h.role == 1,
      pair.handover := t.pair.handover || (h.role == 1 && h.handover && decide (t.sys.role = .standby)),
      pair.maxEpoch := Nat.max t.pair.maxEpoch h.epoch } : State).adoptEpoch h.role h.epoch)

/-- The Wale last sent on a ring, where it has the sequence number named. -/
def State.waleOf (s : State) (r : Nat) (seq : BitVec 16) : Option Wale :=
  (s.ring r).lastWale.filter (fun w => w.hdr.seq == seq)

/-- Resend a Wale with its sequence number (R58, R59). -/
def State.resendWale (s : State) (r : Nat) (seq : BitVec 16) : State :=
  match s.waleOf r seq with
  | some w => (s.send (.wale r w.hdr.endB w)).setRing r { s.ring r with resent := true }
  | none => s

/-- A Wale has passed its check at the opposite end: one that had to be resent counts as transient (R271). -/
def State.walePassed (s : State) (r : Nat) (again : Bool) : State :=
  let t := s.setRing r { s.ring r with goodNow := true }
  (if again then t.transient (5 + r / 16) else t).laneClear ((s.ringPorts r).headD 0)

/-- Would a Wale that starts `startNs` after t0 still be at every node in time: does it pass the delivery check of R72 from there, its
last record complete by t_wale + T_ring (R59, Table DL-7)? -/
def State.resendFits (s : State) (r startNs : Nat) : Bool :=
  decide (2560 * (startNs : Int) + s.waleDelivery10 r (s.cmdEndB r) ≤ 2560 * ((s.tDl + 600 + s.tRing : Nat) : Int))

/-- A Wale has failed its check at the opposite end: it is resent once where that is possible in time, and else the fault is
lasting (R59, Table SF-12). -/
def State.waleFailed (s : State) (r : Nat) (seq : BitVec 16) (startNs : Nat) (again : Bool) : State :=
  if s.resendFits r startNs && !again then s.resendWale r seq else s.raise (laneSrc r)

/-- A Wale of the partner whose EPOCH exceeds the own one: an ACTIVE gives way at the next boundary (R284). -/
def State.waleEpoch (s : State) (epoch : Nat) : State :=
  { s with pair.demote := s.pair.demote || (s.sys.role == .active && decide (s.rd 0x5000 4 < epoch)) }

/-- WALE_END_CHECK: a Wale has reached the opposite end. A failing copy is resent where the resent Wale, which can start `startNs`
after t0, still passes the delivery check; in a pair the member at the opposite end reports it over Spar, with the positions whose
records failed (R59, Table RP-12), and gives way to a larger EPOCH (R284). -/
def execWaleEndCheck (ring : Fin 48) (seq : BitVec 16) (chk : EndCheck) (startNs : Nat) (isResend : Bool) (s : State) : Host.Outcome State Fault Refusal :=
  let r := ring.val
  let pass := chk.fcsOk && chk.rfail == 0
  let p := if s.paired then r else 2 * r + (if s.cmdEndB r then 0 else 1)
  .next (if !s.up || !s.ringEn r || (!s.paired && decide (24 ≤ r)) then s
  else
    let t := if pass then s.farSeen p else s.portCheck p
    if t.paired then
      let u : State := if chk.fcsOk then t.waleEpoch chk.epoch else t
      u.sendSpar (.waleReport r seq chk.epoch chk.fcsOk chk.rfail)
    else if pass then (if (s.waleOf r seq).isSome then t.walePassed r isResend else t)
    else t.waleFailed r seq startNs isResend)

/-- A place on a ring that can name a break: its location code towards end B, and the lock of its ports. -/
structure Stop where
  code : Nat
  lockA : Bool
  lockB : Bool
  silent : Bool
  deriving DecidableEq, Repr

/-- The places of a ring from end A to end B: the ends, with UP of the ports that the device drives there, and the configured nodes; one
that has reported nothing lies inside the break (R75). -/
def State.stops (s : State) (r : Nat) : List Stop :=
  let up (endB : Bool) : Bool := (s.ringPorts r).all (fun p => s.portEndB p != endB || s.portBit p 0)
  let nodes := (List.range (s.ringNodes r)).filterMap (fun p => (s.nodeSlot (r * 16 + p)).map (fun n =>
    let x := s.slot n
    { code := p, lockA := x.resp.any (·.portALock), lockB := x.resp.any (·.portBLock), silent := x.stale || x.resp.isNone : Stop }))
  ({ code := 0x10, lockA := true, lockB := up false, silent := false : Stop } :: nodes) ++
    [{ code := 0, lockA := up true, lockB := true, silent := false : Stop }]

/-- The segments on which the lock flags of neighbours show a break, each by the place before it; a silent node lies inside. -/
def breakCodes : Option Stop → Bool → List Stop → List Nat
  | _, _, [] => []
  | none, _, a :: t => breakCodes (some a) false t
  | some p, inside, a :: t =>
    if a.silent then breakCodes (some p) true t
    else if inside || !p.lockB || !a.lockA then p.code :: breakCodes (some a) false t
    else breakCodes (some a) false t

/-- The location of a ring's break (Table DL-1): two or more segments are 0xFE. Where no lock flag shows one, the segment that the
device finds (log entry 72). -/
def State.breakLoc (s : State) (r found : Nat) : Nat :=
  match breakCodes none false (s.stops r) with
  | [c] => c
  | [] => if found < s.ringNodes r then found else 0x10
  | _ => 0xFE

/-- RING_BREAK_DECLARE: a cause of a break has lasted 2 ticks; the place is recorded and the ring's source raised (R75). A second break
ends the ring's bridging (R77). -/
def execRingBreakDeclare (ring : Fin 48) (found : Nat) (s : State) : Host.Outcome State Fault Refusal :=
  let r := ring.val
  .next (if s.up && s.ringEn r && decide (2 ≤ (s.ring r).badTicks) then
    let loc := s.breakLoc r found
    let x := s.ring r
    let t := (s.wr 0x2016 (r + 1) loc).setRing r { x with
      goodTicks := 0, bridged := x.bridged && decide (loc ≤ 0x10), bridgeLane1 := x.bridgeLane1 && decide (loc ≤ 0x10) }
    (t.raise (laneSrc r)).ev 3 0xA r evState loc
  else s)

/-- How many rings may be bridged at once in a pair: one on each Spar lane that is UP (R77, R275). -/
def State.bridgeRoom (s : State) : Nat := (if s.laneUp 48 then 1 else 0) + (if s.laneUp 49 then 1 else 0)

/-- The positions that a bridge of a ring would serve, from the end that does not command. -/
def State.bridgedPos (s : State) (r : Nat) : List Nat := (List.range (s.ringNodes r)).filter (fun p => s.beyondBreak r p)

/-- Delivery of a bridged portion from its own end, in tenths of 1/256 ns (R72, R77). -/
def State.portionDelivery10 (s : State) (r : Nat) : Int :=
  let e := !s.cmdEndB r
  let l := s.bridgedPos r
  l.foldl (fun a j =>
    let bytes := (l.filter (fun i => if e then decide (i ≤ j) else decide (j ≤ i))).foldl (fun b i => b + 8 + 4 * s.reserved r i) 32
    maxI a (10 * ((if e then (s.ring r).delays.fromB else (s.ring r).delays.fromA).getD j 0) + (bytes : Int) * s.byteTime10 r)) 0

/-- Response transit of the bridged nodes at the portion's end, in tenths of 1/256 ns (R71, R77). -/
def State.portionResp10 (s : State) (r : Nat) : Int :=
  let e := !s.cmdEndB r
  let l := s.bridgedPos r
  l.foldl (fun a j =>
    let far := (l.filter (fun i => if e then decide (i ≤ j) else decide (j ≤ i))).length
    maxI a (10 * ((if e then (s.ring r).delays.toB else (s.ring r).delays.toA).getD j 0) + (far : Int) * (72 * s.byteTime10 r))) 0

/-- Block reach of the bridged nodes from the trip, in 1/256 ns: 0.1 µs to start, 0.3 µs over Spar in a pair (R62, R76, R77). -/
def State.portionReach (s : State) (r : Nat) : Int :=
  let e := !s.cmdEndB r
  (s.bridgedPos r).foldl (fun a j =>
    maxI a (256 * (if s.paired then 400 else 100) + (if e then (s.ring r).delays.fromB else (s.ring r).delays.fromA).getD j 0)) 0

/-- The conditions of R77 that rest on the measured delays; a relayed Response starts 0.2 µs after its tick's boundary and takes `relayNs`
over Spar (log entry 157). -/
def State.bridgeChecks (s : State) (r relayNs : Nat) : Bool :=
  decide (s.portionDelivery10 r ≤ 2560 * (s.tRing : Int)) && decide (s.portionReach r ≤ 256 * 1500) &&
  (!s.paired || decide (2560 * (200 + relayNs : Nat) + s.portionResp10 r ≤ 2560 * (s.tGather : Int)))

/-- BRIDGING_START: at the boundary after the declaration, where BRIDGE_EN is set and the conditions of R77 hold. -/
def execBridgingStart (ring : Fin 48) (relayNs : Nat) (s : State) : Host.Outcome State Fault Refusal :=
  let r := ring.val
  let others := (List.range 48).filter (fun k => (s.ring k).bridged)
  .next (if s.up && s.commands && s.ringEn r && s.rdBit 0x2010 (r + 1) 3 && decide (s.rd 0x2016 (r + 1) ≤ 0x10) &&
      s.bridgeChecks r relayNs && !(s.ring r).bridged && (!s.paired || decide (others.length < s.bridgeRoom)) then
    let lane1 := if s.paired then (others.any (fun k => !(s.ring k).bridgeLane1) || !s.laneUp 48) else false
    (s.setRing r { s.ring r with bridged := true, bridgeLane1 := lane1, goodTicks := 0 }).ev 2 0xA r evAction 1
  else s)

/-- BRIDGING_END: 64 ticks in a row whose whole Wale has reached the opposite end; the break location returns to 0xFF
(R78). -/
def execBridgingEnd (ring : Fin 48) (s : State) : Host.Outcome State Fault Refusal :=
  let r := ring.val
  .next (if decide (64 ≤ (s.ring r).goodTicks) && s.rd 0x2016 (r + 1) != 0xFF then
    let t := (s.setRing r { s.ring r with bridged := false, bridgeLane1 := false }).wr 0x2016 (r + 1) 0xFF
    (t.laneClear ((t.ringPorts r).headD 0)).ev 2 0xA r evAction 0
  else s)

/-- Has a gather come after B(k+2) + BYPT + 2 T (R215)? The last gather is this tick's once TICK_GATHER has run, else that of the tick
before. -/
def State.bypassLate (s : State) (c : Nat) : Bool :=
  match (s.cell c).bypTarget with
  | none => false
  | some t =>
    let bypt := ((s.slot (s.mvSlot c)).ident.map (·.bypt)).getD 0
    let k : Int := tickDiff s.clk.tick t - (if s.clk.gathered then 0 else 1)
    decide (((bypt * 100000 + 2 * s.tNs : Nat) : Int) < k * (s.tNs : Int) + (s.tGather : Int))

/-- BYPASS_FAIL: BYP_FAIL sets and the string's bypass-failure source is raised; SF2 takes its cluster action where SF2
decided the cell (R215, R250). -/
def execBypassFail (c : Fin 192) (s : State) : Host.Outcome State Fault Refusal :=
  let k := c.val
  let st := s.cellStr k
  .next (if s.cellType k != 0 && (s.strMap st 12).getLsbD (s.cellIdx k) && !(s.cell k).bypConf && !(s.cell k).bypFail &&
      s.bypassLate k then
    let t := (s.setCell k { s.cell k with bypFail := true }).occur (0xA6 + st)
    if (t.string st).sf2.getLsbD (t.cellIdx k) && t.commands then t.sf2Cluster else t
  else s)

/-- BLOCK_ARRIVAL_AT_RING_END: for monitoring, and for the Block path test of prepare (R68, Table SF-4). -/
def execBlockArrivalAtRingEnd (port : Fin 48) (b : BlockSet) (s : State) : Host.Outcome State Fault Refusal :=
  let r := s.portRing port
  .next (if s.sys.preparing && s.laneWanted port && b.wellFormed && b.scope == 0 && b.cause == 7 then
    s.setRing r { s.ring r with blockSeen := (s.ring r).blockSeen ||| (if s.paired || port.val % 2 = 0 then 1 else 2) }
  else s)

end Sys2Proof.Machine
end

