-- ==== Sys2Proof/Machine/Boundary.lean ====
section
/-! DEFINITION. The tick boundary: what it applies in one cycle, the transitions due, freshness, and the units that act at
it (R17, R23 to R32, R62, R75, R78, R87, R114 to R117, R140, R142, R195, R211, R225, R239, R248, R252, R255 to R257, R269,
R283, R304, R306, R323, R347, R359). -/

namespace Sys2Proof.Machine

/-! ## The tick goes on -/

/-- Operating time in µs, with the nanoseconds beyond it (R328). -/
def State.timeOn (s : State) (ns : Nat) : State :=
  { s with evr.opTime := s.evr.opTime + (s.clk.phase + ns) / 1000, clk.phase := (s.clk.phase + ns) % 1000 }

/-- The tick number and B(k + 1) = B(k) + T (R115). -/
def State.tickOn (s : State) : State :=
  let s := s.timeOn s.tNs
  { s with
    clk.tick := s.clk.tick + 1, clk.bnd := s.clk.bnd + BitVec.ofNat 40 s.tTb, clk.gathered := false, clk.deadline := false }

/-- A slot in a new tick: nothing received, nothing sent; a toggle of NEN goes on one step (R269). -/
def SlotSt.nextTick (x : SlotSt) : SlotSt :=
  { x with got := false, gotFailed := false, fresh := x.waleOut, waleOut := false,
           nenDone := x.nenDone || x.nenLeft == 2, nenLeft := if x.nenLeft = 2 then 0 else x.nenLeft,
           nenToggle := if x.nenToggle ≤ 1 then 2 * x.nenToggle else if x.nenToggle = 2 then 0 else x.nenToggle - 1 }

/-- A ring in a new tick: ticks in a row whose whole Wale has reached the opposite end count towards the end of bridging
(R78), Heartbeats of the last tick towards FAR_OK. -/
def RingSt.nextTick (x : RingSt) : RingSt :=
  { x with goodTicks := if x.goodNow then x.goodTicks + 1 else 0, goodNow := false, supp := [], suppEdges := 0,
           probeNow := false, hbPrev := x.hbTick, hbTick := 0 }

/-- A string in a new tick. -/
def StringSt.nextTick (x : StringSt) : StringSt :=
  { x with rdy := false, req := none, sortValid := false, lateKeys := none, allocOff := false, sortLatePrev := x.sortLate, sortLate := false,
           nclampPrev := x.nclamp, nclamp := false, releasedNow := false, bypNow := 0 }

/-- An engine in a new tick: no release, the global flags clear (R181), no following-error unit updated (R189). -/
def Engine.nextTick (x : Engine) : Engine :=
  { x with released := 0, events := x.events &&& 0xFFFF,
           follow := Tab.mapV Follow.init (fun f => { f with updated := false }) x.follow }

/-- Do the conditions of R77 that can change under way still hold of a bridged ring: bridging enabled, one break, and in a pair its Spar
lane UP? -/
def State.bridgeHolds (s : State) (r : Nat) : Bool :=
  s.rdBit 0x2010 (r + 1) 3 && decide (s.rd 0x2016 (r + 1) ≤ 0x10) && (!s.paired || s.laneUp (if (s.ring r).bridgeLane1 then 49 else 48))

/-- A ring that no longer meets them is bridged no more: its far nodes coast (R77). -/
def State.bridges (s : State) : State :=
  s.rings.foldl (fun s r => if (s.ring r).bridged && !s.bridgeHolds r then
    s.setRing r { s.ring r with bridged := false, bridgeLane1 := false } else s) s

/-- FAR_OK of a ring's ports: a Heartbeat or Wale from the opposite end in each of the last 2 ticks (Table DL-3). -/
def State.farOk (s : State) (r : Nat) : State :=
  let x := s.ring r
  let m := x.hbTick &&& x.hbPrev
  (s.ringPorts r).foldl (fun s p => s.setPortBit p 1 (m.getLsbD (if s.paired || p % 2 = 0 then 0 else 1))) s

/-- A group member in a new tick: ticks without its digest count (R294). -/
def Member.nextTick (m : Member) : Member :=
  if m.dig.isNone then m else { m with absent := if m.got then 0 else m.absent + 1, got := false }

/-- The group in a new tick: the ticks since a duplicate DEVID was last seen count too (R298). -/
def Grp.nextTick (g : Grp) : Grp :=
  { g with members := Tab.mapV Member.init Member.nextTick g.members, dupTicks := g.dupTicks + 1 }

/-- Every numbered part moves to the new tick; `d` is the tick just ended in 1/256 ns. -/
def State.partsOn (s : State) (d : Int) : State :=
  let s := (s.rings.foldl State.farOk s).bridges
  let f := { s.fld with
    slots := Tab.mapV SlotSt.init SlotSt.nextTick s.fld.slots, rings := Tab.mapV RingSt.init RingSt.nextTick s.fld.rings,
    strings := Tab.mapV StringSt.init StringSt.nextTick s.fld.strings, legs := Tab.mapV LegB.init (LegB.nextTick d) s.fld.legs,
    priors := [], localReleased := false }
  { s with
    fld := f, cpu.engines := Tab.mapV Engine.init Engine.nextTick s.cpu.engines,
    grp := { s.grp.nextTick with unsyncThen := s.rdBit 0x1200 5 4 } }

/-- A device that withholds group-coordinated functions from this boundary on, or takes them up again, marks its shares so (R300). -/
def State.sharesNow (s o : State) : State := if s.coordinated = o.coordinated then s else s.putShares

/-! ## What applies in the fabric cycle (R17, R304, R323) -/

/-- Something that applies at a boundary, in the order of acceptance. -/
inductive Apply where
  | shadow (key : Nat)
  | yelm (y : Yelm)
  | cfg (c : CfgDue)
  deriving DecidableEq, Repr

/-- Insert by acceptance number, equal numbers in the order given. -/
def insApply (x : Nat × Apply) : List (Nat × Apply) → List (Nat × Apply)
  | [] => [x]
  | y :: t => if x.1 < y.1 then x :: y :: t else y :: insApply x t

/-- Is a tick number due at the boundary of the tick in progress? -/
def State.isDue (s : State) (t : BitVec 32) : Bool := decide (tickDiff t s.clk.tick ≤ 0)

/-- What is due at this boundary, in the order of acceptance. -/
def State.applies (s : State) : List (Nat × Apply) :=
  let a := s.reg.shadow.filterMap (fun e => e.2.map (fun x => (x.seq, Apply.shadow e.1)))
  let b := (s.net.yelms.filter (fun y => s.isDue y.target)).map (fun y => (y.seq, Apply.yelm y))
  let c := (s.sys.cfgDue.filter (fun c => s.isDue c.at_)).map (fun c => (c.seq, Apply.cfg c))
  (a ++ b ++ c).foldl (fun l x => insApply x l) []

/-- The result of a yelm, with the boundary's tick, for its session, or in the recorder where that has ended (R323, Table OD-11). -/
def State.yelmTold (s : State) (y : Yelm) (status pos st : Nat) : State :=
  if y.alive then s.notifySess y.sess y.id ⟨status, s.clk.tick.toNat, [⟨st, 0, 0, pos⟩]⟩
  else s.ev 1 8 (sessUnit y.sess) evYelm ((((y.id * 2 ^ 32 + s.clk.tick.toNat) * 256 + status) * 65536 + pos) * 256 + st)

/-- A forwarded configuration applies; a set of writes that cannot raises 0xF4 (R289). -/
def State.cfgApply (s : State) : CfgJob → State
  | .items l => if (s.yelmFails true 0xFF l).isSome then s.raise 0xF4 else s.yelmApply 0xFF l
  | .package e p => if s.packageOk e p then (s.loadPackage e p).certCheck.refreshReady else s.raise 0xF4
  | .bank e content => s.setEngine e ((s.engine e).putBank 0 (content.take 4096))

/-- The entries that a list of writes names. -/
def itemKeys (l : List WItem) : List Nat := l.map (fun w => ekey w.idx w.sub)

/-- The entries that a forwarded configuration names. -/
def CfgJob.keys : CfgJob → List Nat
  | .items l => itemKeys l
  | .package _ _ => []
  | .bank _ _ => []

/-- What a boundary has applied: the state, the entries written, and the writes whose WO entries act after the cycle, with the roles they
act with. -/
structure Applied where
  st : State
  keys : List Nat
  after : List (BitVec 8 × List WItem)

/-- One thing applies; a yelm that fails its check writes nothing. -/
def Applied.one (x : Applied) : Apply → Applied
  | .shadow k => { x with st := x.st.applyShadow k, keys := k :: x.keys }
  | .yelm y =>
    match x.st.yelmFails false y.roles y.items with
    | none =>
      { st := (y.items.foldl (fun t w => t.confSerial y.serial w) (x.st.yelmApply y.roles y.items)).yelmTold y 0 0xFFFF 0,
        keys := itemKeys y.items ++ x.keys, after := x.after ++ [(y.roles, y.items)] }
    | some e => { x with st := (x.st.ev 3 8 (sessUnit y.sess) evYelm e.1).yelmTold y 0x11 e.1 e.2 }
  | .cfg c => { x with st := x.st.cfgApply c.job, keys := c.job.keys ++ x.keys }

/-- Everything due applies. -/
def State.applyDue (s : State) : Applied :=
  let x : Applied := s.applies.foldl (fun (x : Applied) a => x.one a.2) { st := s, keys := [], after := [] }
  { x with st := { x.st with net.yelms := x.st.net.yelms.filter (fun y => !s.isDue y.target),
                             sys.cfgDue := x.st.sys.cfgDue.filter (fun c => !s.isDue c.at_) } }

/-- The WO entries of the yelms that have applied act directly after the cycle, in the order of the yelms and of their writes (R323). -/
def State.actsNow (s : State) (l : List (BitVec 8 × List WItem)) : State :=
  l.foldl (fun s x => s.yelmDo x.1 s.actsAfter x.2) s

/-! ## What follows from changed entries -/

/-- Has the value in force of an entry changed? -/
def changed (o s : State) (idx sub : Nat) : Bool := o.rd idx sub != s.rd idx sub

/-- Has any of the subindices 1 to `n` of an entry changed? -/
def changedAny (o s : State) (idx n : Nat) : Bool := (List.range n).any (fun i => changed o s idx (i + 1))

/-- The safety set changed: BLOCKED becomes COMMISSION (R26, R256), and nodes configured already take the new limits, those in N-BYPASS excepted (R248). -/
def State.safetyChanged (s o : State) : State :=
  if safetyMembers.any (fun m => changed o s m.1 m.2) then
    let s := forUpTo (fun n s =>
      if (s.slot n).step = 7 && !(s.slot n).resp.any (fun r => r.nstate == .bypass) && (changed o s 0x2000 4 || o.ovth n false != s.ovth n false || o.ovth n true != s.ovth n true) then
        s.setSlot n { s.slot n with todo := (s.slot n).todo ++ s.limitWrites n, rewrite := true }
      else s) 384 s
    if s.sys.dev = .blocked then s.setDev .commission else s
  else s

/-- Rings switched on or off, the pair, the Ridge lanes: modules are checked, the role of a pair's member begins or
ends, and lanes are woken or put to sleep (R48, R80, R272). -/
def State.lanesChanged (s o : State) : State :=
  let on := (List.range 48).filter (fun r => s.ringEn r && !o.ringEn r && (s.paired || decide (r < 24)))
  let s := on.foldl (fun s r => s.ringEnabled r) s
  let s := s.pairChanged o
  if changedAny o s 0x2010 48 || changed o s 0x5000 1 || changed o s 0x5100 7 then s.wakeLanes.laneViews else s

/-- The analogue front end's sequences restart where their entries changed (R237). -/
def State.adcChanged (s o : State) : State :=
  if (List.range 8).any (fun m => changedAny o s (0x2701 + m) 40) || (List.range 4).any (fun k => changedAny o s (0x2709 + k) 2) ||
      (List.range 48).any (fun n => changed o s (0x2710 + n) 1) then s.adcRestart
  else s

/-- A changed profile, or another profile bound to a leg: its coast pattern is derived again (R165). -/
def State.profilesChanged (s o : State) : State :=
  if (List.range 16).any (fun p => changedAny o s (0x2060 + p) 11) ||
      (List.range 384).any (fun n => changed o s (0x2400 + n) 8) || (List.range 12).any (fun n => changed o s (0x2600 + n) 1) then
    let hs := s.formLegs.filter (fun h => s.prof (s.legProf h) != o.prof (o.legProf h))
    let t := hs.foldl (fun s h =>
      let l := s.leg h
      s.setLeg h { l with pat := l.pat.bind (fun _ => l.derive (s.prof (s.legProf h)) (s.legForm h) (s.legRole h)) }) s
    let t := ((hs.filter (fun h => decide (h < 0x8000))).map (· / 8)).eraseDups.foldl (fun s n => s.slotPattern n) t
    if hs.any (fun h => decide (0x8000 ≤ h)) then t.localPattern else t
  else s

/-- A changed mask or range of the trace discards its records (R194). -/
def State.traceChanged (s o : State) : State :=
  if changedAny o s 0x3101 16 || changedAny o s 0x3102 8 then
    ({ s with cpu.trace := [] } : State).wrBit 0x3100 4 3 false
  else s

/-- Changed outputs pass through their gates (R140). -/
def State.clockChanged (s o : State) : State :=
  let s := forUpTo (fun m s => if changed o s (0x1220 + m) 1 then s.outReconfig false m else s) 8 s
  forUpTo (fun m s => if changed o s (0x1230 + m) 1 then s.outReconfig true m else s) 4 s

/-- Compare channels whose target is among the entries written, or whose base has changed, take their targets (R142). -/
def State.cmpWritten (s o : State) (ks : List Nat) : State :=
  forUpTo (fun c s => if ks.contains (ekey (0x1240 + c) 2) || o.cmpBase c != s.cmpBase c then s.cmpTake c else s) 8 s

/-- An input that asserts already acts when its enable comes into force: trip inputs (R231) and fault inputs (R228). -/
def State.pinsChanged (s o : State) : State :=
  let s := forUpTo (fun i s => if s.rdBit (0x4100 + i) 1 7 && !o.rdBit (0x4100 + i) 1 7 && s.sys.pins.trip.getLsbD i then s.tripActs i else s) 8 s
  forUpTo (fun n s => if s.rdBit (0x2600 + n) 7 0 && !o.rdBit (0x2600 + n) 7 0 && s.sys.pins.flt.getLsbD n then
    (s.gate (2 ^ n) (fun x => { x with gFlt := true })).legFlag (0x8000 + n) 1 else s) 12 s

/-- The pending slot table comes into force (R17, R37). -/
def State.slotTable (s o : State) : State :=
  if changedAny o s 0x3201 128 then forUpTo (fun i s => s.wr 0x3202 (i + 1) (s.rd 0x3201 (i + 1))) 128 s else s

/-- The clock's reference list changed: the ADPLL uses the highest valid reference of the new list (R132), at once and whatever the
revertive flag: DESIGN CHOICE (log entry 186). -/
def State.refsChanged (s o : State) : State :=
  if changed o s 0x1210 1 then (if s.bestRef = s.adpllRef then s.refreshTiming else s.retake) else s

/-- Everything that follows from entries changed since `o`. -/
def State.follow (s o : State) : State :=
  if s.reg.od = o.reg.od then s
  else
    let s := (s.slotTable o).refreshChecks
    let s := ((((s.safetyChanged o).lanesChanged o).adcChanged o).traceChanged o).profilesChanged o
    ((s.clockChanged o).refsChanged o).pinsChanged o

/-- An accepted confirmation: the set and the confirmation go into both copies of the store, the event names the writer's certificate,
COMMISSION becomes BLOCKED (R257). -/
def State.confirmApplied (s : State) (serial : Nat) : State :=
  let s := ({ s with saf.confBy := none } : State).saveSafety (s.rd 0x4000 2)
  let s := (s.wr 0x4000 5 (Nat.min 0xFFFFFFFF (s.rd 0x4000 5 + 1))).ev 6 8 0 evAction serial
  if s.sys.dev = .commission ∧ s.confirmed = true then { s.setDev .blocked with evr.rainDue := true } else s

/-- The settings cycle of a boundary. -/
def State.settings (s : State) : State :=
  let y := s.applyDue
  let t := (((y.st.follow s).cmpWritten s y.keys).tbIncs s y.keys).actsNow y.after
  let t := match t.saf.confBy with
    | some c => t.confirmApplied c
    | none => t
  if t.net.netPend then ({ t with net.netPend := false } : State).endAllSessions else t

/-! ## Transitions due (Table CM-10) -/

/-- SAFE is left: the blocks of its causes end, their gates open, engines start anew, SAFE_N is high (R171, R225). -/
def State.leaveSafe (s : State) : State :=
  let s := s.endBlocks (fun b => b.cause == 1 || b.cause == 2 || b.cause == 3 || b.cause == 4 || b.cause == 8 || b.cause == 9)
  let s := s.mapLocs (fun _ x => { x with gTrip := false, gComp := false, gDebug := false })
  let s := { s with sys.pins.safeN := true, saf.safeClasses := 0,
                    cpu.engines := Tab.mapV Engine.init (fun x => { x with run := .idle }) s.cpu.engines }
  if s.confirmed then s.enterBlocked else s.setDev .commission

/-- The block, or the acknowledge in SAFE, that was requested. -/
def State.dueBlock (s : State) : State :=
  if s.sys.dev = .safe then
    if s.safeCause then s.wr 0x1001 4 3 else (s.leaveSafe).wr 0x1001 4 0
  else if s.live then (s.blockCluster 7).wr 0x1001 4 0
  else s.wr 0x1001 4 1

/-- Prepare begins: the blocks of hosts and ladder end, the Block path is tested, probe pairs are made anew, nodes blocked
get their NEN toggle (R28, R69, Table SF-4). -/
def State.duePrepare (s : State) : State :=
  if s.sys.dev = .blocked then
    let s := s.endBlocks (fun b => b.cause == 6 || b.cause == 7)
    let f := { s.fld with
      rings := Tab.mapV RingSt.init (fun x => { x with blockSeen := 0, psum := ProbeSet.init, pref := ProbeSet.init }) s.fld.rings,
      slots := Tab.mapV SlotSt.init (fun x => if x.step = 7 then { x with nen := true, nenToggle := 3, osdSent := false } else x) s.fld.slots }
    let s : State := { s with fld := f, sys.preparing := true, pair.prepTick := s.clk.tick }
    if s.commands then
      s.send (.blockSet s.driven 8 { scope := 0, strmask := 0, cause := 7, devid := s.devid, wellFormed := true })
    else s
  else s.wr 0x1001 4 1

/-- Deblock: READY to RUN where every bit of 0x1001.05 is clear; the gates of past blocks end (R24, R225). -/
def State.dueDeblock (s : State) : State :=
  let s := s.refreshReady
  if s.sys.dev = .ready then
    if s.rd 0x1001 5 = 0 then
      ((s.mapLocs (fun _ x => { x with gBlock := false })).wr 0x1001 4 0).setDev .run
    else (s.wr 0x1001 4 2).enterBlocked
  else s.wr 0x1001 4 1

/-- The switch-over: the roles change (R266, R282). -/
def State.dueSwitch (s : State) : State :=
  if s.sys.role = .active then s.toStandby else if s.sys.role = .standby then s.takeOver else s

/-- The swap of an engine's coefficient banks (R187). -/
def State.dueSwap (s : State) (e : Nat) : State :=
  if (s.engine e).swapPend then s.swapNow e else s

/-- Power goes off after a thermal shutdown (R388). -/
def State.powerDown (s : State) : State :=
  let p := { s.sys.pins with active := false, rstoutN := false, safeN := false }
  let s : State := { s.endAllSessions with sys.pins := p }
  { s with pw.thermalOff := true, pw.domains := 0 }

/-- One transition. -/
def State.dueOne (s : State) (d : Due) : State :=
  if d.kind = 3 then s.dueBlock
  else if d.kind = 4 then s.duePrepare
  else if d.kind = 5 then s.dueDeblock
  else if d.kind = 0x80 then s.addStep 0 d.arg
  else if d.kind = 0x81 then s.dueSwitch
  else if d.kind = 0x82 then s.dueSwap d.arg.toNat
  else if d.kind = 0x83 then (if s.live then s.blockCluster 7 else s)
  else if d.kind = 0x84 then s.powerDown
  else if d.kind = 0x85 then (if s.sys.dev = .blocked then s.setDev .commission else s)
  else s

/-- Does a transition wait for a command of its own: sleep? -/
def Due.waits (d : Due) : Bool := d.kind == 8

/-- The steps of TB0 due at this boundary join the base's pending step. -/
def State.dueSteps (s : State) : State :=
  let l := s.sys.due.filter (fun d => d.kind == 0x80 && s.isDue d.at_)
  let s := l.foldl State.dueOne s
  { s with sys.due := s.sys.due.filter (fun d => !(d.kind == 0x80 && s.isDue d.at_)) }

/-- Is a transition one of state or role, which an activation's pause holds back: at B(r) the runtime has those of B(a) (R354)? -/
def Due.held (d : Due) : Bool := d.kind == 3 || d.kind == 4 || d.kind == 5 || d.kind == 0x81 || d.kind == 0x83 || d.kind == 0x85

/-- Does a transition stay for a later boundary? -/
def State.dueLater (s : State) (d : Due) : Bool := d.waits || !s.isDue d.at_ || (s.fw.pause && d.held)

/-- Every other transition due at this boundary, in order. -/
def State.dueAll (s : State) : State :=
  let l := s.sys.due.filter (fun d => !s.dueLater d)
  let t : State := { s with sys.due := s.sys.due.filter s.dueLater }
  l.foldl State.dueOne t

/-! ## Freshness: RUN and COAST (Table CM-10, R252, R253) -/

/-- Has a node a fresh schedule from this device for the tick: not one in N-RUN or N-COAST whose record is missing? In role
STANDBY the builder's own schedule counts. -/
def State.slotFresh (s : State) (n : Nat) : Bool :=
  if s.commands then
    (s.slot n).fresh || !(s.slot n).resp.any (fun r => decide (r.nstate = .run ∨ r.nstate = .coast))
  else !(s.slotLegs n).any (fun h => (s.leg h).coasting)

/-- Has a string a fresh schedule? -/
def State.strFresh (s : State) (st : Nat) : Bool := !s.strEn st || (s.strSlots st).all s.slotFresh

/-- Have the local legs a fresh schedule: none replays its coast pattern, and no pause of an activation has left them without
one? -/
def State.locFresh (s : State) : Bool := !s.localLegs.any (fun h => (s.leg h).coasting)

/-- Where a coast window began: kept while the episode lasts. -/
def windowFrom (fresh : Bool) (now : BitVec 40) (t0 : Option (BitVec 40)) : Option (BitVec 40) :=
  if fresh then none else some (t0.getD now)

/-- The coast windows of strings and local legs; a STANDBY's are left to the reports of the nodes (R253). -/
def State.windows (s : State) : State :=
  if s.commands then
    let s := forUpTo (fun st s => s.setString st { s.string st with
      coastT0 := windowFrom (s.strFresh st) s.clk.bnd (s.string st).coastT0 }) 6 s
    { s with fld.localCoastT0 := windowFrom s.locFresh s.clk.bnd s.fld.localCoastT0 }
  else s

/-- RUN and COAST as the schedules of the tick make them (Table CM-10). -/
def State.freshness (s : State) : State :=
  if s.running then
    let s := s.windows
    let ok := (List.range 6).all s.strFresh && s.locFresh
    if s.sys.dev = .run ∧ ok = false then s.setDev .coast
    else if s.sys.dev = .coast ∧ ok = true then s.setDev .run
    else s
  else
    let f := { s.fld with
      localCoastT0 := none, strings := Tab.mapV StringSt.init (fun x => { x with coastT0 := none }) s.fld.strings }
    { s with fld := f }

/-! ## Units -/

/-- READY is left where a condition has set (R29). -/
def State.readyHeld (s : State) : State :=
  let s := s.refreshReady
  if s.sys.dev = .ready ∧ s.rd 0x1001 5 ≠ 0 then s.enterBlocked else s

/-- The set in force of a blocked string is empty (R211). -/
def State.blockedSets (s : State) : State :=
  forUpTo (fun st s => if s.strBlocked st then s.setString st { s.string st with setF := 0 } else s) 6 s

/-- One copy of every Block that lasts, on every driven port (R62). -/
def State.repeatBlocks (s : State) : State :=
  s.saf.blocks.foldl (fun s b => s.send (.blockSet s.driven 1 b)) s

/-- The challenge of the A-die monitor; none in the pause of an activation until 5 ms after its start (R255, R355). -/
def State.challengeNow (s : State) (ch : BitVec 32) : State :=
  let late := decide (5000000 ≤ tickDiff s.clk.tick s.fw.pauseTick * (s.tNs : Int))
  if s.fw.pause && !late then { s with clk.challenged := false }
  else { s with clk.challenge := ch, clk.challenged := true, fw.challPause := s.fw.pause }

/-- The tick that ends counts for CONTROL of the health checks: a STANDBY's with MIRROR_IN, and in a row those in RUN of a device that
ran at B(a) (Table FW-8). -/
def State.healthTick (s : State) : State :=
  if !s.fw.confirming || s.fw.pause then s
  else if s.sys.role = .standby then (if s.rdBit 0x5000 5 8 then { s with fw.ctrlGood := s.fw.ctrlGood + 1 } else s)
  else if s.sys.dev = .run then { s with fw.ctrlGood := s.fw.ctrlGood + 1 }
  else { s with fw.ctrlGood := 0 }

/-- A held pin of the local output stage rises once its floor has elapsed (R227). -/
def State.settleLocs (s : State) : State :=
  forUpTo (fun n s => s.setLoc n (((s.loc n).falls s.clk.bnd s.clk.moved).settle s.clk.bnd (s.rd (0x2600 + n) 6))) 12 s

/-- The pending group key replaces the key in use at its tick (R347). -/
def State.keyNow (s : State) : State :=
  if s.fw.groupKeyNext.isSome && s.rd 0x1422 2 == s.clk.tick.toNat then
    ({ s with fw.groupKey := s.fw.groupKeyNext, fw.groupKeyNext := none } : State).certCheck
  else s

/-- A change of the group leader applies (R296); TB1 goes on at its last increment (R119). -/
def State.leaderNow (s : State) : State :=
  if s.grp.leaderNext = s.grp.leader then s
  else ({ s with grp.leader := s.grp.leaderNext } : State).freerun 1

/-- May OTP bits be programmed: is every die reading between 0 °C and 105 °C (R345)? -/
def State.otpOk (s : State) : Bool :=
  (List.range 10).all (fun i => decide (0 ≤ s.rdInt 0x1331 (i + 1) 16 ∧ s.rdInt 0x1331 (i + 1) 16 ≤ 1680))

/-- The anti-rollback count raised to an image's ARB, or as soon as OTP may be programmed (R345). -/
def State.raiseArb (s : State) (arb : Nat) : State :=
  if arb ≤ s.rd 0x1400 2 then s
  else if s.otpOk then s.wr 0x1400 2 arb
  else { s with fw.arbWait := some arb }

/-- Copy 2 of the safety parameter store is written from copy 1 (R356). -/
def State.safetyCopy (s : State) : State := { s with saf.copy2 := s.saf.copy1 }

/-- A confirmation applies (R359): slots, anti-rollback count, revocation, both copies of the stores, a privileged record. -/
def State.confirmNow (s : State) : State :=
  if s.fw.confirmed then
    let h := s.runSlot.hdr
    let arb := Nat.max (s.rd 0x1400 2) ((h.map (·.arb)).getD 0)
    let s := s.setRunSlot { s.runSlot with status := 3 }
    let o := s.inactiveSlot
    let s := s.setInactive (if o.hdr.any (fun i => decide (i.arb < arb)) then FwSlot.empty else { o with status := 6 })
    let s := s.raiseArb arb
    let s := if h.any (·.revoke) then s.wr 0x1400 3 (s.rd 0x1400 3 ||| 2 ^ (1 - (h.map (·.sigkey)).getD 0 % 2)) else s
    let s : State := { s with fw.confirmed := false, fw.confirming := false }
    (((s.wr 0x1410 2 4).saveStores).safetyCopy).ev 1 4 0 evAction 4
  else s

/-- Copy 1 of the unit that is being saved is written whole, and copy 2 begins; while a confirmation is pending after a migration copy 2
stays (R306, R356). -/
def State.saveSecond (s : State) (u : StoreCopy) : State :=
  let e := if s.oldCopy then { s.evr with copy1 := u, saving := none }
    else { s.evr with copy1 := u, copy2 := s.evr.copy2.torn, saving := some (u, true) }
  { s with evr := e }

/-- The save pass of a boundary, where a persistent value differs from what the store holds: one unit, one copy after the other, a copy a
tick, so that a loss of power finds one of them whole (R306). Units held while MRAM writes are forbidden follow when they are permitted. -/
def State.savePass (s : State) : State :=
  let l := s.savedEntries ++ s.savedExports
  if s.mramLock then (if l = s.evr.copy1.ents then s else { s with evr.storeWait := true })
  else match s.evr.saving with
    | some (u, false) => s.saveSecond u
    | some (u, true) => { s with evr := { s.evr with copy2 := u, saving := none } }
    | none =>
      if l = s.evr.copy1.ents then { s with evr.rainDue := false }
      else { s with evr := { s.evr with copy1 := s.evr.copy1.torn, saving := some (s.saveUnit, false), storeWait := false, rainDue := false } }

/-- The domains in use: an engine with a program, a port configured (Table CM-3). The manual does not say which engines and
ports a domain holds; the halves of each are taken. -/
def State.domainsWanted (s : State) : BitVec 4 :=
  let ce (a : Nat) : Bool := (List.range 8).any (fun i => (s.engine (a + i)).pkg.isSome)
  let dl (a : Nat) : Bool := (List.range 24).any (fun i => s.laneWanted (a + i))
  BitVec.ofNat 4 (bitIf (ce 0) 0 + bitIf (ce 8) 1 + bitIf (dl 0) 2 + bitIf (dl 24) 3)

/-- A domain is switched only in BLOCKED, at a boundary (R370). -/
def State.switchDomains (s : State) : State :=
  if s.sys.dev = .blocked then { s with pw.domains := s.domainsWanted } else s

/-- The snapshot of the time bases, the settings and the transitions of a boundary. -/
def State.boundaryCycle (s : State) : State :=
  let d : Int := s.tTb
  let t := (s.tickOn.dueSteps).tbBoundary
  let s := ((t.partsOn d).sharesNow t).adcShifts d
  s.settings.dueAll.leaderNow.keyNow.confirmNow.missedFallback.certCheck

/-- How long a redundant frame is remembered, in µs: the standard's default entry lifetime, 400 ms (PRESUMED, log entry 190). -/
def redLife : Nat := 400000

/-- Redundant frames past their lifetime are forgotten; one for the device whose copy never came counts for the one port it came on (R308). -/
def State.redForget (s : State) : State :=
  let old (x : RedSeen) : Bool := decide (redLife ≤ s.evr.opTime - x.at_)
  let t := s.net.redSeen.foldl (fun s x =>
    if !old x || !x.mine || x.e0 == x.e1 then s else s.count 0x1101 (if x.e0 then 4 else 5)) s
  { t with net.redSeen := t.net.redSeen.filter (fun x => !old x) }

/-- The delays that have drifted are recalibrated (R123, R226, Table EV-5). -/
def State.recalibrate (s : State) : State :=
  if s.fld.delayNext = [] then s
  else
    let c := s.fld.delayNext.foldl (fun t e => Tab.set 0 e.1 (e.2.getD 0) t) s.fld.delayCal
    { s with fld.delayCal := c, fld.delayNext := [] }

/-- What the units do at a boundary. -/
def State.boundaryUnits (s : State) (ch : BitVec 32) : State :=
  let s := s.healthTick.fallbackMove.freshness.readyHeld.blockedSets
  ((s.settleLocs.adcBoundary).repeatBlocks.challengeNow ch).switchDomains.recalibrate.redForget.subsDue.savePass

/-- Has RESET_N been low for 10 µs by this boundary, counted from the first boundary of the low (R382)? -/
def State.resetHolds (s : State) : Bool := !s.sys.pins.resetN && decide (10000 ≤ s.sys.resetLow * s.tNs)

/-- One more boundary of a low on RESET_N. -/
def State.resetTick (s : State) : State := if s.sys.pins.resetN then s else { s with sys.resetLow := s.sys.resetLow + 1 }

/-- BOUNDARY: the boundary of the next tick, while the runtime is up (R17). A RESET_N that has been low for 10 µs holds the device in
internal reset from here until it rises (R382). -/
def execBoundary (challenge : BitVec 32) (s : State) : Host.Outcome State Fault Refusal :=
  .next (if !s.up then s
  else if s.resetHolds then s.holdReset
  else s.resetTick.boundaryCycle.boundaryUnits challenge)

end Sys2Proof.Machine
end

