-- ==== Sys2Proof/Machine/Gather.lean ====
section
/-! DEFINITION. The tick from the gather to the allocator: missing Responses, availability, SF2 and bypass decisions, the
missing heartbeats of a pair, the collector, string status blocks, Sorter and Level allocator (R60, R75, R203 to R216, R249
to R253, R262, R278). -/

namespace Sys2Proof.Machine

/-! ## Missing Responses (R60, R271) -/

/-- A Response that no valid copy has delivered: STALE sets; one lost after both copies is a lasting fault of its ring. -/
def State.missSlot (s : State) (n : Nat) : State :=
  let x := s.slot n
  match s.slotNode n with
  | none => s
  | some a =>
    if x.got then s.putSlotStatus n
    else
      let lost := x.resp.isSome && decide (x.step = 7) && s.ringEn (a / 16)
      let s := s.setSlot n { x with stale := true, recovered := false, fromPartner := false, sampleTick := s.clk.tick.truncate 16 }
      (if lost then s.raise (laneSrc (a / 16)) else s).putSlotStatus n

/-- Every slot at t_gather. -/
def State.missing (s : State) : State := forUpTo (fun n s => s.missSlot n) 384 s

/-- A node down without the device having blocked it (Table SF-8, class 0xB): N-FAULT, or N-BLOCK while no block stands. -/
def State.nodeBad (s : State) (n : Nat) (st : Nat) : Bool :=
  (s.slot n).resp.any (fun r => !(s.slot n).stale &&
    (r.nstate == .fault || (r.nstate == .block && s.live && s.saf.blocks.isEmpty && !s.rdBit 0x4200 4 st &&
      decide ((s.slot n).nenToggle = 0))))

/-- The node source of every string. -/
def State.nodeSources (s : State) : State :=
  forUpTo (fun st s => if s.strEn st then s.cond (0xB0 + st) ((s.strSlots st).any (fun n => s.nodeBad n st)) else s) 6 s

/-! ## Bypass (R213, R215, R249 to R251) -/

/-- Is a cell's Response at or above the device threshold OV_BYP of its string, or is a trigger pending (R248, R249)? -/
def State.sf2Trigger (s : State) (c : Nat) : Bool :=
  let ov := s.rd (0x4001 + s.cellStr c) 2
  let x := s.slot (s.mvSlot c)
  let fs := (x.ident.map (fun i => i.measfs.getD 0 0)).getD 0
  (s.cell c).sf2 ||
  (ov != 0 && !x.stale && x.resp.any (fun r => let m : Int := r.meas.getD 0 (-32768); decide (m ≠ -32768) && decide (f32Div ov fs ≤ m)))

/-- Is the cell's bit set in the bypass map in force? -/
def State.bypBit (s : State) (c : Nat) : Bool := (s.strMap (s.cellStr c) 12).getLsbD (s.cellIdx c)

/-- The bypass bit of a cell sets. -/
def State.bypass (s : State) (c : Nat) : State :=
  let st := s.cellStr c
  let x := s.string st
  let t := s.wr (0x2100 + st) 12 (mapOfBits (mapPut (s.strMap st 12) (s.cellIdx c) true))
  t.setString st { x with bypClr := mapPut x.bypClr (s.cellIdx c) false, bypNow := mapPut x.bypNow (s.cellIdx c) true }

/-- A bypass asked for of a cell without BYP_EN: not made; the string's bypass source is raised, once while the cause lasts (R213). -/
def State.noBypass (s : State) (c : Nat) : State :=
  if (s.cell c).noBypRaised then s
  else (s.setCell c { s.cell c with noBypRaised := true }).occur (0xA0 + s.cellStr c)

/-- Does SF2 act for a cell at this gather (R249)? -/
def State.sf2Hit (s : State) (c : Nat) : Bool := s.strEn (s.cellStr c) && s.sf2Trigger c && !(s.bypBit c && (s.cell c).bypConf)

/-- SF2 for one cell: its source, and the bypass where BYP_EN is set (R249). -/
def State.sf2Cell (s : State) (c : Nat) : State :=
  if s.sf2Hit c then
    let st := s.cellStr c
    let s := s.setCell c { s.cell c with sf2 := false }
    let s := s.raise (0x10 + st)
    if s.bypEn c then
      (s.setString st { s.string st with sf2 := mapPut (s.string st).sf2 (s.cellIdx c) true }).bypass c
    else s.noBypass c
  else s

/-- Is SF2 evaluated: READY, RUN or COAST, role SOLO or ACTIVE, no pause of an activation (R249, R251, Table FW-7)? -/
def State.sf2Runs (s : State) : Bool := s.live && s.commands && !s.fw.pause

/-- SF2 on every configured cell; the cluster action where it acts for one without BYP_EN (R250). -/
def State.sf2All (s : State) : State :=
  if s.sf2Runs then
    let t := s.cellList.foldl State.sf2Cell s
    if s.cellList.any (fun c => s.sf2Hit c && !s.bypEn c) then t.sf2Cluster else t
  else s

/-- The nodes of a cell that are commanded to bypass it. -/
def State.bypSlots (s : State) (c : Nat) : List Nat :=
  if s.cellType c = 3 ∧ s.rdBit (0x2200 + c) 6 1 = true then [s.mvSlot c, s.lvSlot c] else [s.mvSlot c]

/-- BYPSTAT's confirmed bit of a cell: [2] for a node's first cell, [3] for its second. -/
def State.bypSeen (s : State) (c n : Nat) : Bool :=
  (s.slot n).bypRead.getLsbD (if n == s.lvSlot c && s.cellType c == 3 && s.lvSecond c then 3 else 2)

/-- Does a node of a slot have to be asked for BYPSTAT: a cell it is commanded to bypass is not confirmed, or one that has
left the bypass map is still confirmed (R213, R214)? -/
def State.bypAsk (s : State) (n : Nat) : Bool :=
  s.cellList.any (fun c => (s.bypSlots c).contains n && (s.bypBit c != (s.cell c).bypConf))

/-- BYP_CONF follows the confirmed bits (R213, R214). -/
def State.bypConfirm (s : State) (c : Nat) : State :=
  let x := s.cell c
  let seen := (s.bypSlots c).all (s.bypSeen c)
  let noneSeen := (s.bypSlots c).all (fun n => !s.bypSeen c n)
  if s.bypBit c then
    if seen && !x.bypConf then s.setCell c { x with bypConf := true, bypFail := false, bypTarget := none } else s
  else
    let conf := x.bypConf && !noneSeen
    if x.bypConf != conf || x.bypFail || x.bypTarget.isSome then
      s.setCell c { x with bypConf := conf, bypFail := false, bypTarget := none, obsFrom := if conf then x.obsFrom else s.clk.tick }
    else s

/-- Every cell's confirmation. -/
def State.bypConfirms (s : State) : State := s.cellList.foldl State.bypConfirm s

/-- The cause of source 0x10 + s ends once every cell SF2 has decided is confirmed (R249), and nothing triggers it anew. -/
def State.sf2Ends (s : State) : State :=
  forUpTo (fun st s =>
    let x := s.string st
    let again := s.sf2Runs && s.strEn st && (s.cellsOf st).any (fun c => !s.bypEn c && s.sf2Trigger c)
    if (Tab.get 0 1 s.saf.cause).testBit st && !again &&
        (s.cellsOf st).all (fun c => !x.sf2.getLsbD (s.cellIdx c) || (s.cell c).bypConf) then
      (s.setString st { x with sf2 := 0 }).unraise (0x10 + st)
    else s) 6 s

/-- Is a cause that the cell's auto-bypass bits enable present: AB_FAULT, AB_LEGFLT, AB_STALE (Table SS-3)? -/
def State.autoCause (s : State) (c : Nat) : Bool :=
  let b := s.rd (0x2200 + c) 6
  (b.testBit 2 && (s.cellSlots c).any (fun n => (s.slot n).resp.any (fun r => r.nstate == .fault))) ||
  (b.testBit 3 && s.cellLegFlt c) || (b.testBit 4 && (s.cellBits c).testBit 3)

/-- The auto-bypass decision for one cell (R213). -/
def State.autoCell (s : State) (c : Nat) : State :=
  if s.autoCause c && !s.bypBit c then (if s.bypEn c then s.bypass c else s.noBypass c)
  else if (s.cell c).noBypRaised && !s.autoCause c && !s.sf2Trigger c then s.setCell c { s.cell c with noBypRaised := false }
  else s

/-- Auto-bypass on every configured cell, in every state, by the device that commands (R213). -/
def State.autoAll (s : State) : State := if s.commands then s.cellList.foldl State.autoCell s else s

/-! ## Availability (R203 to R205, R216) -/

/-- The samples of every cell, and the map of stale ones. -/
def State.samples (s : State) : State :=
  let s := s.cellList.foldl State.takeSample s
  forUpTo (fun st s =>
    let m := (s.cellsOf st).foldl (fun a c => if s.sampleStale c then mapPut a (s.cellIdx c) true else a) (0 : BitVec 96)
    s.setString st { s.string st with staleMap := m }) 6 s

/-- The available cells of each string; MARGIN and BELOW_MIN with their sources. -/
def State.avails (s : State) : State :=
  forUpTo (fun st s =>
    let x := s.string st
    let m := s.availNow st
    let a := count96 m
    let nmin := s.rd (0x2100 + st) 8
    let on := s.strEn st && s.live
    let margin := on && decide (a < nmin + s.rd (0x2100 + st) 9)
    let below := on && decide (a < nmin)
    ((s.setString st { x with avail := m, availPrev := x.avail, margin := margin, belowMin := below }).cond (0xD0 + st) margin).cond
      (0xD6 + st) below) 6 s

/-- Is a string derated: at ladder L2 or above; in role STANDBY as the ACTIVE mirrors it (R206, R267)? -/
def State.strDerated (s : State) (st : Nat) : Bool :=
  if s.sys.role = .standby then s.pair.svcDerated.getLsbD st else decide (2 ≤ s.strLevel st)

/-- Cell transitions of the last second, 0x2100+s.14. -/
def State.transitions (s : State) : State :=
  forUpTo (fun st s =>
    let x := s.string st
    if x.transFrom + 1000000 ≤ s.evr.opTime then
      (s.setString st { x with trans := 0, transFrom := s.evr.opTime }).wr (0x2100 + st) 20 x.trans
    else s) 6 s

/-- The status blocks of the enabled strings into the CSM (R205). -/
def State.statusBlocks (s : State) : State :=
  forUpTo (fun st s =>
    if s.strEn st && s.live then
      { s with cpu.csm := Tab.writeBytes (0x8000 + 0x80 * st) (statusBlock s st (s.strLevel st) (s.strDerated st)) s.cpu.csm }
    else s) 6 s

/-! ## The pair (R253, R278) -/

/-- The device's own ends of enabled rings. -/
def State.pairEnds (s : State) : List Nat := s.rings

/-- The missing-heartbeat condition of the tick (R278). -/
def State.hbMissing (s : State) : Bool :=
  let ends := s.pairEnds
  let silent := ends.filter (fun r => !s.pair.ringHbSeen.getLsbD r)
  decide (s.pair.sparInTime = 0) && decide (ends.length ≤ 2 * silent.length)

/-- Does the partner report READY, RUN or COAST? -/
def State.partnerLive (s : State) : Bool := s.pair.partner.any (fun h => decide (4 ≤ h.state ∧ h.state ≤ 6))

/-- Does the partner stay behind this ACTIVE: not in RUN or COAST while this device is, or not in READY, RUN or COAST (R31,
R267)? -/
def State.partnerBehind (s : State) : Bool :=
  if s.running then s.pair.partner.any (fun h => !decide (5 ≤ h.state ∧ h.state ≤ 6)) else !s.partnerLive

/-- Has the partner stayed behind: while this device runs, or 500 ms after a prepare that has brought this device to READY
(R28, R31)? The 500 ms are the model's reading (log entry 138). -/
def State.standsBehind (s : State) : Bool :=
  s.partnerBehind && (s.running || (decide (s.sys.dev = .ready) &&
    decide (500000000 ≤ tickDiff s.clk.tick s.pair.prepTick * (s.tNs : Int))))

/-- The mean offset to the partner over the lanes heard in this tick, doubled, in 1/256 ns (R276). -/
def State.pairOffset2 (s : State) : Option Int :=
  let o (l : Nat) : Option Int := if s.pair.sparRx.getLsbD l then Tab.get none l s.pair.sparOff else none
  match o 0, o 1 with
  | some a, some b => some (a + b)
  | some a, none => some (2 * a)
  | none, some b => some (2 * b)
  | none, none => none

/-- Has every lane of Spar that is UP brought its heartbeat of the tick? -/
def State.upLanesHeard (s : State) : Bool :=
  s.pair.sparRx != 0 && (s.pair.sparRx.getLsbD 0 || !s.laneUp 48) && (s.pair.sparRx.getLsbD 1 || !s.laneUp 49)

/-- The offset to the partner in 0x1201.06; a STANDBY steps TB0 by it on first alignment in BLOCKED or COMMISSION, and steers TB0 with
it from then on (R121, R276). -/
def State.steerTb0 (s : State) : State :=
  match s.pairOffset2 with
  | none => s
  | some d =>
    let t := s.wr 0x1201 6 (ofSigned 32 (Int.fdiv d 2))
    if s.sys.role ≠ .standby then t
    else if !t.pair.tb0Stepped && t.cfgState then ({ t with pair.tb0Stepped := true } : State).addStep 0 (divRound d 512)
    else t.servo 0

/-- Does a lane's delay exceed 100 ns (R274)? -/
def State.laneSlow (s : State) (l : Nat) : Bool := decide (100000 < s.rd 0x5000 (11 + l))

/-- Do the offsets of the two lanes, both measured in the tick, differ by more than 20 ps (R276)? -/
def State.lanesDiffer (s : State) : Bool :=
  match Tab.get none 0 s.pair.sparOff, Tab.get none 1 s.pair.sparOff with
  | some a, some b => s.pair.sparRx == 3 && decide (5120 < 1000 * (a - b).natAbs)
  | _, _ => false

/-- Source 0xF2 or 0xF3 as a lane's delay and the lanes' offsets make it, judged once per tick: what lasts is one occurrence (R274,
R276). -/
def State.laneJudged (s : State) (l : Nat) : State :=
  if s.laneSlow l || (l == 0 && s.lanesDiffer) then (if s.causePresent (0xF2 + l) then s else s.raise (0xF2 + l))
  else if s.laneUp (48 + l) && s.pair.sparRx.getLsbD l && !s.pair.sparBad.getLsbD l then s.unraise (0xF2 + l)
  else s

/-- Is a doubled offset within ±20 ps? -/
def offNear (d : Int) : Bool := decide (1000 * d.natAbs ≤ 2 * 5120)

/-- What the tick's heartbeats of the partner leave: lanes without one, the alignment's ticks in a row, PAIR_CHK's ticks in a
row, the ticks without an ACTIVE (R122, R266, R273, R276, R278, R290). -/
def State.hbTick (s : State) (miss : Bool) : Pair :=
  let n := if miss then s.pair.hbMissed + 1 else 0
  let d := s.pairOffset2
  let seen := s.pair.sparRx != 0
  let arr (l : Nat) (t : Tab (Option (BitVec 40))) := if s.pair.sparRx.getLsbD l then t else Tab.set none l none t
  { s.pair with
    hbMissed := n, noActive := if s.pair.activeSeen then 0 else s.pair.noActive + 1, activeSeen := false, sparRx := 0, sparInTime := 0,
    ringHbSeen := 0, partnerSeen := seen, sparPrevArr := arr 0 (arr 1 s.pair.sparPrevArr), sparBad := 0,
    alignGood := if d.any offNear then s.pair.alignGood + 1 else 0,
    alignBad := if d.any (fun x => decide (512 < x.natAbs)) then s.pair.alignBad + 1 else 0,
    chkBad := if seen && s.pair.partner.any (fun h => h.pairChk != s.pairCheck) then s.pair.chkBad + 1 else if seen then 0 else s.pair.chkBad,
    fseqSeen := if 8 ≤ n then [] else s.pair.fseqSeen }

/-- A lane of Spar at t_gather: a heartbeat missed is counted, a message that failed its check and its second attempt raises
the lane's source (Table SF-12). -/
def State.sparLane (s : State) (l : Nat) : State :=
  let t := if s.pair.sparRx.getLsbD l then s else s.count 0x5000 (9 + l)
  if s.pair.sparBad.getLsbD l then t.raise (0xF2 + l) else t

/-- The heartbeats of the tick: missing ones in a row; without one TB0 of a STANDBY runs free (R118); the ACTIVE raises 0xF0 at N of them. In its own pause a device counts
none (R354). -/
def State.heartbeats (s : State) : State :=
  if !s.paired then s
  else
    let miss := s.hbMissing && !s.fw.pause
    let s := if s.sys.role = .standby ∧ s.pair.sparRx = 0 then s.freerun 0 else if s.upLanesHeard then s else s.steerTb0
    let s := (s.laneJudged 0).laneJudged 1
    let p := s.hbTick miss
    let t : State := { (s.sparLane 0).sparLane 1 with pair := p }
    if t.sys.role = .active ∧ p.hbMissed = t.rd 0x5000 3 then t.lossOfRedundancy
    else if t.sys.role = .active ∧ miss = false ∧ t.partnerBehind = false then
      t.unraise 0xF0
    else t

/-- A STANDBY keeps of each string the first boundary whose tick a node reported as coasted (R253). The episode lasts while the last valid
Response of a node says so: a lost Response does not end it. -/
def State.standbyCoast (s : State) : State :=
  if s.sys.role = .standby then
    forUpTo (fun st s =>
      let x := s.string st
      let c := (s.strSlots st).any (fun n => (s.slot n).resp.any (·.coasted))
      s.setString st { x with
        coastT0 := if c then some (x.coastT0.getD (s.clk.bnd - BitVec.ofNat 40 s.tTb)) else none }) 6 s
  else s

/-! ## Breaks (R75) -/

/-- The causes of a break that hold on a ring in this tick (R75): UP and FAR_OK of each driven port, the lock of each port that a
configured node reports. -/
def State.ringBreaks (s : State) (r : Nat) : List Nat :=
  (s.ringPorts r).flatMap (fun p => (if s.portBit p 0 then [] else [2 * p]) ++ (if s.portBit p 1 then [] else [2 * p + 1])) ++
  (s.ringSlots r).flatMap (fun n => match (s.slot n).resp with
    | some o => if (s.slot n).stale then [] else
      (if o.portALock then [] else [1000 + 2 * n]) ++ (if o.portBLock then [] else [1001 + 2 * n])
    | none => [])

/-- The ticks in a row of each cause of a break, and the longest. -/
def State.breaks (s : State) : State :=
  s.rings.foldl (fun s r =>
    let x := s.ring r
    let run := (s.ringBreaks r).map (fun c => (c, ((x.badRun.find? (fun y => y.1 == c)).map (·.2)).getD 0 + 1))
    s.setRing r { x with badRun := run, badTicks := run.foldl (fun a y => Nat.max a y.2) 0 }) s

/-! ## The gather -/

/-- What the gather makes of the Responses. -/
def State.gatherNodes (s : State) : State := s.missing.nodeSources.breaks.samples.bypConfirms

/-- The safety and bypass decisions of a gather. -/
def State.gatherDecide (s : State) : State := s.sf2All.autoAll.sf2Ends.avails

/-- The pair and the collector: no evaluation in the pause of an activation (Table FW-7). -/
def State.gatherEnd (s : State) : State :=
  let s := s.standbyCoast.heartbeats
  if s.fw.pause then s else s.collector

/-- TICK_GATHER: t_gather (R18, R60). -/
def execTickGather (s : State) : Host.Outcome State Fault Refusal :=
  .next (if s.up then
    let s := s.gatherNodes.gatherDecide.gatherEnd.transitions.statusBlocks
    { s with clk.gathered := true }
  else s)

/-! ## Sorter (R207, R208) -/

/-- The ranks of a string's available cells, with the keys they stand for. -/
def State.sortString (s : State) (st : Nat) : State :=
  let x := s.string st
  let cells := (s.cellsOf st).filter (fun c => x.avail.getLsbD (s.cellIdx c))
  let idx := cells.map s.cellIdx
  let order := rankSort (s.sortKey st) idx
  let conf := (s.cellsOf st).map s.cellIdx
  let keys := idx.foldl (fun (t : Tab Nat) i => Tab.set 0 i (s.sortKey st i) t) []
  let s := s.setString st { x with
    order := order, keys := keys, keysRanked := order.length, sortValid := true, sortTick := s.clk.tick.truncate 16 }
  { s with cpu.csm := (sorterBeats conf).foldl (fun m b =>
      Tab.writeBytes (0x6000 + 0x100 * st + 32 * b) (((sorterBytes order conf).drop (32 * b)).take 32) m) s.cpu.csm }

/-- Has the Sorter written every enabled string of a lower number (R208)? -/
def State.sortTurn (s : State) (st : Nat) : Bool := (List.range st).all (fun j => !s.strEn j || (s.string j).sortValid)

/-- SORTER_COMPLETE: the ranks of a string are written, in the order of the strings; one completed after t_start is late (R208). -/
def execSorterComplete (st : Fin 6) (late : Bool) (s : State) : Host.Outcome State Fault Refusal :=
  .next (if s.up && s.live && s.strEn st && !s.fw.pause && !(s.string st).sortValid && s.sortTurn st then
    let t := s.sortString st
    if late then ((t.setString st { t.string st with sortLate := true }).count (0x2100 + st.val) 22).occur (0x90 + st.val)
    else t
  else s)

/-! ## Level allocator (R182, R209 to R212) -/

/-- The event bit ALLOC_RDY of a string sets in every engine. -/
def State.allocReady (s : State) (st : Nat) : State :=
  forUpTo (fun e s => s.setEngine e { s.engine e with events := (s.engine e).events ||| BitVec.ofNat 32 (2 ^ (4 + st)) }) 16 s

/-- One allocation (R209). -/
def State.allocRun (s : State) (st n : Nat) (dir : Bool) : State :=
  let x := s.string st
  let i := 0x2100 + st
  let y := allocate x (fun k => Tab.get 0 k x.keys) (s.rd i 6) (s.rd i 7) n dir (s.strBlocked st)
  let y := { y with trans := x.trans + count96 (x.setF ^^^ y.setF) }
  let s := (s.setString st y).allocReady st
  if y.nclamp then s.count i 21 else s

/-- ALLOCATION_RUN: the request has landed and the ranks are valid, both by t_dl (R209, R211). -/
def execAllocationRun (st : Fin 6) (s : State) : Host.Outcome State Fault Refusal :=
  .next (if s.up && s.live && s.strEn st && (s.string st).sortValid && !(s.string st).rdy && !(s.string st).allocOff then
    match (s.string st).req with
    | some (n, dir) => s.allocRun st n dir
    | none => s
  else s)

end Sys2Proof.Machine
end

