-- ==== Sys2Proof/Machine/Wale.lean ====
section
/-! DEFINITION. What the device sends on its rings in a tick: Heartbeats, Syncs, coast patterns, Management requests, regular
and supplementary Wales, bridged portions (R53, R55, R58, R63 to R65, R68, R72, R76, R88, R96, R121, R123, R163, R164, R168,
R213, R276). -/

namespace Sys2Proof.Machine

/-! ## Heartbeats -/

/-- Does the device ask for the hand-over of the ladder's L5 (HFLAGS[0], R266)? -/
def State.handoverFlag (s : State) : Bool := s.pair.handover && s.sys.role == .active

/-- The ring Heartbeat (Table DL-15). -/
def State.ringHb (s : State) : Heartbeat :=
  { devid := s.devid, epoch := s.rd 0x5000 4, tick := s.clk.tick, state := devCode s.sys.dev, role := roleCode s.sys.role,
    ladder := s.highest, timingDegraded := s.rdBit 0x1200 5 7, unsync := s.rdBit 0x1200 5 4, handover := s.handoverFlag }

/-- The Spar heartbeat of a lane (Table RP-4): its departure at t_hb, and the partner's last arrival on the lane. -/
def State.sparHbOf (s : State) (lane : Nat) : SparHb :=
  { devid := s.devid, epoch := s.rd 0x5000 4, tick := s.clk.tick, state := devCode s.sys.dev, role := roleCode s.sys.role,
    ladder := s.highest, timingDegraded := s.rdBit 0x1200 5 7, unsync := s.rdBit 0x1200 5 4, handover := s.handoverFlag,
    safetyChk := s.rd 0x4000 1, pairChk := s.pairCheck, tDep := s.clk.bnd + BitVec.ofNat 40 (256 * s.tNs / 20),
    tAux := (Tab.get none lane s.pair.sparPrevArr).getD 0, pairCfgd := s.paired, mirrorIn := s.rdBit 0x5000 5 8,
    pairAlign := s.rdBit 0x1200 5 2, pairselB := s.sys.straps.pairselB }

/-- The Heartbeats of every driven end. -/
def State.sendRingHbs (s : State) : State :=
  s.rings.foldl (fun s r => (s.ringPorts r).foldl (fun s p => s.send (.heartbeat r (s.portEndB p) s.ringHb)) s) s

/-- The heartbeats on both Spar lanes, their departure kept for the next tick's delays (R276). -/
def State.sendSparHbs (s : State) : State :=
  let o := Tab.set 0 0 (s.sparHbOf 0).tDep (Tab.set 0 1 (Tab.get 0 0 s.pair.sparPrevOwn) s.pair.sparPrevOwn)
  let s := (s.sparOn 1 (.hb (s.sparHbOf 0))).sparOn 2 (.hb (s.sparHbOf 1))
  { s with pair.sparPrevOwn := o }

/-- TICK_HEARTBEAT: t_hb = 0.05 T (R18, R53, R276). -/
def execTickHeartbeat (s : State) : Host.Outcome State Fault Refusal :=
  .next (if s.up then (if s.paired then s.sendRingHbs.sendSparHbs else s.sendRingHbs) else s)

/-! ## Sync (R63, R121, R123) -/

/-- The Syncs of t_start on every driven end; a probe out takes the place of its ring's at end A. -/
def State.sendSyncs (s : State) : State :=
  if s.tb0Valid then
    let f := s.syncFrame 0 s.syncDep 0
    s.rings.foldl (fun s r => (s.ringPorts r).foldl (fun s p =>
      if (s.ring r).probeNow && !s.portEndB p then s else s.send (.sync r (s.portEndB p) f)) s) s
  else s

/-! ## Coast patterns (R64, R168) -/

/-- The slots of a ring that a Coast-pattern frame may go to: a pattern is held for the node, which is brought up and not in
N-BYPASS. -/
def State.coastSlots (s : State) (r : Nat) : List Nat :=
  (s.ringSlots r).filter (fun n => (s.slot n).step == 7 && !(s.slotLegs n).isEmpty &&
    !(s.slot n).resp.any (fun x => x.nstate == .bypass))

/-- Has the pattern of a slot changed since it was last sent? -/
def SlotSt.patChanged (x : SlotSt) : Bool :=
  match x.patSent with
  | none => true
  | some p => !decide (p.period = x.pat.period ∧ p.ents = x.pat.ents ∧ p.anchor = x.pat.anchor)

/-- Ticks since the last frame of a slot. -/
def State.patAge (s : State) (n : Nat) : Int := tickDiff s.clk.tick (s.slot n).patTick

/-- The slots of the cells whose transformer bridge legs a slot shares: the other node of a phase-shift pair. -/
def State.pspOther (s : State) (n : Nat) : List Nat :=
  (s.cellList.filter (fun c => s.cellType c == 3 && (s.mvSlot c == n || s.lvSlot c == n))).map
    (fun c => if s.mvSlot c = n then s.lvSlot c else s.mvSlot c)

/-- Is it the turn of a slot because the frame of its pair's other node left in the tick before? -/
def State.pspTurn (s : State) (n : Nat) : Bool :=
  (s.slot n).patChanged && (s.pspOther n).any (fun m => (s.slot m).patEver && decide (s.patAge m = 1))

/-- Would a slot's changed frame leave in one tick with that of its pair's other node, on another ring? The two leave in consecutive
ticks (R168). -/
def State.pspWaits (s : State) (n : Nat) : Bool :=
  (s.slot n).patChanged && (s.pspOther n).any (fun m => (s.slot m).patEver && decide (s.patAge m = 0))

/-- The rank of a slot in the choice of R168, smallest first. -/
def State.patRank (s : State) (n : Nat) : Nat :=
  if !(s.slot n).patEver then 0
  else if 48 ≤ s.patAge n then 1
  else if s.pspTurn n then 2
  else if s.pspWaits n then 5
  else if (s.slot n).patChanged then 3
  else 4

/-- The slot of two that is served first: the lower rank, then the longest ago, then the first. -/
def State.patFirst (s : State) (a b : Nat) : Nat :=
  if s.patRank b < s.patRank a ∨ (s.patRank b = s.patRank a ∧ s.patAge a < s.patAge b) then b else a

/-- Send a slot its pattern. -/
def State.sendPat (s : State) (r n : Nat) : State :=
  let x := s.slot n
  let v := if x.patChanged && x.patEver then (x.pver + 1) % 65536 else x.pver
  let p := { x.pat with pver := v }
  (s.setSlot n { x with patSent := some x.pat, patTick := s.clk.tick, patEver := true, pver := v }).send
    (.coastFrame r ((s.slotNode n).getD 0 % 16) p)

/-- At most one Coast-pattern frame on each ring (R168). -/
def State.sendPats (s : State) : State :=
  if s.commands then
    s.rings.foldl (fun s r => match s.coastSlots r with
      | [] => s
      | n :: t => s.sendPat r (t.foldl s.patFirst n)) s
  else s

/-! ## Management (R65, R88, R213) -/

/-- Can the device reach a ring: is one of its driven ports UP? -/
def State.ringUp (s : State) (r : Nat) : Bool := (s.ringPorts r).any (fun p => s.portBit p 0)

/-- The Management request of one slot in a tick: bring-up from its first step for a node that reports N-OFF, then what is
waiting, then the reading of BYPSTAT. A STANDBY only reads: the node refuses its writes (R87). -/
def State.mgmtSlot (s : State) (n : Nat) : State :=
  match s.slotNode n with
  | none => s
  | some a =>
    let x := s.slot n
    if x.req.isSome || !s.ringEn (a / 16) || !s.ringUp (a / 16) then s
    else
      let step := if x.step = 1 ∧ (x.got && x.resp.any (fun r => r.nstate == .off)) = true then 0 else x.step
      if step = 0 then
        (s.setSlot n { x with step := 2, todo := [] }).mgmtSend n { tag := 0, op := 2, addr := 0, data := [], resends := 0 }
      else if s.sys.role = .standby ∧ step = 5 then s.setSlot n { x with step := 7, nen := true, todo := [] }
      else match x.todo with
        | q :: t => (s.setSlot n { x with todo := t }).mgmtSend n q
        | [] => if s.bypAsk n then s.mgmtSend n (mgRead 0x107 1) else s

/-- The Management requests of a tick; none in the pause of an activation. -/
def State.sendMgmt (s : State) : State := if s.fw.pause then s else forUpTo (fun n s => s.mgmtSlot n) 384 s

/-! ## Regular Wales (R55, R58, R72, R96, R164) -/

/-- The edges of a slot's record for the next tick, in ascending offset. -/
def State.slotEdges (s : State) (n : Nat) : List Edge :=
  sortEdges ((s.slotLegs n).flatMap (fun h => (s.leg h).sched.map (fun e =>
    { leg := h % 8, st := e.st, strength := e.str, offset := (e.t - (s.tTb : Int)).toNat })))

/-- ARG of a bypass command: the node's cells whose bit is set and not confirmed. -/
def State.bypArg (s : State) (n : Nat) : Nat :=
  s.cellList.foldl (fun a c =>
    if (s.bypSlots c).contains n && s.bypBit c && !(s.cell c).bypConf then
      a ||| (if s.cellType c = 3 ∧ s.lvSlot c = n ∧ s.lvSecond c = true then 2 else 1)
    else a) 0

/-- Is an off-state test due for a slot: its node is in N-READY in a prepare and has had no test command yet (R112)? -/
def State.osdDue (s : State) (n : Nat) : Bool :=
  s.sys.preparing && !(s.slot n).osdSent && decide ((s.slot n).nenToggle = 0) && !(s.assignedLegs n).isEmpty &&
  (s.slot n).resp.any (fun r => r.nstate == .ready)

/-- The command of a slot's record: a bypass before an off-state test (Table DL-10, R213). -/
def State.recCmd (s : State) (n : Nat) : Nat × Nat :=
  if s.bypArg n ≠ 0 then (1, s.bypArg n)
  else if s.osdDue n then (2, (s.assignedLegs n).foldl (fun a l => a ||| 2 ^ l) 0)
  else (0, 0)

/-- The record of a slot for the next tick. -/
def State.slotRec (s : State) (n pos : Nat) : NodeRec :=
  { pos := pos, cmd := (s.recCmd n).1, arg := BitVec.ofNat 16 (s.recCmd n).2, edges := s.slotEdges n, rcrcOk := true }

/-- The positions of a ring's records, farthest from the end they leave from first (R55). -/
def walePos (endB : Bool) : List Nat := if endB then List.range 16 else (List.range 16).reverse

/-- The slots addressed by the Wale that leaves an end: brought up, not coasting, on the near or the far side. -/
def State.waleSlots (s : State) (r : Nat) (endB far : Bool) : List (Nat × Nat) :=
  (walePos endB).filterMap (fun p => (s.nodeSlot (r * 16 + p)).bind (fun n =>
    if (s.slot n).step == 7 && !s.slotCoasts n && s.farSide r p == far then some (n, p) else none))

/-- The NEN bits of a ring's nodes: set for a node brought up, but for the ticks of a toggle (R85, R96, R269). -/
def State.nenBits (s : State) (r : Nat) : BitVec 16 :=
  BitVec.ofNat 16 ((List.range 16).foldl (fun a p => match s.nodeSlot (r * 16 + p) with
    | some n => if (s.slot n).nen && decide ((s.slot n).nenToggle < 2) then a ||| 2 ^ p else a
    | none => a) 0)

/-- CPV: every addressed node with a pattern holds one sent within the last 64 ticks (R168). -/
def State.cpv (s : State) (l : List (Nat × Nat)) : Bool :=
  l.all (fun x => (s.slotLegs x.1).isEmpty || ((s.slot x.1).patEver && decide (s.patAge x.1 ≤ 64)))

/-- The header of a Wale (Table DL-8). -/
def State.waleHdr (s : State) (r : Nat) (endB supp bridge cpv : Bool) : WaleHdr :=
  { supp := supp, ring := r, endB := endB, devid := s.devid, seq := (s.ring r).seq, epoch := s.rd 0x5000 4,
    tgtT0 := if supp then s.clk.bnd else s.clk.bnd + BitVec.ofNat 40 s.tTb, state := devCode s.sys.dev,
    role := roleCode s.sys.role, bridge := bridge, cpv := cpv, nen := s.nenBits r,
    tick := if supp then s.clk.tick else s.clk.tick + 1, hcrcOk := true }

/-- The regular Wale of one side of a ring. -/
def State.regularWale (s : State) (r : Nat) (endB far : Bool) : Wale :=
  let l := s.waleSlots r endB far
  { hdr := s.waleHdr r endB false far (s.cpv l), recs := l.map (fun x => s.slotRec x.1 x.2) }

/-- A Wale or a portion leaves: from the device's own end, or in a pair over Spar from the partner's (R76). -/
def State.sendPortion (s : State) (r : Nat) (w : Wale) : State :=
  if s.paired then s.sendSpar (.bridged r w) else s.send (.wale r w.hdr.endB w)

/-- What the sending of a slot's record leaves behind: a fresh schedule, the off-state test sent, the target boundary of a
cell's first bypass command (R215, R252). -/
def State.recSent (s : State) (n : Nat) : State :=
  let s := s.setSlot n { s.slot n with waleOut := true, osdSent := (s.slot n).osdSent || (s.recCmd n).1 == 2 }
  s.cellList.foldl (fun s c =>
    if s.mvSlot c == n && s.bypBit c && !(s.cell c).bypConf && (s.cell c).bypTarget.isNone then
      s.setCell c { s.cell c with bypTarget := some (s.clk.tick + 1) }
    else s) s

/-- Has the ring's regular Wale of the tick left? -/
def State.waleSent (s : State) (r : Nat) : Bool :=
  (s.ring r).lastWale.any (fun w => !w.hdr.supp && w.hdr.tick == s.clk.tick + 1)

/-- The NEN bit of a slot's node has left in a regular Wale header (R85). -/
def State.nenSent (s : State) (r n : Nat) : State :=
  let x := s.slot n
  let bit := (s.slotNode n).any (fun a => (s.nenBits r).getLsbD (a % 16))
  s.setSlot n { x with nenLeft := if !bit then 1 else if x.nenLeft = 1 then 2 else x.nenLeft }

/-- The regular Wale of a ring, and its bridged portion first where the ring is bridged. -/
def State.sendWale (s : State) (r : Nat) : State :=
  let e := s.cmdEndB r
  let s := s.setRing r { s.ring r with seq := (s.ring r).seq + 1, resent := false }
  let w := s.regularWale r e false
  let slots := (s.waleSlots r e false ++ (if (s.ring r).bridged then s.waleSlots r (!e) true else [])).map (·.1)
  let t := if (s.ring r).bridged then s.sendPortion r (s.regularWale r (!e) true) else s
  let t := (t.send (.wale r e w)).setRing r { t.ring r with lastWale := some w }
  (s.ringSlots r).foldl (fun t n => t.nenSent r n) (slots.foldl State.recSent t)

/-- Does the device send Wales on a ring now: it commands, the ring is in use, no activation pauses it (Table FW-7)? -/
def State.walesOn (s : State) (r : Nat) : Bool :=
  s.up && s.commands && !s.fw.pause && s.ringEn r && (s.paired || decide (r < 24))

/-- REGULAR_WALE_SEND: between t_dl and t_wale, once in a tick (R18, R72). -/
def execRegularWaleSend (ring : Fin 48) (s : State) : Host.Outcome State Fault Refusal :=
  .next (if s.walesOn ring && !s.waleSent ring then s.sendWale ring else s)

/-! ## Supplementary Wales (R72, R162, R163) -/

/-- The legs whose supplementary edges a record carries are done: their schedules of the tick stand. -/
def State.suppDone (s : State) (r : Nat) (q : NodeRec) : State :=
  match s.nodeSlot (r * 16 + q.pos) with
  | none => s
  | some n => (s.slotLegs n).foldl (fun s h =>
      let t : State := { s with fld.priors := Tab.erase h s.fld.priors }
      t.setLeg h { t.leg h with suppOut := false }) s

/-- A record that is not sent: its legs keep their schedules of the tick and LATE_EDGE sets for each (R163). -/
def State.suppLost (s : State) (r : Nat) (q : NodeRec) : State :=
  match s.nodeSlot (r * 16 + q.pos) with
  | none => s
  | some n => (s.slotLegs n).foldl (fun s h => if (s.leg h).suppOut then (s.restoreLeg h).legFlag h 0x40 else s) s

/-- The edges of records. -/
def recEdges (l : List NodeRec) : Nat := (l.map (fun q => q.edges.length)).foldl (· + ·) 0

/-- Records in the order of their distance from an end, on one side of a break. -/
def State.suppRecs (s : State) (r : Nat) (endB far : Bool) (l : List NodeRec) : List NodeRec :=
  (walePos endB).filterMap (fun p => if s.farSide r p == far then l.find? (fun q => q.pos == p) else none)

/-- The records queued of a ring, without the legs that a block or a leg fault has cut since (R170). -/
def State.suppLive (s : State) (r : Nat) : List NodeRec :=
  ((s.ring r).supp.map (fun q => match s.nodeSlot (r * 16 + q.pos) with
    | some n => { q with edges := q.edges.filter (fun x => (s.leg (n * 8 + x.leg)).suppOut) }
    | none => { q with edges := [] })).filter (fun q => !q.edges.isEmpty)

/-- The slots that records address. -/
def State.recSlots (s : State) (r : Nat) (l : List NodeRec) : List (Nat × Nat) :=
  l.filterMap (fun q => (s.nodeSlot (r * 16 + q.pos)).map (fun n => (n, q.pos)))

/-- The supplementary Wale of a ring leaves with the records queued. -/
def State.sendSupp (s : State) (r : Nat) (l : List NodeRec) : State :=
  let e := s.cmdEndB r
  let g := { s.ring r with seq := (s.ring r).seq + 1, resent := false, supp := [], suppEdges := (s.ring r).suppEdges + recEdges l }
  let s := s.setRing r g
  let near := s.suppRecs r e false l
  let beyond := s.suppRecs r (!e) true l
  let w : Wale := { hdr := s.waleHdr r e true false (s.cpv (s.recSlots r near)), recs := near }
  let v : Wale := { hdr := s.waleHdr r (!e) true true (s.cpv (s.recSlots r beyond)), recs := beyond }
  let t := if v.recs.isEmpty then s else s.sendPortion r v
  let t := (t.send (.wale r e w)).setRing r { t.ring r with lastWale := some w }
  l.foldl (fun s q => s.suppDone r q) t

/-- SUPPLEMENTARY_WALE_SEND: the ring has none in flight. One that cannot end by t_dl at every node it addresses (`fits` is
false), or that exceeds half the ring's edge budget in the tick, is not sent (R163). -/
def execSupplementaryWaleSend (ring : Fin 48) (fits : Bool) (s : State) : Host.Outcome State Fault Refusal :=
  let r := ring.val
  let l := s.suppLive r
  .next (if !s.walesOn r || l.isEmpty then s
  else if fits && decide (2 * ((s.ring r).suppEdges + recEdges l) ≤ s.edgeBudget r) then s.sendSupp r l
  else l.foldl (fun s q => s.suppLost r q) (s.setRing r { s.ring r with supp := [] }))

end Sys2Proof.Machine
end

