-- ==== Sys2Proof/Machine/Tick.lean ====
section
/-! DEFINITION. The start of the compute window and its deadline: engine entry, mirror frames, deadline misses, reloads,
following-error units, the safety cycle monitor, mode words, digests, the service block, the trace (R22, R148, R172, R174,
R189, R191, R194 to R197, R212, R218, R219, R251, R255, R267, R288, R294, R296, R300, R353). -/

namespace Sys2Proof.Machine

/-! ## Mirror frames at the start (R197, R212, R251, R267, R288) -/

/-- The content of a mirror frame of the tick before, by its part. -/
def State.mirrorOf (s : State) (part : Nat) : Option (List Byte) :=
  (Tab.get none part s.pair.mirrorNext).bind (fun x => if x.1 = s.clk.tick - 1 then some x.2 else none)

/-- Does an engine hold a mirror region to expect: it is enabled, with a verified package that names one? -/
def State.mirrorWanted (s : State) (e : Nat) : Bool :=
  s.rd (0x3000 + e) 1 == 1 && (s.engine e).verified && (s.engine e).pkg.any (fun p => decide (0 < p.mirrorLen))

/-- Are mirror frames expected: this device is STANDBY and the partner's engines run, no pause of it announced (R354)? -/
def State.mirrorsDue (s : State) : Bool := s.paired && s.sys.role == .standby && s.partnerLive && !s.pair.partnerPause

/-- The parts expected. -/
def State.mirrorParts (s : State) : List Nat := (List.range 16).filter s.mirrorWanted ++ [16]

/-- The bytes from `a` on of a service block. -/
def sliceB (l : List Byte) (a n : Nat) : List Byte := (l.drop a).take n

/-- Read bytes least significant first. -/
def leNat : List Byte → Nat
  | [] => 0
  | b :: t => b.toNat + 256 * leNat t

/-- One string's part of the service block (Table RP-6). -/
def State.takeService1 (s : State) (l : List Byte) (st : Nat) : State :=
  let m := BitVec.ofNat 96 (leNat (sliceB l (12 * st) 12))
  let s := s.setString st { s.string st with setF := m, nForce := leNat (sliceB l (72 + st) 1), mirrored := true }
  s.wr (0x2100 + st) 12 (beNat (sliceB l (78 + 12 * st) 12) 0)

/-- The service block into force. -/
def State.takeService (s : State) (l : List Byte) : State :=
  let s := forUpTo (fun st s => s.takeService1 l st) 6 s
  let s := s.wr 0x4200 4 (putBitsN (s.rd 0x4200 4) 5 0 (leNat (sliceB l 150 1)))
  { s with pair.svcDerated := BitVec.ofNat 6 (leNat (sliceB l 151 1)) }

/-- A mirror region into an engine's data memory; an engine halted under debug keeps its memories (R193). -/
def State.takeMirror (s : State) (e : Nat) : State :=
  let x := s.engine e
  match s.mirrorOf e, x.pkg with
  | some l, some p =>
    if x.run = .debug then s.setEngine e { x with mirrorOk := false }
    else s.setEngine e { x with data := Tab.writeBytes (4 * p.mirrorOff) (l.take p.mirrorLen) x.data, mirrorOk := true }
  | _, _ => s.setEngine e { x with mirrorOk := false }

/-- Mirror frames applied at t_start; each that is missing is counted, and 0xF5 raised (R288). -/
def State.mirrors (s : State) : State :=
  if s.mirrorsDue then
    let gone := (s.mirrorParts.filter (fun p => (s.mirrorOf p).isNone)).length
    let s := forUpTo (fun e s => s.takeMirror e) 16 s
    let s := match s.mirrorOf 16 with
      | some l => s.takeService l
      | none => forUpTo (fun st s => s.setString st { s.string st with mirrored := false }) 6 s
    let s := (if gone = 0 then s.unraise 0xF5 else (s.countN 0x5000 13 gone).raise 0xF5).wrBit 0x5000 5 8 (gone == 0)
    { s with pair.mirrorNext := [] }
  else
    let s := forUpTo (fun e s => s.setEngine e { s.engine e with mirrorOk := false }) 16 (s.wrBit 0x5000 5 8 false)
    let s := forUpTo (fun st s => s.setString st { s.string st with mirrored := false }) 6 s
    { s.unraise 0xF5 with pair.mirrorNext := [] }

/-! ## Engine entry (R172) -/

/-- Does an engine enter in this tick? -/
def State.enters (s : State) (e : Nat) : Bool :=
  s.rd (0x3000 + e) 1 == 1 && (s.engine e).verified && s.live && !s.fw.pause && !decide ((s.engine e).run = .debug)

/-- The engine at its entry. FIRST holds for the first entry after its data memory was initialised (R199). -/
def Engine.enter (x : Engine) : Engine :=
  { x.clearBundle with
    d := [], p := [], a := [], k0 := 0, k1 := 0, lc0 := ⟨0, 0, 0⟩, lc1 := ⟨0, 0, 0⟩, rstack := [], st := stReset, pc := 0,
    run := .running, events := 0, csmQ := x.csmQ.filter CsmOp.access, first := x.first && decide (x.run = .idle),
    excLast := decide (x.run = .excepted), missLast := decide (x.run = .missed), cmdErrLast := x.cmdErrNow,
    cmdErrNow := false }

/-- Every engine that enters; TB2 in ENGINE mode runs on where its engine does not (R118). -/
def State.enterAll (s : State) : State :=
  let s := if s.enters (bitsN (s.rd 0x1203 1) 7 4) then s else s.tb2Alone
  forUpTo (fun e s => if s.enters e then s.setEngine e (s.engine e).enter else s) 16 s

/-! ## Group leader (R296) -/

/-- The state that a present member's digest shows, or the device's own. -/
def State.memberState (s : State) (d : Nat) : Nat :=
  if d = s.devid then devCode s.sys.dev else ((s.member d).dig.map (·.state)).getD 0

/-- The leader that the digests held name. -/
def State.leaderOf (s : State) : Nat :=
  let l := s.present
  ((l.find? (fun d => decide (4 ≤ s.memberState d ∧ s.memberState d ≤ 6))).orElse (fun _ => l.head?)).getD s.devid

/-- A string that the Sorter has not finished by t_start keeps the keys of that instant: the biases that the engines left in the
previous tick (R207). -/
def State.keysAtStart (s : State) : State :=
  forUpTo (fun st s => if (s.string st).sortValid then s
    else s.setString st { s.string st with lateKeys := some (s.stringKeys st) }) 6 s

/-- TICK_START: t_start (R18, R53, R172, R296). In role STANDBY the status blocks take the set in force that the mirror frame brought
(R205, R212). -/
def execTickStart (s : State) : Host.Outcome State Fault Refusal :=
  .next (if s.up then
    let t := s.mirrors
    let t := if t.sys.role = .standby then t.statusBlocks else t
    let t := t.keysAtStart.enterAll.sendSyncs.sendPats.sendMgmt
    { t with grp.leaderNext := t.leaderOf }
  else s)

/-! ## The deadline monitor (R22, R191, R353) -/

/-- An engine that has not finished is stopped: the miss is counted and its source raised. -/
def State.missEngine (s : State) (e : Nat) : State :=
  if (s.engine e).unfinished then
    let s := s.setEngine e { (s.engine e).clearBundle.dropMarks with run := .missed }
    let s := s.wr (0x3000 + e) 6 0xFFFFFFFF
    ((s.count (0x3000 + e) 10).occur (0x20 + e)).mirrorSend e
  else s

/-- Every engine at t_dl; TB2 in ENGINE mode runs on where its engine has missed its deadline or stopped at an exception (R118, R126). -/
def State.missAll (s : State) : State :=
  let t := forUpTo (fun e s => s.missEngine e) 16 s
  if (t.engine (bitsN (t.rd 0x1203 1) 7 4)).failed then t.tb2Alone else t

/-- Does string `b` (6: the local legs) depend on an engine that failed before releasing it? -/
def State.dependsFailed (s : State) (b : Nat) : Bool :=
  (if b = 6 then s.locOwners else s.strOwners b).any (fun e => (s.engine e).failed && !(s.engine e).released.getLsbD b)

/-- Do the nodes of a slot coast the next tick: a string they serve depends on a failed engine, or an activation pauses? -/
def State.slotLost (s : State) (n : Nat) : Bool := s.fw.pause || (s.slotStrs n).any s.dependsFailed

/-- A slot at t_dl: its legs coast, or those not yet reloaded in the tick are reloaded. The pattern follows either way (R165). -/
def State.slotReload (s : State) (n : Nat) : State :=
  let hs := s.slotLegs n
  let todo := hs.filter (fun h => !(s.leg h).reloaded)
  if hs.isEmpty || (s.slotNode n).isNone then s
  else if s.slotLost n then hs.foldl (fun s h => s.coastLeg h) ((todo.foldl (fun s h => s.lostLeg h) s).slotPattern n)
  else if todo.isEmpty then s
  else ((todo.foldl (fun s h => s.reloadLeg h) s).slotPattern n).slotFit n

/-- The local legs at t_dl. -/
def State.localReload (s : State) : State :=
  let hs := s.localLegs
  let todo := hs.filter (fun h => !(s.leg h).reloaded)
  if hs.isEmpty then s
  else if s.fw.pause || s.dependsFailed 6 then hs.foldl (fun s h => s.coastLeg h) (todo.foldl (fun s h => s.lostLeg h) s).localPattern
  else if todo.isEmpty then s
  else (todo.foldl (fun s h => s.reloadLeg h) s).localPattern.locFit

/-- The reloads of t_dl (R148). -/
def State.reloads (s : State) : State := (forUpTo (fun n s => s.slotReload n) 384 s).localReload

/-! ## Following-error units (R189) -/

/-- One unit at t_dl, with whether it has just tripped. -/
def Follow.evaluate (f : Follow) : Follow × Bool :=
  if f.en then
    let bad := !f.updated || decide ((f.limit : Int) < f.err.natAbs)
    let n := if bad then Nat.min 65535 (f.count + 1) else if f.leaky then f.count - 1 else 0
    let trip := decide (f.tmax ≤ n) && decide (f.count < f.tmax)
    ({ f with count := n, tripped := f.tripped || trip }, trip)
  else (f, false)

/-- The units of an engine; a trip raises its following-error source. -/
def State.followEngine (s : State) (e : Nat) : State :=
  forUpTo (fun u s =>
    let x := s.engine e
    let r := (x.followU u).evaluate
    let s := s.setEngine e (x.setFollow u r.1)
    if r.2 then s.occur (0x40 + e) else s) 8 s

/-- Every unit of every engine; COUNT is held in the pause of an activation (Table FW-7). -/
def State.followAll (s : State) : State := if s.fw.pause then s else forUpTo (fun e s => s.followEngine e) 16 s

/-! ## The safety cycle monitor (R255) -/

/-- The response to the challenge of the tick: absent or wrong, SF5 acts; where it is the challenge of B(r), or the one 5 ms after B(a), of
an image not yet confirmed, the fallback starts at the next boundary (R255, R355). -/
def State.safetyCycle (s : State) (responds : Bool) : State :=
  if !s.clk.challenged then s
  else
    let t : State := { s with
      clk.challenged := false, saf.cycBad := !responds, fw.challGood := if responds then s.fw.challGood + 1 else 0 }
    if responds then { t.sf5Sync with fw.challPause := false }
    else { (t.sf5 3) with fw.fbDue := s.fw.challPause && (s.fw.pause || s.fw.confirming), fw.challPause := false }

/-! ## Mode words (R218, R219) -/

/-- The mode word of a string, where its TICK is the tick's. A refusal, HSTAT 3, keeps the old mode and writes it back to the
requested one; it is a new refusal where HSTAT was not 3, or where a mode other than that in force stood requested. -/
def State.modeWord (s : State) (st : Nat) : State :=
  let i := 0x2100 + st
  let w := Tab.readLE s.cpu.csm (s.rd i 19) 4
  if w / 0x1000000 = s.clk.tick.toNat % 256 then
    let hstat := w / 256 % 256
    let old := s.rd i 15
    if hstat = 3 then
      let t := (s.wr i 16 3).wr i 14 old
      if s.rd i 16 = 3 ∧ s.rd i 14 = old then t else t.ev 2 1 st evRefused old
    else (s.wr i 15 (w % 256)).wr i 16 hstat
  else s

/-- Every string's mode word. -/
def State.modeWords (s : State) : State := forUpTo (fun st s => s.modeWord st) 6 s

/-! ## Digest and service block (R288, R294, R300) -/

/-- The digest of the tick (Table RP-9). -/
def State.ownDigest (s : State) : Digest :=
  { devid := s.devid, seq := s.clk.tick.truncate 16, state := devCode s.sys.dev, role := roleCode s.sys.role,
    gcfg := s.rd 0x5100 2, compat := (s.runSlot.hdr.map (·.compat)).getD 0, tb1b := s.tbVis 1, ladder := s.highest,
    ridgeBrk := s.rdBit 0x5100 4 3, timingDegraded := s.rdBit 0x1200 5 7, shareValid := s.coordinated,
    leader := s.grp.leader == s.devid, unsync := s.rdBit 0x1200 5 4, gbseq := s.grp.gbseq, epoch := s.rd 0x5000 4,
    partner := (s.pair.partner.map (·.devid)).getD 0xFFFF, boottag := s.grp.boottag,
    share := if s.coordinated then Tab.readBytes s.cpu.csm (s.rd 0x5100 9) 32 else List.replicate 32 0, grp := s.rd 0x5100 1, crcOk := true, lenOk := true }

/-- The digest frames on RGE and RGW. -/
def State.sendDigest (s : State) : State :=
  let d := s.ownDigest
  let t := (s.ridgeOn 0 s.ridgeHdr (.digest d)).ridgeOn 1 s.ridgeHdr (.digest d)
  if s.grouped then { t with grp.sent := (d :: t.grp.sent).take 8 } else t

/-- The leader's time messages of the tick on the group lanes, and on the trunk lanes of a gateway (R124). -/
def State.sendTime (s : State) : State :=
  if s.grouped && s.grp.leader == s.devid then
    let d := s.tbAt 1 s.tDl
    let r := s.isReference
    let g := s.rd 0x5100 1
    let m (b : Bool) := RidgeMsg.time d 0 s.devid g r b
    let h := s.ridgeHdr
    (((s.ridgeOn 0 h (m false)).ridgeOn 1 h (m false)).ridgeOn 2 h (m true)).ridgeOn 3 h (m true)
  else s

/-- The highest LADDER that a present member shows. -/
def State.memberLadder (s : State) (d : Nat) : Nat :=
  if d = s.devid then s.highest else ((s.member d).dig.map (·.ladder)).getD 0

/-- A gateway's trunk summary of the tick (R302). -/
def State.sendSummary (s : State) : State :=
  if s.rdBit 0x5100 7 2 || s.rdBit 0x5100 7 3 then
    let l := s.present
    let m := RidgeMsg.summary (s.rd 0x5100 1) s.grp.leader l (l.foldl (fun a d => Nat.max a (s.memberState d)) 0)
      (l.foldl (fun a d => Nat.max a (s.memberLadder d)) 0)
    (s.ridgeOn 2 s.ridgeHdr m).ridgeOn 3 s.ridgeHdr m
  else s

/-- The content of the service block (Table RP-6). -/
def State.serviceBytes (s : State) : List Byte :=
  (List.range 6).flatMap (fun st => leBytes (s.string st).setF.toNat 12) ++
  (List.range 6).flatMap (fun st => leBytes (s.string st).nForce 1) ++
  (List.range 6).flatMap (fun st => beBytes (s.rd (0x2100 + st) 12) 12) ++
  leBytes (s.rd 0x4200 4 % 64) 1 ++
  leBytes ((List.range 6).foldl (fun a st => if 2 ≤ s.strLevel st then a + 2 ^ st else a) 0) 1

/-- The service block to the STANDBY, in every state in which the engines run. -/
def State.sendService (s : State) : State :=
  if s.sys.role = .active ∧ s.live = true then s.sendSpar (.mirror 16 s.clk.tick s.serviceBytes) else s

/-! ## Trace (R194, R195) -/

/-- The channels of a record, in engine and channel order. -/
def State.traceChans (s : State) : List Word :=
  (List.range 16).flatMap (fun e => ((List.range 8).filter (fun c => s.rdBit 0x3101 (e + 1) c)).map
    (fun c => Tab.get (0 : Word) c (s.engine e).trace))

/-- The capture ranges of a record; one that the arbiter does not read by the next t0 is 0 (Table CE-17). -/
def State.traceCaps (s : State) (unread : BitVec 8) : List Byte :=
  (List.range 8).flatMap (fun i =>
    let w := s.rd 0x3102 (i + 1)
    if unread.getLsbD i then List.replicate (32 * bitsN w 30 24) 0 else Tab.readBytes s.cpu.csm (bitsN w 21 0) (32 * bitsN w 30 24))

/-- Is a capture range that holds bytes not read in time? -/
def State.traceShort (s : State) (unread : BitVec 8) : Bool :=
  (List.range 8).any (fun i => unread.getLsbD i && bitsN (s.rd 0x3102 (i + 1)) 30 24 != 0)

/-- Has an engine missed its deadline or been stopped: by an exception, by SAFE, under debug? -/
def Engine.cutShort (x : Engine) : Bool := x.failed || decide (x.run = .stopped ∨ x.run = .debug)

/-- The record of the tick. -/
def State.traceRec (s : State) (unread : BitVec 8) : TraceRec :=
  { tick := s.clk.tick, tb0 := s.clk.bnd, state := devCode s.sys.dev, incomplete := s.traceShort unread,
    missed := (List.range 16).any (fun e => (s.engine e).cutShort), trigger := s.cpu.traceTrigNow, chans := s.traceChans,
    caps := s.traceCaps unread }

/-- Write the record of the tick, overwriting the oldest of a full buffer; a post-trigger tick counts down. -/
def State.traceTick (s : State) (unread : BitVec 8) : State :=
  if s.rdBit 0x3100 1 0 && !s.rdBit 0x3100 4 2 && !s.derated then
    let r := s.traceRec unread
    let len := 16 + 4 * r.chans.length + r.caps.length
    let cap := 16777216 / len
    let full := decide (cap ≤ s.cpu.trace.length)
    let l := (if full then s.cpu.trace.drop (s.cpu.trace.length + 1 - cap) else s.cpu.trace) ++ [r]
    let s := ((s.wr 0x3100 6 len).wrBit 0x3100 4 0 true).wrBit 0x3100 4 3 (full || s.rdBit 0x3100 4 3)
    { s with cpu.trace := l, cpu.traceTrigNow := false, cpu.tracePost := if s.cpu.traceTrigNow then s.cpu.tracePost else s.cpu.tracePost.map (· - 1) }
  else { s.wrBit 0x3100 4 0 false with cpu.traceTrigNow := false }

/-! ## The deadline -/

/-- The strings whose request or ranks are missing at t_dl: no allocation for them in this tick (R211). -/
def State.allocClose (s : State) : State :=
  forUpTo (fun st s =>
    let x := s.string st
    s.setString st { x with allocOff := x.req.isNone || !x.sortValid }) 6 s

/-- What the engines and the builder do at t_dl. -/
def State.deadlineCore (s : State) : State := s.allocClose.missAll.dropUnreleased.reloads.followAll

/-- What the system cores do at t_dl, and what leaves. -/
def State.deadlineEnd (s : State) (responds : Bool) (unread : BitVec 8) : State :=
  ((if s.fw.pause then s else s.modeWords).safetyCycle responds).sendDigest.sendTime.sendSummary.sendService.traceTick unread

/-- TICK_DEADLINE: t_dl (R18, R22, R148, R189, R255, Table CE-17). -/
def execTickDeadline (found : DeadlineIn) (s : State) : Host.Outcome State Fault Refusal :=
  .next (if s.up then
    let s := s.deadlineCore.deadlineEnd found.scResponds found.unread
    { s with clk.deadline := true }
  else s)

end Sys2Proof.Machine
end

