-- ==== Sys2Proof/Machine/Internals.lean ====
section
/-! DEFINITION. Internal events: the slot arbiter of the CSM, the end of prepare and the entry to READY, sleep, the trace's
stop and its GPIO trigger (R28, R35 to R41, R195, R198, R199, R202, R254, R281, R378). -/

namespace Sys2Proof.Machine

/-! ## The slot arbiter (R35 to R41) -/

/-- The place of a requester in the background ranking, lowest first (R37). -/
def bgRank (q : Requester) : Nat :=
  if q.cls = 1 then q.unit
  else if q.cls = 2 then 2 + q.unit
  else if q.cls = 3 then 18
  else if q.cls = 4 then (if q.unit = 2 then 19 else if q.unit = 3 then 20 else if q.unit = 0 then 21 else 22)
  else if q.cls = 5 then 23
  else 24

/-- The better placed of two requesters. -/
def bgFirst (a : Option Requester) (q : Requester) : Option Requester :=
  match a with
  | none => some q
  | some b => if bgRank q < bgRank b then some q else some b

/-- The best placed requester of a list. -/
def bgBest (l : List Requester) : Option Requester := l.foldl bgFirst none

/-- Does a slot table entry name a requester as the owner of its cycle (Table CM-15)? -/
def ownsCycle (e : Nat) (q : Requester) : Bool :=
  decide (e / 32 = q.cls ∧ q.cls ≠ 0) && (e % 32 == 0x1F || e % 32 == q.unit)

/-- Who is granted a cycle (R37, R38): the owner that its entry names, the requester that has held a transfer longest, the
background ranking without the excluded classes. A requester with a transfer in progress requests. -/
def State.csmGrant (s : State) (cycle : Nat) (requesting : List Requester) : Option Requester :=
  let e := s.rd 0x3202 (cycle % 128 + 1)
  let mask := s.rd 0x3200 3
  let held := s.cpu.csmHold.map (·.1)
  ((bgBest ((held ++ requesting).filter (ownsCycle e))).orElse (fun _ => held.head?)).orElse
    (fun _ => bgBest (requesting.filter (fun q => !mask.testBit q.cls)))

/-- The transfers in progress after a beat for a requester: its first beat makes it a holder of the beats to come, its last
beat ends the transfer (R38). -/
def csmBeat (q : Requester) (beats : Nat) (l : List (Requester × Nat)) : List (Requester × Nat) :=
  if l.any (fun h => h.1 == q) then
    l.filterMap (fun h => if h.1 == q then (if h.2 ≤ 1 then none else some (h.1, h.2 - 1)) else some h)
  else if beats ≤ 1 then l
  else l ++ [(q, beats - 1)]

/-- One cycle of the arbiter: `reqs` are the requesters with the beats of the transfers they ask for. -/
def State.csmCycle (s : State) (cycle : Nat) (reqs : List (Requester × Nat)) : State :=
  match s.csmGrant cycle (reqs.map (·.1)) with
  | none => s
  | some q =>
    let beats := ((reqs.find? (fun r => r.1 == q)).map (·.2)).getD 1
    { s with cpu.csmHold := csmBeat q beats s.cpu.csmHold }

/-- The arbiter's cycles from one number on, each with the requests that stand in it. -/
def State.csmCycles (s : State) (cycle : Nat) : List (List (Requester × Nat)) → State
  | [] => s
  | r :: rs => (s.csmCycle cycle r).csmCycles (cycle + 1) rs

/-- CSM_REQUEST_WITHDRAW: the cycles from `cycle` on, with the requests that stand in each; in the one after them a requester
withdraws. If it holds the grant, or that cycle is granted to it, its transfer ends and costs one dead cycle, which nobody else
receives (R39). -/
def execCsmRequestWithdraw (cycle : Nat) (cycles : List (List (Requester × Nat))) (who : Requester)
    (requesting : List Requester) (s : State) : Host.Outcome State Fault Refusal :=
  let t := s.csmCycles cycle cycles
  .next (if !s.up then s
  else if t.cpu.csmHold.any (fun h => h.1 == who) || t.csmGrant (cycle + cycles.length) (who :: requesting) == some who then
    ({ t with cpu.csmHold := t.cpu.csmHold.filter (fun h => h.1 != who) } : State).count 0x3200 5
  else { t with cpu.csmHold := t.cpu.csmHold.filter (fun h => h.1 != who) })

/-- ARBITER_STARVATION: a request that has waited longer than the watch counts for its class and raises 0xE4 (R41). -/
def execArbiterStarvation (who : Requester) (waited : Nat) (s : State) : Host.Outcome State Fault Refusal :=
  .next (if s.up && decide (1 ≤ who.cls ∧ who.cls ≤ 6) && decide (s.rd 0x3200 2 < waited) then
    (s.count 0x3203 who.cls).occur 0xE4
  else s)

/-! ## The end of prepare (R28, R198, R199, R202, R281, Table SF-4) -/

/-- An engine's data memory, notch states and following-error units at an entry to READY (R188, R199). -/
def Engine.initData (x : Engine) : Engine :=
  match x.pkg with
  | none => x
  | some p => { x with
      data := Tab.writeBytes 0 p.data [], notch := [], first := true, run := .idle,
      follow := Tab.mapV Follow.init (fun f => { f with count := 0, en := false }) x.follow }

/-- The persistent exports of every package restored into the CSM (R198). -/
def State.restoreExports (s : State) : State :=
  forUpTo (fun e s => match (s.engine e).pkg with
    | some p => (p.exports.filter (fun x => x.persist != 0)).foldl State.placeExport s
    | none => s) 16 s

/-- Every string's set in force and N in force start empty (R202). -/
def State.clearSets (s : State) : State :=
  forUpTo (fun st s => s.setString st { s.string st with setF := 0, nForce := 0, req := none }) 6 s

/-- BLOCKED to READY. -/
def State.enterReady (s : State) : State :=
  let s := s.legsToReady.clearSets
  let s : State := { s with cpu.engines := Tab.mapV Engine.init Engine.initData s.cpu.engines, sys.preparing := false }
  let s := s.restoreExports
  let s := (forUpTo (fun n s => if (s.slotLegs n).isEmpty then s else s.slotPattern n) 384 s).localPattern
  (s.wr 0x1001 4 0).setDev .ready

/-- The Block path test: on every ring in use the set injected at one end has been seen at the other. In a pair the opposite ends are the
partner's, which reports the result; its report has no layout in the manual and comes as an operand (log entry 162). -/
def State.pathTested (s : State) (partnerSaw : Bool) : Bool :=
  if s.paired then partnerSaw else s.rings.all (fun r => (s.ring r).blockSeen == 3)

/-- Is the coast window too short for a pair: below (N + 3) T (R281)? -/
def State.windowShort (s : State) : Bool := s.paired && decide (s.rd 0x2000 4 * 1000 < (s.rd 0x5000 3 + 3) * s.tNs)

/-- The READY conditions that prepare finds: off-state diagnostics, transit, the pair's coast window. -/
def State.prepareConds (s : State) (diagOk : Bool) : State :=
  let b := s.windowShort
  let s : State := { s with pair.prepBad := b }
  let s := if b then s.raise 0xF4 else s
  ((s.wrBit 0x1001 5 2 (!diagOk)).wrBit 0x1001 5 6 s.transitFails).refreshReady

/-- PREPARE_COMPLETE: READY where every condition is clear, else BLOCKED with 0x1001.04 = 0x02 (R28). -/
def execPrepareComplete (found : PrepareFound) (s : State) : Host.Outcome State Fault Refusal :=
  .next (if s.sys.preparing && decide (s.sys.dev = .blocked) then
    if s.pathTested found.partnerSaw then
      let t := s.prepareConds found.diagOk
      if t.rd 0x1001 5 = 0 then t.enterReady else ({ t with sys.preparing := false } : State).wr 0x1001 4 2
    else s.sf5 3
  else s)

/-! ## Sleep (R378) -/

/-- Is an accepted sleep request due? -/
def State.sleepDue (s : State) : Bool := s.sys.due.any (fun d => d.kind == 8 && s.isDue d.at_)

/-- The pins in SLEEP (R285, R378). -/
def Pins.asleep (p : Pins) : Pins := { p with active := false, rstoutN := false, safeN := false }

/-- SLEEP_ENTRY: everything pending is saved, unless MRAM writes are forbidden (R335, R337), every lane sleeps, the pins go low (R378). -/
def execSleepEntry (s : State) : Host.Outcome State Fault Refusal :=
  .next (if decide (s.sys.dev = .blocked) && s.sleepDue then
    let now := s.clk.bnd
    let t := (s.endAllSessions.mapLocs (fun _ x => x.low now)).setDev .sleep
    let t : State := if t.mramLock then t else { t.flushReps with evr.aonSaved := (t.evr.pcc, t.evr.opTime) }
    let t : State := { t with sys.due := [], sys.pins := t.sys.pins.asleep, pw.domains := 0 }
    t.saveStores.wakeLanes
  else s)

/-! ## Trace (R195) -/

/-- TRACE_STOP: the post-trigger ticks are written; STOPPED sets. -/
def execTraceStop (s : State) : Host.Outcome State Fault Refusal :=
  .next (if s.cpu.tracePost = some 0 then
    ({ s with cpu.tracePost := none } : State).wr 0x3100 4 (setBitN (setBitN (s.rd 0x3100 4) 2 true) 0 false)
  else s)

/-- GPIO_RISE: trigger source 4 names its pin in bits [14:11] of 0x3100.01. -/
def execGpioRise (pin : Fin 16) (s : State) : Host.Outcome State Fault Refusal :=
  let g := s.sys.pins.gpio ||| BitVec.ofNat 16 (2 ^ pin.val)
  let t : State := { s with sys.pins.gpio := g }
  .next (if s.up && bitsN (s.rd 0x3100 1) 14 11 == pin.val then t.traceSource 4 else t)

end Sys2Proof.Machine
end

