-- ==== Sys2Proof/Machine/Pair.lean ====
section
/-! DEFINITION. Events of the redundant pair: Spar messages, forwards and their acknowledgements, failure, takeover and the
roles (R31, R59, R60, R76, R121, R122, R259, R265 to R267, R272 to R290, R298, R354). -/

namespace Sys2Proof.Machine

/-! ## The Spar heartbeat (R276, R259, R266, R273, R283, R290, R298) -/

/-- A message of Spar has failed its check: the other lane's copy, heard already, makes it transient; else it is open until
t_gather (Table SF-12). -/
def State.sparFail (s : State) (l : Nat) (copyHeard : Bool) : State :=
  if copyHeard then s.transient 15 else { s with pair.sparBad := s.pair.sparBad ||| BitVec.ofNat 2 (2 ^ l) }

/-- A message has passed on lane `l`: a failure on the other lane that was open in the tick is transient (Table SF-12). -/
def State.sparPass (s : State) (l : Nat) : State :=
  let b := s.pair.sparBad
  if b.getLsbD (1 - l) then ({ s with pair.sparBad := b &&& BitVec.ofNat 2 (2 ^ l) } : State).transient 15 else s

/-- The lane of a message. -/
def laneOf (v : SparIn) : Nat := if v.lane1 then 1 else 0

/-- A message of Spar, discarded and counted where it fails its check (R277). -/
def State.overSpar (s : State) (v : SparIn) (f : State → State) : State :=
  if !s.up || !s.paired then s else if v.ok then f (s.sparPass (laneOf v)) else s.sparFail (laneOf v) false

/-- Picoseconds of a time in 1/256 ns. -/
def psOf (d : Int) : Int := Int.fdiv (d * 1000) 256

/-- Delay of a lane, and the offset of the partner's TB0 to the own one (R276), doubled, in 1/256 ns. -/
def laneTimes (dOwn aPar dPar aOwn : BitVec 40) : Int × Int :=
  (tbDiff aPar dOwn + tbDiff aOwn dPar, tbDiff aPar dOwn - tbDiff aOwn dPar)

/-- The delay and the offset of a lane, measured with the stamps of the tick before. -/
def State.measureLane (s : State) (l : Nat) (h : SparHb) : State :=
  match Tab.get none l s.pair.sparPrevArr with
  | none => { s with pair.sparOff := Tab.set none l none s.pair.sparOff }
  | some a =>
    if h.tAux = 0 then { s with pair.sparOff := Tab.set none l none s.pair.sparOff }
    else
      let m := laneTimes (Tab.get 0 1 s.pair.sparPrevOwn) h.tAux (Tab.get 0 l s.pair.sparPrevDep) a
      let t : State := { s with pair.sparOff := Tab.set none l (some (Int.fdiv m.2 2)) s.pair.sparOff }
      t.wr 0x5000 (11 + l) (psOf (Int.fdiv m.1 2)).toNat

/-- The comparison of the safety check values: PAIR_MATCH and source 0x1E (R259). -/
def State.safetyCompare (s : State) (h : SparHb) : State :=
  let same := h.safetyChk == s.rd 0x4000 1
  (s.wrBit 0x4000 4 2 same).cond 0x1E (!same)

/-- A partner under the device's own DEVID (R298). -/
def State.dupFound (s : State) : State :=
  let t := (s.wrBit 0x1001 5 11 true).raise 0xFD
  { t with grp.dupTicks := 0 }

/-- Source 0xF4 while PAIR_CFG stands for what the partner's heartbeat shows, PAIR_CHK or the coast window (R6, R272, R281,
R290). -/
def State.pairCfgSource (s : State) : State :=
  s.cond 0xF4 (s.pair.prepBad || decide (8 ≤ s.pair.chkBad) ||
    s.pair.partner.any (fun h => !h.pairCfgd || h.pairselB == s.sys.straps.pairselB))

/-- The partner that a heartbeat shows. -/
def State.partnerIs (s : State) (h : SparHb) : State :=
  let p := { s.pair with
    partner := some h, maxEpoch := Nat.max s.pair.maxEpoch h.epoch, activeSeen := s.pair.activeSeen || h.role == 1,
    handover := s.pair.handover || (h.role == 1 && h.handover && decide (s.sys.role = .standby)) }
  let t : State := { s with pair := p }
  (t.wr 0x5000 6 h.devid).adoptEpoch h.role h.epoch

/-- A heartbeat that passes its check. One that comes after t_hb + 0.3 µs, or is another tick's, serves everything but the
missing-heartbeat condition (R278). TB0 is steered once every lane that is UP has brought its heartbeat, with the mean of them (R276). -/
def State.heardSpar (s : State) (l : Nat) (h : SparHb) (arrival : BitVec 40) : State :=
  let was := s.pair.partner
  let t := ((s.sparPass l).measureLane l h).partnerIs h
  let inTime := decide (tbDiff arrival s.clk.bnd ≤ 256 * ((s.tNs / 20 + 300 : Nat) : Int)) && h.tick == s.clk.tick
  let p := { t.pair with
    sparInTime := if inTime then t.pair.sparInTime ||| BitVec.ofNat 2 (2 ^ l) else t.pair.sparInTime,
    sparRx := t.pair.sparRx ||| BitVec.ofNat 2 (2 ^ l), sparPrevArr := Tab.set none l (some arrival) t.pair.sparPrevArr,
    sparPrevDep := Tab.set 0 l h.tDep t.pair.sparPrevDep }
  let t : State := { t with pair := p }
  let t := ((if t.upLanesHeard then t.steerTb0 else t).safetyCompare h).pairCfgSource
  let t := if h.devid = t.devid then t.dupFound else t
  let left := was.any (fun o => decide (4 ≤ o.state ∧ o.state ≤ 6)) && !decide (4 ≤ h.state ∧ h.state ≤ 6)
  let t := if t.sys.role = .active ∧ (left = true ∨ t.standsBehind = true) then t.lossOfRedundancy else t
  t.refreshReady

/-- SPAR_HEARTBEAT (R276). -/
def execSparHeartbeat (lane1 : Bool) (h : SparHb) (arrival : BitVec 40) (checkOk : Bool) (s : State) :
    Host.Outcome State Fault Refusal :=
  let l := if lane1 then 1 else 0
  .next (if !s.up || !s.paired then s
  else if checkOk then s.heardSpar l h arrival
  else s.sparFail l (s.pair.sparRx.getLsbD (1 - l)))

/-! ## Responses, Wales and Blocks over Spar -/

/-- RESPONSE_REQUEST: the own copy of the tick goes to the partner (R60, Table RP-3). -/
def execResponseRequest (ring : Fin 48) (pos : Fin 16) (tick : Over (BitVec 32)) (s : State) : Host.Outcome State Fault Refusal :=
  .next (s.overSpar tick.via (fun s => match s.nodeSlot (ring.val * 16 + pos.val) with
    | none => s
    | some n =>
      let x := s.slot n
      match x.resp with
      | some r => if x.got && !x.fromPartner && tick.val == s.clk.tick then s.sendSpar (.relay ring pos false r) else s
      | none => s))

/-- RESPONSE_RELAY: the partner's copy is used where the own one has not come (R60). -/
def execResponseRelay (ring : Fin 48) (pos : Fin 16) (r : Response) (via : SparIn) (unreq : Bool) (s : State) :
    Host.Outcome State Fault Refusal :=
  .next (s.overSpar via (fun t => match t.nodeSlot (ring.val * 16 + pos.val) with
    | none => t
    | some n =>
      if decide (r.seq = t.clk.tick.truncate 16 ∧ r.ring = ring.val ∧ r.pos = pos.val) && (unreq || (t.slot n).gotFailed) then
        t.useResponse n r (!t.portEndB ring) true
      else t))

/-- WALE_CHECK_REPORT: a Wale of this device that failed at the partner's end is resent (R59). -/
def execWaleCheckReport (ring : Fin 48) (seq : BitVec 16) (epoch : Nat) (pass : Bool) (startNs : Over Nat) (s : State) :
    Host.Outcome State Fault Refusal :=
  let r := ring.val
  .next (s.overSpar startNs.via (fun s =>
    if !s.commands || epoch != s.rd 0x5000 4 || (s.waleOf r seq).isNone then s
    else if pass then s.walePassed r (s.ring r).resent
    else s.waleFailed r seq startNs.val (s.ring r).resent))

/-- BRIDGED_PORTION: the partner's portion starts on the own port, in STANDBY, and its lane is the ring's bridge lane (R76, R275); its
EPOCH is a Wale's to an ACTIVE (R284). -/
def execBridgedPortion (ring : Fin 48) (w : Over Wale) (s : State) : Host.Outcome State Fault Refusal :=
  let r := ring.val
  .next (s.overSpar w.via (fun s =>
    let s := if w.val.hdr.hcrcOk then s.waleEpoch w.val.hdr.epoch else s
    if s.sys.role == .standby && s.ringEn r && w.val.hdr.bridge then
      let t := s.setRing r { s.ring r with portionAt := some s.clk.tick, bridgeLane1 := w.via.lane1 }
      t.send (.wale r (t.portEndB r) w.val)
    else s))

/-- BLOCK_NOTICE: the Block ordered set goes out on the bridged rings (R76). -/
def execBlockNotice (b : Over BlockSet) (rings : BitVec 48) (s : State) : Host.Outcome State Fault Refusal :=
  .next (s.overSpar b.via (fun s =>
    if b.val.wellFormed && rings &&& s.driven != 0 then s.send (.blockSet (rings &&& s.driven) 8 b.val) else s))

/-- MIRROR_FRAME: kept for the next start (R197, R288). -/
def execMirrorFrame (part : Fin 17) (tick : BitVec 32) (content : Over (List Byte)) (s : State) : Host.Outcome State Fault Refusal :=
  .next (s.overSpar content.via (fun s =>
    if s.sys.role == .standby && decide (content.val.length ≤ 4096) then
      { s with pair.mirrorNext := Tab.set none part.val (some (tick, content.val)) s.pair.mirrorNext }
    else s))

/-! ## Forwards (R31, R122, R265, R277, R282, R289, R354) -/

/-- Take a forward: a sequence number already applied is only acknowledged again. -/
def State.takeFwd (s : State) (fseq : Over (BitVec 32)) (f : State → State × Nat) : State :=
  s.overSpar fseq.via (fun s =>
    if s.pair.fseqSeen.contains fseq.val then s.sendSpar (.ack fseq.val 0)
    else
      let y := f s
      let t : State := { y.1 with pair.fseqSeen := (fseq.val :: y.1.pair.fseqSeen).take 256 }
      t.sendSpar (.ack fseq.val y.2))

/-- A forward that only a STANDBY takes. -/
def State.standbyFwd (s : State) (fseq : Over (BitVec 32)) (f : State → State × Nat) : State :=
  s.takeFwd fseq (fun t => if t.sys.role = .standby then f t else (t, 0xE))

/-- A transition that a forward names. -/
def State.fwdDue (s : State) (fseq : Over (BitVec 32)) (target : BitVec 32) (kind : Nat) (arg : Int) : State :=
  s.standbyFwd fseq (fun t => (t.addDue kind target arg, 0))

/-- FWD_PREPARE (R31). A STANDBY that refuses prepare to hosts stays behind (R360, R365). -/
def execFwdPrepare (fseq : Over (BitVec 32)) (target : BitVec 32) (s : State) : Host.Outcome State Fault Refusal :=
  .next (s.standbyFwd fseq (fun t =>
    if t.confPending || t.fw.lifecycle == 3 then (t.wr 0x1001 4 1, 4) else (t.addDue 4 target 0, 0)))

/-- FWD_DEBLOCK (R31). -/
def execFwdDeblock (fseq : Over (BitVec 32)) (target : BitVec 32) (s : State) : Host.Outcome State Fault Refusal := .next (s.fwdDue fseq target 5 0)

/-- FWD_BLOCK: a host's block, or an L4 cluster block (R31, R265). -/
def execFwdBlock (fseq : Over (BitVec 32)) (target : BitVec 32) (s : State) : Host.Outcome State Fault Refusal := .next (s.fwdDue fseq target 0x83 0)

/-- FWD_SWITCH_OVER (R282). -/
def execFwdSwitchOver (fseq : Over (BitVec 32)) (target : BitVec 32) (s : State) : Host.Outcome State Fault Refusal := .next (s.fwdDue fseq target 0x81 0)

/-- FWD_PAUSE_BEGIN: from the notice on, missing mirror frames of the partner raise nothing (R354). -/
def execFwdPauseBegin (fseq : Over (BitVec 32)) (_target : BitVec 32) (s : State) : Host.Outcome State Fault Refusal :=
  .next (s.takeFwd fseq (fun t => ({ t with pair.partnerPause := true }, 0)))

/-- FWD_PAUSE_END: sent at B(r), it ends the pause for this device on receipt (R354). -/
def execFwdPauseEnd (fseq : Over (BitVec 32)) (_target : BitVec 32) (s : State) : Host.Outcome State Fault Refusal :=
  .next (s.takeFwd fseq (fun t => ({ t with pair.partnerPause := false }, 0)))

/-- FWD_TB0_STEP: both members step at the boundary named (R122). -/
def execFwdTb0Step (fseq : Over (BitVec 32)) (target : BitVec 32) (step : Int) (s : State) : Host.Outcome State Fault Refusal :=
  .next (s.standbyFwd fseq (fun t => ((t.addDue 0x80 target step).wrBit 0x1201 7 1 true, 0)))

/-- The content of a configuration forward by its segments, the number of the last one known, in order. -/
def partsContent (l : List CfgPart) (last : Nat) : List Byte :=
  (List.range (last + 1)).flatMap (fun i => ((l.find? (fun p => p.segno == i)).map (·.content)).getD [])

/-- A segment of a configuration forward is kept until all of it are there; then the content is whole (R277). -/
def State.takeSegment (s : State) (fseq : BitVec 32) (g : CfgSeg) : State × Option (List Byte) :=
  let first := fseq - BitVec.ofNat 32 g.segno
  let mine := ⟨first, g.segno, g.last, g.content⟩ :: s.pair.cfgIn.filter (fun p => p.first == first && p.segno != g.segno)
  let others := s.pair.cfgIn.filter (fun p => p.first != first)
  match mine.find? (fun p => p.last && decide (mine.length = p.segno + 1)) with
  | some z => ({ s with pair.cfgIn := others }, some (partsContent mine z.segno))
  | none => ({ s with pair.cfgIn := others ++ mine }, none)

/-- A configuration forward that is whole: on receipt where it names no boundary, else at its boundary; one that has come too late
raises 0xF4 and applies at the next (R289). -/
def State.cfgWhole (s : State) (target : BitVec 32) (job : CfgJob) : State :=
  if target = 0 then s.cfgApply job
  else
    let late := s.isDue target
    let u : State := { s with
      sys.cfgDue := s.sys.cfgDue ++ [⟨target, s.reg.accSeq, job⟩], reg.accSeq := s.reg.accSeq + 1 }
    if late then u.raise 0xF4 else u

/-- A segment of a configuration forward, whose content `job` reads once it is whole; a content that does not read is none that the
member can apply, and the members' configuration differs from then on: 0xF4. -/
def State.cfgFwd (s : State) (fseq target : BitVec 32) (g : CfgSeg) (job : List Byte → Option CfgJob) : State :=
  s.standbyFwd ⟨fseq, g.via⟩ (fun t =>
    match t.takeSegment fseq g with
    | (u, none) => (u, 0)
    | (u, some c) =>
      match job c with
      | some j => (u.cfgWhole target j, 0)
      | none => (u.raise 0xF4, 0x12))

/-- CFG_FWD_WRITE_ITEMS. -/
def execCfgFwdWriteItems (fseq target : BitVec 32) (seg : CfgSeg) (s : State) :
    Host.Outcome State Fault Refusal := .next (s.cfgFwd fseq target seg (fun c => some (.items (itemsOf c.length c))))

/-- CFG_FWD_YELM: RW writes carried in a yelm apply at its boundary too (R323). -/
def execCfgFwdYelm (fseq target : BitVec 32) (seg : CfgSeg) (s : State) :
    Host.Outcome State Fault Refusal := .next (s.cfgFwd fseq target seg (fun c => some (.items (itemsOf c.length c))))

/-- CFG_FWD_ENGINE_PACKAGE: the bytes of the package's file (Table CE-19). -/
def execCfgFwdEnginePackage (fseq target : BitVec 32) (e : Fin 16) (seg : CfgSeg) (s : State) :
    Host.Outcome State Fault Refusal := .next (s.cfgFwd fseq target seg (fun c => (packageOf c).map (.package e)))

/-- CFG_FWD_BANK_CONTENTS. -/
def execCfgFwdBankContents (fseq target : BitVec 32) (e : Fin 16) (seg : CfgSeg) (s : State) :
    Host.Outcome State Fault Refusal := .next (s.cfgFwd fseq target seg (fun c => some (.bank e c)))

/-- CFG_FWD_BANK_SWAP: at the boundary named; one that comes too late raises 0xF4. -/
def execCfgFwdBankSwap (fseq : Over (BitVec 32)) (target : BitVec 32) (e : Fin 16) (s : State) : Host.Outcome State Fault Refusal :=
  .next (s.standbyFwd fseq (fun t =>
    let u := (t.setEngine e { t.engine e with swapPend := true }).addDue 0x82 target (e.val : Int)
    (if t.isDue target then u.raise 0xF4 else u, 0)))

/-- Is a forward one of a prepare (Table RP-3)? -/
def SparMsg.isPrepare : SparMsg → Bool
  | .fwd _ r _ _ => r == 1
  | _ => false

/-- FORWARD_ACK: the forward has arrived (R277). A STANDBY that refuses a prepare stays behind (R31). -/
def execForwardAck (fseq : Over (BitVec 32)) (status : Nat) (s : State) : Host.Outcome State Fault Refusal :=
  .next (s.overSpar fseq.via (fun s =>
    let t : State := { s with pair.fwds := s.pair.fwds.filter (fun f => f.fseq != fseq.val) }
    if s.pair.fwds.any (fun f => f.fseq == fseq.val && f.item.isPrepare) && status != 0 && s.sys.role == .active then t.lossOfRedundancy
    else t))

/-- Is a forward due to be sent again: 4 ticks without an acknowledgement since it was last sent (R277)? -/
def State.fwdOld (s : State) (f : Fwd) : Bool := decide (4 ≤ tickDiff s.clk.tick f.sentAt)

/-- FORWARD_TIMEOUT: 4 ticks without an acknowledgement (R277). A forward is the one message whose failure its sender learns of: it is
resent on the other lane (R275; log entry 188). -/
def execForwardTimeout (fseq : BitVec 32) (s : State) : Host.Outcome State Fault Refusal :=
  .next (if !s.up || !s.paired then s
  else match s.pair.fwds.find? (fun f => f.fseq == fseq && s.fwdOld f) with
    | some f =>
      let again := s.pair.fwds.map (fun g => if g.fseq == fseq then { g with sentAt := s.clk.tick } else g)
      ({ s with pair.fwds := again } : State).sparOn (s.sparLanes 1) f.item
    | none => s)

/-! ## Roles (R273, R278, R279, R283, R284) -/

/-- ACTIVE_ASSUME: 64 ticks on the member strapped A, 256 on the one strapped B (R273). -/
def execActiveAssume (s : State) : Host.Outcome State Fault Refusal :=
  let n := if s.sys.straps.pairselB then 256 else 64
  .next (if s.up && s.paired && s.sys.role == .standby && decide (n ≤ s.pair.noActive) && !s.fw.pause then
    s.toActive.ev 2 3 0 evState 1
  else s)

/-- FAILURE_DECLARE (R278). -/
def execFailureDeclare (s : State) : Host.Outcome State Fault Refusal :=
  .next (if s.up && s.paired && s.sys.role == .standby && !s.fw.pause &&
      (decide (s.rd 0x5000 3 ≤ s.pair.hbMissed) || s.pair.handover) then
    { s with pair.failed := true }
  else s)

/-- The conditions of a takeover (R279). -/
def State.mayTakeOver (s : State) : Bool :=
  (decide (s.sys.dev = .blocked) || s.live) && decide (s.highest < 4) && s.rdBit 0x1200 5 2

/-- TAKEOVER: at the boundary after the declaration; where a condition fails, an event of severity critical (R279). -/
def execTakeover (s : State) : Host.Outcome State Fault Refusal :=
  .next (if s.up && s.paired && s.sys.role == .standby && s.pair.failed && !s.fw.pause then
    (if s.mayTakeOver then s.takeOver
     else ({ s with pair.failed := false, pair.handover := false } : State).ev 7 3 0 evRefused 0)
  else s)

/-- Must an ACTIVE give way (R284)? -/
def State.mustGiveWay (s : State) : Bool :=
  s.pair.demote || decide (s.rd 0x5000 4 < s.pair.maxEpoch) ||
  (s.sys.straps.pairselB && s.pair.partner.any (fun h => decide (h.role = 1 ∧ h.epoch = s.rd 0x5000 4)))

/-- ROLE_DEMOTE: at the next boundary (R284), or after an activation's pause, which keeps the role of B(a) (R354). -/
def execRoleDemote (s : State) : Host.Outcome State Fault Refusal :=
  .next (if s.up && s.paired && s.sys.role == .active && s.mustGiveWay && !s.fw.pause then s.giveWay else s)

/-- PARTNER_ACTIVE_RISE (R284). -/
def execPartnerActiveRise (s : State) : Host.Outcome State Fault Refusal :=
  let d := s.up && s.paired && s.sys.role == .active && s.rdBit 0x5000 7 0
  .next { s with sys.pins.partnerActive := true, pair.demote := s.pair.demote || d }

/-! ## Alignment and PAIR_CHK (R122, R290) -/

/-- PAIR_ALIGN_LOSS: the offset has exceeded 1 ns for 8 ticks in a row; TB0 steps by it at the next boundary (R121, R122). -/
def execPairAlignLoss (s : State) : Host.Outcome State Fault Refusal :=
  .next (if s.up && s.paired && s.sys.role == .standby && decide (8 ≤ s.pair.alignBad) then
    let d := divRound (s.rdInt 0x1201 6 32) 256
    let t : State := { s with pair.alignBad := 0, pair.alignGood := 0 }
    (t.wrBit 0x1200 5 2 false).addStep 0 d
  else s)

/-- PAIR_ALIGN_SET: 64 ticks in a row within ±20 ps (R122). -/
def execPairAlignSet (s : State) : Host.Outcome State Fault Refusal :=
  .next (if s.up && s.paired && s.sys.role == .standby && decide (64 ≤ s.pair.alignGood) then s.wrBit 0x1200 5 2 true else s)

/-- PAIR_CHK_MISMATCH: 8 ticks in a row; PAIR_CFG sets, and READY is left (R29, R290). -/
def execPairChkMismatch (s : State) : Host.Outcome State Fault Refusal :=
  .next (if s.up && s.paired && decide (8 ≤ s.pair.chkBad) then (s.raise 0xF4).readyHeld else s)

end Sys2Proof.Machine
end

