-- ==== Sys2Proof/Machine/Group.lean ====
section
/-! DEFINITION. Events of the group and the system: time messages, link probes, digests, sealed proxy and block-request
frames, trunk summaries (R124, R125, R291 to R302, R326, R347). -/

namespace Sys2Proof.Machine

/-! ## Forwarding and checks (R291 to R293, R347) -/

/-- A frame that fails a check, or whose length disagrees with its kind, counts as a failure of its lane (R292). -/
def State.ridgeFail (s : State) (link : Nat) : State :=
  { s with grp.laneFails := Tab.set 0 link (Tab.get 0 link s.grp.laneFails + 1) s.grp.laneFails }

/-- The link on which a group lane's frame has come. -/
def linkOf (fromRge : Bool) : Nat := if fromRge then 0 else 1

/-- At how many HOPS a frame is absorbed: 32, or 63 while any digest shows RIDGE_BRK (R291). -/
def State.hopLimit (s : State) : Nat :=
  if s.rdBit 0x5100 4 3 || s.grp.members.any (fun m => m.2.dig.any (·.ridgeBrk)) then 63 else 32

/-- The group lane other than the one on which a frame has come. -/
def otherLane (link : Nat) : Nat := 1 - link

/-- Does a frame that has passed `hops` links go on to the other group lane? -/
def State.goesOn (s : State) (fromRge : Bool) (hops : Nat) : Bool :=
  decide (hops + 1 < s.hopLimit) && s.rdBit 0x5100 7 (linkOf (!fromRge))

/-- A sealed frame whose tag fails is discarded and counted; the first failure in each second writes a security record. -/
def State.sealFail (s : State) : State :=
  let t : State := { s with grp.sealFails := s.grp.sealFails + 1 }
  if s.grp.sealRecAt.any (fun a => decide (s.evr.opTime < a + 1000000)) then t
  else ({ t with grp.sealRecAt := some s.evr.opTime } : State).secRec 3 evCheck 1

/-- A free number below `n`, where the manual leaves a duration to the hardware. -/
def State.freeBelow (s : State) (n : Nat) : Nat := Sys2Proof.Config.freeNat s.fresh % n

/-! ## Time (R124, R125) -/

/-- Whose time a message brings: the own leader's for a member that is led, the system reference's for a leader. -/
def State.timeUsed (s : State) (leader lgrp : Nat) (ref : Bool) : Bool :=
  if s.led then leader == s.grp.leader && lgrp == s.rd 0x5100 1
  else ref && decide (leader < s.devid) && lgrp != s.rd 0x5100 1

/-- Is a path the better one of its tick: fewer hops, and RGE where they are equal? -/
def State.pathBetter (s : State) (link hops : Nat) : Bool :=
  !s.grp.tb1At.any (fun t => t == s.clk.tick) || decide (hops < s.grp.tb1Hops) || (decide (hops = s.grp.tb1Hops) && link == 0)

/-- Ticks in a row within 100 ns of the leader. -/
def State.syncGood (s : State) (off : Int) : Nat :=
  let again := s.grp.tb1At.any (fun t => t == s.clk.tick)
  let follows := s.grp.tb1At.any (fun t => t == s.clk.tick - 1)
  if off.natAbs ≤ 25600 then (if again then s.grp.unsyncGood else if follows then s.grp.unsyncGood + 1 else 1) else 0

/-- The source's TB1 less the own one, `off`; 0x1202.06 shows it with the other sign, positive for an own TB1 that is ahead, as the
chapter's example has it. A member beyond 1 µs sets UNSYNC, raises its source and steps TB1 by the offset (R125). -/
def State.tb1Offset (s : State) (off : Int) (hops : Nat) : State :=
  let n := s.syncGood off
  let g := { s.grp with tb1Hops := hops, unsyncGood := n, tb1At := some s.clk.tick }
  let t : State := { s with grp := g }
  let t := (t.wr 0x1202 6 (ofSigned 32 (clampI (-2147483648) 2147483647 (-off)))).wrBit 0x1202 7 0 (decide (off.natAbs ≤ 25600))
  let t := t.servo 1
  if s.led && decide (256000 < off.natAbs) && !s.rdBit 0x1200 5 4 then
    ((t.wrBit 0x1200 5 4 true).raise 0xE1).addStep 1 (divRound off 256)
  else t

/-- A message goes on: CORR takes the delay of the incoming link and the residence. From a group lane it goes to the other group lane,
and where it has not crossed the trunk onto the trunk lanes; from a trunk lane into the group on both group lanes, and on to the other
trunk lane (R124, R302). -/
def State.timeOnward (s : State) (link : Nat) (seq : BitVec 16) (tLdep : BitVec 40) (corr : Int) (leader lgrp hops : Nat) (ref trunk : Bool) : State :=
  let res : Nat := s.freeBelow 25601
  let c := corr + Tab.get 0 link s.grp.linkDelay + (res : Int)
  let h := hops + 1
  let t := s.useFresh
  let head : RidgeHdr := { hops := h, onRgw := false, src := leader, grp := lgrp, seq := seq }
  let near (s : State) (l : Nat) (b : Bool) : State :=
    if h < s.hopLimit then s.ridgeOn l head (.time tLdep c leader lgrp ref b) else s
  let far (s : State) (l : Nat) : State := if h < 63 then s.ridgeOn l head (.time tLdep c leader lgrp ref true) else s
  if link < 2 then
    let t := near t (otherLane link) trunk
    if trunk then t else far (far t 2) 3
  else far (near (near t 0 true) 1 true) (5 - link)

/-- TIME_MESSAGE (R124), on link 0 RGE, 1 RGW, 2 RGT0 or 3 RGT1. -/
def execTimeMessage (way : RidgeIn) (tLdep : BitVec 40) (corr : Int) (leader lgrp hops : Nat) (refFlag trunk : Bool)
    (arrival : BitVec 40) (s : State) : Host.Outcome State Fault Refusal :=
  let link := way.link
  .next (if !s.up || !s.grouped || leader == s.devid || !s.rdBit 0x5100 7 link then s
  else if !way.lenOk then s.ridgeFail link
  else
    let off := tbDiff (tLdep + BitVec.ofInt 40 (corr + Tab.get 0 link.val s.grp.linkDelay)) arrival
    let t := if s.timeUsed leader lgrp refFlag && s.pathBetter link hops then s.tb1Offset off hops else s
    let t : State := if refFlag && decide (leader < s.devid) && lgrp != s.rd 0x5100 1 then { t with grp.refAt := some s.clk.tick } else t
    t.timeOnward link way.seq tLdep corr leader lgrp hops refFlag trunk)

/-- UNSYNC_CLEAR: 64 ticks in a row within 100 ns (R125). -/
def execUnsyncClear (s : State) : Host.Outcome State Fault Refusal :=
  .next (if s.up && s.rdBit 0x1200 5 4 && decide (64 ≤ s.grp.unsyncGood) then (s.wrBit 0x1200 5 4 false).unraise 0xE1 else s)

/-- TB1 at an instant of the tick that the manual does not fix. -/
def State.tb1Somewhen (s : State) : BitVec 40 := s.tbAt 1 (s.freeBelow s.tNs)

/-- LINK_PROBE_SEND: once per second on each link in use (R124). -/
def execLinkProbeSend (link : Fin 4) (s : State) : Host.Outcome State Fault Refusal :=
  .next (if s.up && s.rdBit 0x5100 7 link then (s.useFresh).ridgeOn link s.ridgeHdr (.probe 0 s.tb1Somewhen 0 0) else s)

/-- LINK_PROBE_REQUEST: the reply carries the stamps of arrival and departure (R292). -/
def execLinkProbeRequest (way : RidgeIn) (t1 t2 : BitVec 40) (s : State) : Host.Outcome State Fault Refusal :=
  .next (if s.up && s.rdBit 0x5100 7 way.link then
    if !way.lenOk then s.ridgeFail way.link else
    (s.useFresh).ridgeOn way.link s.ridgeHdr (.probe 1 t1 t2 (t2 + BitVec.ofNat 40 (s.freeBelow s.tTb)))
  else s)

/-- LINK_PROBE_REPLY: the delay of the link (R292). -/
def execLinkProbeReply (way : RidgeIn) (t1 t2 t3 t4 : BitVec 40) (s : State) : Host.Outcome State Fault Refusal :=
  .next (if s.up && s.rdBit 0x5100 7 way.link then
    if !way.lenOk then s.ridgeFail way.link else
    { s with grp.linkDelay := Tab.set 0 way.link.val (Int.fdiv (tbDiff t4 t1 - tbDiff t3 t2) 2) s.grp.linkDelay }
  else s)

/-! ## Digests (R294 to R300) -/

/-- The comparison with the leader's latest digest (Table RP-11); a leader compares with nothing. -/
def State.compareLeader (s : State) : State :=
  let o := if s.led then (s.member s.grp.leader).dig else none
  let g := o.any (fun d => d.gcfg != s.rd 0x5100 2)
  let c := o.any (fun d => d.compat != (s.runSlot.hdr.map (·.compat)).getD 0)
  (((s.wrBit 0x1001 5 4 g).cond 0xFA g).wrBit 0x1001 5 5 c).cond 0xFB c

/-- Does a digest under the own DEVID show a duplicate: another boot tag, or another STATE, ROLE or EPOCH than the digest of
that SEQ that this device sent (R298)? -/
def State.dupDigest (s : State) (d : Digest) : Bool :=
  d.boottag != s.grp.boottag ||
  s.grp.sent.any (fun o => o.seq == d.seq && !decide (o.state = d.state ∧ o.role = d.role ∧ o.epoch = d.epoch))

/-- A member's block request as its GBSEQ shows it: once per originator and GBSEQ (R299, R302). The first digest of a member
only fixes its GBSEQ. -/
def State.digestBlock (s : State) (d : Digest) : State :=
  let m := s.member d.devid
  let t := s.setMember d.devid { m with lastGb := some d.gbseq }
  if m.lastGb.any (fun g => g != d.gbseq) then t.groupBlockAct else t

/-- The first valid copy of a member's digest; the copy that comes the other way round the ring, of the same tick or an earlier one,
changes nothing. -/
def State.takeDigest (s : State) (d : Digest) : State :=
  let m := s.member d.devid
  if m.dig.any (fun o => decide ((d.seq - o.seq).toInt ≤ 0)) then s
  else
    let t := s.setMember d.devid { m with dig := some d, absent := 0, got := true }
    ((t.digestBlock d).compareLeader.putShares).refreshReady

/-- A digest frame goes on to the other group lane. -/
def State.digestOn (s : State) (fromRge : Bool) (d : Digest) (hops : Nat) : State :=
  if s.goesOn fromRge hops then
    s.ridgeOn (linkOf (!fromRge)) { hops := hops + 1, onRgw := false, src := d.devid, grp := d.grp, seq := d.seq } (.digest d)
  else s

/-- DIGEST_FRAME (R294). -/
def execDigestFrame (fromRge : Bool) (d : Digest) (hops : Nat) (s : State) : Host.Outcome State Fault Refusal :=
  .next (if !s.up || !s.grouped then s
  else if !d.lenOk then s.ridgeFail (linkOf fromRge)
  else if !d.crcOk then
    let t := s.ridgeFail (linkOf fromRge)
    t.digestOn fromRge d hops
  else if d.devid = s.devid then (if s.dupDigest d then s.dupFound.putShares.refreshReady else s)
  else (s.takeDigest d).digestOn fromRge d hops)

/-- DUP_DEVID_CLEAR: 64 ticks in a row without a duplicate (R298). -/
def execDupDevidClear (s : State) : Host.Outcome State Fault Refusal :=
  .next (if s.up && s.rdBit 0x1001 5 11 && decide (64 ≤ s.grp.dupTicks) then ((s.wrBit 0x1001 5 11 false).unraise 0xFD).putShares else s)

/-- MEMBER_ABSENT: 3 ticks in a row without its digest (R294). -/
def execMemberAbsent (devid : Fin 512) (s : State) : Host.Outcome State Fault Refusal :=
  let m := s.member devid
  .next (if s.up && m.dig.isSome && decide (3 ≤ m.absent) then
    (s.setMember devid { m with dig := none, absent := 0 }).compareLeader.putShares
  else s)

/-! ## Proxy (R293, R301, R326) -/

/-- A sealed proxy frame of an originator: its tag verified, its counter beyond the last one accepted. -/
def State.prxAccepts (s : State) (orig ctr : Nat) (key : Option Nat) : Bool :=
  s.tagOk key && decide ((s.member orig).lastPrxCtr < ctr)

/-- The counter of an accepted proxy frame. -/
def State.prxTaken (s : State) (orig ctr : Nat) : State := s.setMember orig { s.member orig with lastPrxCtr := ctr }

/-- Is proxy traffic heard: the runtime up, in a group? -/
def State.proxyHeard (s : State) : Bool := s.up && s.grouped

/-- A proxy session of an entry device and session tag. -/
def State.prxFind (s : State) (entry : Nat) (stag : BitVec 16) : Option Nat :=
  ((List.range 32).map (· + 8)).find? (fun i => (s.sess i).isOpen && (s.sess i).entry == entry && (s.sess i).stag == stag)

/-- The proxy session for a request: the one there is, or a free place opened for it. -/
def State.prxSession (s : State) (entry : Nat) (stag : BitVec 16) (roles : BitVec 8) : Option (Nat × State) :=
  match s.prxFind entry stag with
  | some i => some (i, s.setSess i { s.sess i with roles := roles &&& 0x1F })
  | none =>
    match ((List.range 32).map (· + 8)).find? (fun i => !(s.sess i).isOpen) with
    | some i => some (i, s.setSess i { Session.init with isOpen := true, roles := roles &&& 0x1F, entry := entry, stag := stag })
    | none => none

/-- A reply to an entry device. -/
def State.prxAnswer (s : State) (entry : Nat) (stag : BitVec 16) (roles : BitVec 8) (tag : BitVec 16) (r : Reply) : State :=
  s.sendProxy 1 s.devid entry stag roles tag (some r) none

/-- A request for this device: executed under the entry session's roles, a repeated tag answered from the kept reply; with a
duplicate DEVID refused with 0x0F (R298), with no session free with 0x0D. -/
def State.prxRun (s : State) (entry : Nat) (stag : BitVec 16) (roles : BitVec 8) (tag : BitVec 16) (p : Pdu) : State :=
  if s.rdBit 0x1001 5 11 then s.prxAnswer entry stag roles tag (refuse 0xF)
  else match s.prxSession entry stag roles with
    | none => s.prxAnswer entry stag roles tag (refuse 0xD)
    | some (i, t) =>
      match (t.sess i).kept tag with
      | some r => t.prxAnswer entry stag roles tag r
      | none =>
        let y := t.runPdu i p
        (y.1.keepReply i tag y.2).prxAnswer entry stag roles tag y.2

/-- A proxy frame goes on to the other group lane unchanged but for HOPS and DIR (R291, R293). -/
def State.prxOnward (s : State) (v : ProxyVia) (orig ptype : Nat) (stag : BitVec 16) (roles : BitVec 8) (tag : BitVec 16) (r : Option Reply)
    (p : Option Pdu) : State :=
  if s.goesOn v.fromRge v.hops then
    s.ridgeOn (linkOf (!v.fromRge)) { hops := v.hops + 1, onRgw := false, src := orig, grp := v.grp, seq := v.seq }
      (.proxy ptype v.target v.entry stag roles tag v.seal r p)
  else s

/-- A proxy frame of the originator `orig` for the device `dest`: absorbed at its originator, it goes on, and at its destination acts
where it is accepted (R291 to R293), except in the pause of an activation, which stops no forwarding (Table FW-7). -/
def State.prxFrame (s : State) (v : ProxyVia) (orig dest : Nat) (onward act : State → State) : State :=
  if !s.proxyHeard || orig == s.devid then s
  else if !v.lenOk then s.ridgeFail (linkOf v.fromRge)
  else
    let t := onward s
    if dest ≠ s.devid ∨ s.fw.pause = true then t
    else if !s.tagOk v.key then t.sealFail
    else if t.prxAccepts orig v.ctr v.key then act (t.prxTaken orig v.ctr)
    else t

/-- PROXY_REQUEST: for this device it is executed; for any it goes on (R291, R326). -/
def execProxyRequest (way : GroupHop) (target entry : Nat) (stag : BitVec 16) (roles : BitVec 8) (tag : BitVec 16) (p : Pdu) (x : Seal)
    (s : State) : Host.Outcome State Fault Refusal :=
  let via := ProxyVia.of way { target := target, entry := entry } x
  .next (s.prxFrame via via.entry via.target (fun t => t.prxOnward via via.entry 0 stag roles tag none (some p))
    (fun t => t.prxRun via.entry stag roles tag p))

/-- A proxied answer for a session of this device. -/
def State.prxReplied (s : State) (i : Nat) (tag : BitVec 16) (r : Reply) : State :=
  let x := s.sess i
  if s.sessUp i && x.waiting.contains tag then
    let t := s.setSess i { x with waiting := x.waiting.filter (fun w => w != tag) }
    (t.keepReply i tag r).sendReply i tag r
  else s

/-- PROXY_REPLY (R301). -/
def execProxyReply (way : GroupHop) (ends : ProxyEnds) (stag : BitVec 16) (tag : BitVec 16) (r : Reply) (x : Seal) (s : State) :
    Host.Outcome State Fault Refusal :=
  let via := ProxyVia.of way ends x
  .next (s.prxFrame via via.target via.entry (fun t => t.prxOnward via via.target 1 stag 0 tag (some r) none)
    (fun t => if stag.toNat < 8 then t.prxReplied stag.toNat tag r else t))

/-- PROXY_NOTIFICATION (R301). -/
def execProxyNotification (way : GroupHop) (ends : ProxyEnds) (stag : BitVec 16) (r : Note) (x : Seal) (s : State) :
    Host.Outcome State Fault Refusal :=
  let via := ProxyVia.of way ends x
  .next (s.prxFrame via via.target via.entry
    (fun t => t.prxOnward via via.target 2 stag 0 (BitVec.ofNat 16 r.id) (some r.body) none)
    (fun t => if stag.toNat < 8 then t.notifySess stag.toNat r.id r.body else t))

/-- PROXY_CLOSE: the entry session has ended (R326). -/
def execProxyClose (way : GroupHop) (ends : ProxyEnds) (stag : BitVec 16) (x : Seal) (s : State) : Host.Outcome State Fault Refusal :=
  let via := ProxyVia.of way ends x
  .next (s.prxFrame via via.entry via.target (fun t => t.prxOnward via via.entry 3 stag 0 0 none none)
    (fun t => match t.prxFind via.entry stag with
      | some i => t.endSession i
      | none => t))

/-- PROXY_ANSWER_TIMEOUT: the entry device replies 0x0F (R326). -/
def execProxyAnswerTimeout (sess : Fin 8) (tag : BitVec 16) (s : State) : Host.Outcome State Fault Refusal :=
  .next (s.prxReplied sess tag (refuse 0xF))

/-- PROXY_SESSION_TIMEOUT: no proxied PDU for the session timeout (R326). -/
def execProxySessionTimeout (sess : Fin 40) (s : State) : Host.Outcome State Fault Refusal :=
  .next (if decide (8 ≤ sess.val) && (s.sess sess).isOpen then (s.endSession sess).count 0x1110 5 else s)

/-! ## Block requests (R299, R302) -/

/-- A sealed block request of an originator is accepted (R293). -/
def State.blkAccepts (s : State) (f : BlockReqFrame) : Bool :=
  s.tagOk f.key && decide ((s.member f.origin).lastBlkCtr < f.ctr)

/-- An accepted block request acts once per originator and GBSEQ: the group's own under GBSEQ of its digests, one of another
group by itself. -/
def State.blkTake (s : State) (f : BlockReqFrame) : State :=
  let m := s.member f.origin
  if f.ogrp = s.rd 0x5100 1 then
    let t := s.setMember f.origin { m with lastBlkCtr := f.ctr, lastGb := some f.gbseq }
    if m.lastGb = some f.gbseq then t else t.groupBlockAct
  else
    let t := s.setMember f.origin { m with lastBlkCtr := f.ctr, lastSb := some f.gbseq }
    if m.lastSb = some f.gbseq then t else t.groupBlockAct

/-- At how many HOPS a block request is absorbed: a system-wide one at 63 (R302), another as any group frame (R291). -/
def State.blkLimit (s : State) (f : BlockReqFrame) : Nat := if f.systemWide then 63 else s.hopLimit

/-- A block request goes on on a lane, one link further, unless it is absorbed. -/
def State.blkOn (s : State) (f : BlockReqFrame) (lane : Nat) : State :=
  let g := { f with hops := f.hops + 1 }
  if g.hops < s.blkLimit f then s.ridgeOn lane (blockHdr g) (.block g) else s

/-- A gateway carries a system-wide request of its group lanes onto its trunk lanes; `but` is the lane it came in on. -/
def State.toTrunk (s : State) (f : BlockReqFrame) (but : Nat) : State :=
  let t := if but = 1 then s else s.blkOn f 2
  if but = 2 then t else t.blkOn f 3

/-- A block request on a group lane: it goes on to the other group lane, and where it is system-wide onto the trunk; it acts
where it is accepted. -/
def State.groupBlk (s : State) (fromRge : Bool) (f : BlockReqFrame) : State :=
  if !s.up || !s.grouped || f.origin == s.devid then s
  else if !f.lenOk then s.ridgeFail (linkOf fromRge)
  else
    let new := s.blkAccepts f
    let t := s.blkOn f (linkOf (!fromRge))
    if !s.tagOk f.key then t.sealFail
    else if new then (if f.systemWide then (t.blkTake f).toTrunk f 0 else t.blkTake f)
    else t

/-- GROUP_BLOCK_FRAME (R299). -/
def execGroupBlockFrame (fromRge : Bool) (f : BlockReqFrame) (s : State) : Host.Outcome State Fault Refusal :=
  .next (s.groupBlk fromRge f)

/-- A system-wide request on a trunk lane: into the group on both group lanes, on to the other trunk lane, and it acts. -/
def State.trunkBlk (s : State) (lane : Nat) (f : BlockReqFrame) : State :=
  if !s.up || !s.rdBit 0x5100 7 (1 + lane) || f.origin == s.devid then s
  else if !f.lenOk then s.ridgeFail (1 + lane)
  else if !s.tagOk f.key then s.sealFail
  else if s.blkAccepts f && f.systemWide then
    (((s.blkOn f 0).blkOn f 1).toTrunk f lane).blkTake f
  else s

/-- SYSTEM_BLOCK_FRAME, on link 0 RGE, 1 RGW, 2 RGT0 or 3 RGT1 (R302). -/
def execSystemBlockFrame (link : Fin 4) (f : BlockReqFrame) (s : State) : Host.Outcome State Fault Refusal :=
  .next (if link.val < 2 then s.groupBlk (link.val == 0) f else s.trunkBlk (link.val - 1) f)

/-- TRUNK_SUMMARY: kept for its group; a length that disagrees with the kind is a failure of the lane (R292, R302). -/
def execTrunkSummary (lane1 : Bool) (grp leader hstate hladder : Nat) (present : List Nat) (lenOk : Bool) (s : State) :
    Host.Outcome State Fault Refusal :=
  let link := if lane1 then 3 else 2
  .next (if !s.up || !s.rdBit 0x5100 7 link then s
  else if lenOk then { s with grp.summaries := Tab.set [] grp (leader :: hstate :: hladder :: present) s.grp.summaries }
  else s.ridgeFail link)

end Sys2Proof.Machine
end

