-- ==== Sys2Proof/Machine/Time.lean ====
section
/-! DEFINITION. Events of network time and the clocks: PTP, HSR and PRP, the time-base reads of SC0, compare channels, clock
references, the two PLLs and the timing outputs' gates (R120, R127 to R137, R140 to R142, R308). -/

namespace Sys2Proof.Machine

/-- Is the device clocked: out of the internal reset, not asleep, not switched off? -/
def State.clocked (s : State) : Bool := !s.sys.intReset && s.sys.dev != .sleep && !s.pw.thermalOff

/-! ## Ethernet (R308) -/

/-- PRP_SUPERVISION_SEND: every 2 s in PRP mode. -/
def execPrpSupervisionSend (s : State) : Host.Outcome State Fault Refusal :=
  .next (if s.up && s.rd 0x1100 1 == 1 then s.sendHost false .prpSupervision else s)

/-- The frame received of late that a redundant frame is a copy of. -/
def State.redFind (s : State) (f : RedFrame) : Option RedSeen := s.net.redSeen.find? (fun x => x.src == f.src && x.seq == f.seq)

/-- A redundant frame is noted with the port it came on. -/
def State.redNote (s : State) (fromE0 mine : Bool) (f : RedFrame) : State :=
  let l := s.net.redSeen.filter (fun x => !(x.src == f.src && x.seq == f.seq))
  let x := (s.redFind f).getD { src := f.src, seq := f.seq, e0 := false, e1 := false, at_ := s.evr.opTime, mine := mine }
  { s with net.redSeen := l ++ [{ x with e0 := x.e0 || fromE0, e1 := x.e1 || !fromE0 }] }

/-- A frame for the device on E0 or E1 in PRP or HSR mode: one whose trailer names the other LAN is counted, a supervision frame sets the
status of its port, a second copy is discarded and counted (R308, Table OD-6). -/
def State.redTake (s : State) (fromE0 : Bool) (f : RedFrame) : State :=
  let t := if f.wrongLan && s.rd 0x1100 1 == 1 then s.count 0x1101 6 else s
  let t := if f.body = .supervision then t.wrBit 0x1101 (if fromE0 then 1 else 2) 0 true else t
  (if (t.redFind f).isSome then t.count 0x1101 3 else t).redNote fromE0 true f

/-! ## PTP stamps (Tables TM-7 and TM-8, R128) -/

/-- The number of a PTP port: 0 for E0, 1 for E1. -/
def ptpPort (onE1 : Bool) : Nat := if onE1 then 1 else 0

/-- Does a port run PTP? -/
def State.ptpOn (s : State) (onE1 : Bool) : Bool := s.rdBit 0x1208 1 (ptpPort onE1)

/-- The internal corrections of Table TM-8, TX and RX, in ps: those of 1 Gb/s, 100 Mb/s and 10 Mb/s. -/
def ptpInternal : List (Int × Int) := [(84000, 131200), (240000, 504000), (2400000, 5040000)]

/-- The corrections in force: 1000BASE-X runs at 1 Gb/s; the speed of SGMII is what its link partner asks for. -/
def State.ptpCorr (s : State) (onE1 : Bool) : Int × Int :=
  if s.rd 0x1100 2 = 0 then ptpInternal.getD 0 (0, 0) else ptpInternal.getD (Sys2Proof.Config.sgmiiSpeed onE1 % 3) (0, 0)

/-- A port's added correction, in ps: TX or RX. -/
def State.ptpAdded (s : State) (onE1 rx : Bool) : Int := s.rdInt 0x1209 (1 + 2 * ptpPort onE1 + (if rx then 1 else 0)) 32

/-- A receive stamp in ps, corrected (R128). -/
def State.rxStamp (s : State) (onE1 : Bool) (raw : Int) : Int := 1000 * raw - (s.ptpCorr onE1).2 - s.ptpAdded onE1 true

/-- A transmit instant in ps, corrected (R128). -/
def State.txCorrected (s : State) (onE1 : Bool) (ps : Int) : Int := ps + (s.ptpCorr onE1).1 + s.ptpAdded onE1 false

/-- A transmit stamp in ps, corrected (R128). -/
def State.txStamp (s : State) (onE1 : Bool) (raw : Int) : Int := s.txCorrected onE1 (1000 * raw)

/-- A correctionField in ps: it counts 2^-16 ns (IEEE 1588). -/
def corrPs (c : Int) : Int := Int.fdiv (c * 1000) 65536

/-- The mean link delay of a port, in ns (0x1208.0A, 0x1208.0B). -/
def State.linkMean (s : State) (onE1 : Bool) : Nat := s.rd 0x1208 (10 + ptpPort onE1)

/-! ## HSR (R127, R129, R308) -/

/-- A duration in ps in the unit of correctionField. -/
def psCorr (p : Int) : Int := Int.fdiv (p * 65536) 1000

/-- The residence of a forwarded message between its two ports, in the unit of correctionField. -/
def State.hsrResidence (s : State) (fromE1 : Bool) (rx tx : PtpStamp) : Int :=
  psCorr (s.txStamp (!fromE1) tx.tb3 - s.rxStamp fromE1 rx.tb3)

/-- A frame goes out of the other port. The transparent clock adds the residence and the ingress link's mean delay to a one-step Sync,
and the residence of a two-step Sync to its Follow_Up (R129). -/
def State.hsrPass (s : State) (fromE0 : Bool) (f : HsrFrame) : State :=
  match f with
  | .plain k => s.send (.ethForward fromE0 (.plain k))
  | .supervision => s.send (.ethForward fromE0 .supervision)
  | .sync k two c rx tx =>
    let r := s.hsrResidence (!fromE0) rx tx
    if two then ({ s with clk.hsrRes := Tab.set 0 (ptpPort (!fromE0)) r s.clk.hsrRes } : State).send (.ethForward fromE0 f)
    else s.send (.ethForward fromE0 (.sync k two (c + r + 65536 * (s.linkMean (!fromE0) : Int)) rx tx))
  | .followUp k c => s.send (.ethForward fromE0 (.followUp k (c + Tab.get 0 (ptpPort (!fromE0)) s.clk.hsrRes)))

/-- Has a ring frame come round: the device's own, or one that has already come on this port? -/
def State.hsrRound (s : State) (fromE0 : Bool) (f : RedFrame) : Bool :=
  decide (f.src = Sys2Proof.Config.ownMac) || (s.redFind f).any (fun x => if fromE0 then x.e0 else x.e1)

/-- HSR_FORWARD: a ring frame not for the device goes out of the other port, one that has come round excepted (R308; log entry 190). In PRP
and HSR mode a frame for the device is taken once; with neither, one that is not for the device is dropped (R309). -/
def execHsrForward (fromE0 forDevice : Bool) (frame : RedFrame) (s : State) : Host.Outcome State Fault Refusal :=
  .next (if !s.clocked || s.rd 0x1100 1 == 0 then s
  else if forDevice then s.redTake fromE0 frame
  else if s.rd 0x1100 1 ≠ 2 ∨ s.hsrRound fromE0 frame = true then s
  else (s.redNote fromE0 false frame).hsrPass fromE0 frame.body)

/-! ## The servo of TB3 (R118, R130) -/

/-- PTP_LOCK and LOCKED of TB3; source 0xE2 while the servo has lost its lock. -/
def State.setPtpLock (s : State) (b : Bool) : State :=
  let was := s.ptpLock
  let t := (s.wrBit 0x1200 5 3 b).wrBit 0x1204 7 0 b
  if was && !b then t.raise 0xE2 else if b && !was then t.unraise 0xE2 else t

/-- The servo with an offset from the master, in ns: over the first 16 Sync intervals of a new master it measures, then it
slews or steps, by the last offset of the 16: DESIGN CHOICE (log entry 185); else it steers TB3. -/
def State.ptpServo (s : State) (off : Int) : State :=
  let o := clampI (-2147483648) 2147483647 off
  let t := (s.wr 0x1208 9 (ofSigned 32 o)).wr 0x1204 6 (ofSigned 32 (clampI (-2147483648) 2147483647 (256 * off)))
  if t.tbMode 3 ≠ 5 then t
  else if t.clk.ptpChanging then
    if t.clk.ptpSyncs + 1 < 16 then { t with clk.ptpSyncs := t.clk.ptpSyncs + 1 }
    else
      let u : State := { t with clk.ptpSyncs := 0, clk.ptpChanging := false }
      if off.natAbs ≤ u.rd 0x1208 7 then u.servo 3
      else (u.addStep 3 (-off)).ev 2 9 3 evAction off.natAbs
  else (t.servo 3).setPtpLock (decide (off.natAbs ≤ 100))

/-- A Sync whose origin is known: receive stamp and origin in ps, correction as the message carries it. -/
def State.ptpOffset (s : State) (onE1 : Bool) (rx origin corr : Int) : State :=
  s.ptpServo (Int.fdiv (rx - origin - corrPs corr - 1000 * (s.linkMean onE1 : Int)) 1000)

/-! ## BMCA (R127, R130) -/

/-- A port's state in 0x1208.0C. -/
def State.portState (s : State) (onE1 : Bool) : Nat := bitsN (s.rd 0x1208 12) (4 * ptpPort onE1 + 3) (4 * ptpPort onE1)

/-- Set a port's state: IEEE 1588 LISTENING 4, MASTER 6, PASSIVE 7, SLAVE 9. -/
def State.setPortState (s : State) (onE1 : Bool) (v : Nat) : State :=
  s.wr 0x1208 12 (putBitsN (s.rd 0x1208 12) (4 * ptpPort onE1 + 3) (4 * ptpPort onE1) v)

/-- The fields of a dataset in the order of comparison. -/
def dsFields (a : PtpDs) : List Nat := [a.priority1, a.clockClass, a.accuracy, a.variance, a.priority2, a.gmid]

/-- Does a list of numbers stand before another, or equal it, read place by place? -/
def lexLe : List Nat → List Nat → Bool
  | a :: l, b :: m => decide (a < b) || (a == b && lexLe l m)
  | _, _ => true

/-- Is a dataset better than another, or as good (IEEE 1588)? -/
def dsBetter (a b : PtpDs) : Bool := lexLe (dsFields a) (dsFields b)

/-- The device's own dataset: its priorities, and for what no entry gives, the defaults of IEEE 1588 (log entry 158). -/
def State.ownDs (s : State) : PtpDs :=
  { priority1 := s.rd 0x1208 3, clockClass := 248, accuracy := 0xFE, variance := 0xFFFF, priority2 := s.rd 0x1208 4,
    gmid := Sys2Proof.Config.clockIdentity }

/-- Does the device's clock, where it may become master, stand ahead of an announced one? -/
def State.ownBetter (s : State) (ds : PtpDs) : Bool := s.rd 0x1208 5 == 0 && !dsBetter ds s.ownDs

/-- TB3 in mode PTP loses its source (R118). -/
def State.ptpFree (s : State) : State := if s.tbMode 3 = 5 then s.freerun 3 else s

/-- A new grandmaster: TB3 runs on its last increment, the servo measures anew (R118, R130). -/
def State.newMaster (s : State) (gmid : Nat) : State :=
  if gmid = s.rd 0x1208 8 then s
  else
    let t : State := { s with clk.ptpChanging := true, clk.ptpSyncs := 0, clk.ptpTwoStep := none, clk.noMaster := false }
    ((t.wr 0x1208 8 gmid).ptpFree).setPtpLock false

/-- GRANDMASTER_CHANGE (R130). -/
def execGrandmasterChange (gmid : Nat) (s : State) : Host.Outcome State Fault Refusal :=
  .next (if s.up && !s.fw.pause then s.newMaster gmid else s)

/-- An Announce of the best master puts the port in SLAVE, the other port that hears it in PASSIVE. -/
def State.announced (s : State) (onE1 : Bool) (ds : PtpDs) : State :=
  if s.ownBetter ds then s.setPortState onE1 6
  else if s.clk.ptpBest.all (fun b => dsBetter ds b || b.gmid == ds.gmid) then
    let t : State := { s with clk.ptpBest := some ds, clk.noMaster := false }
    (t.setPortState onE1 (if t.portState (!onE1) = 9 ∧ t.ptpOn (!onE1) = true then 7 else 9)).newMaster ds.gmid
  else s.setPortState onE1 7

/-- PTP_ANNOUNCE_RECEIVE (R130). -/
def execPtpAnnounceReceive (onE1 : Bool) (domain gmid : Nat) (priority : Nat × Nat) (quality : ClockQuality) (s : State) :
    Host.Outcome State Fault Refusal :=
  let ds : PtpDs := { priority1 := priority.1, clockClass := quality.clockClass, accuracy := quality.accuracy,
                      variance := quality.variance, priority2 := priority.2, gmid := gmid }
  .next (if s.up && !s.fw.pause && s.ptpOn onE1 && domain == s.rd 0x1208 2 then s.announced onE1 ds else s)

/-- ANNOUNCE_TIMEOUT: without a master TB3 runs on; a clock that is not slave-only becomes master (R127, R130). -/
def execAnnounceTimeout (s : State) : Host.Outcome State Fault Refusal :=
  let v := if s.rd 0x1208 5 = 0 then 6 else 4
  .next (if s.up && !s.fw.pause then
    let t : State := { s with clk.ptpBest := none, clk.noMaster := true, clk.ptpChanging := false, clk.ptpSyncs := 0,
                               clk.ptpTwoStep := none }
    let t := if t.ptpOn false then t.setPortState false v else t
    let t := if t.ptpOn true then t.setPortState true v else t
    t.ptpFree.setPtpLock false
  else s)

/-- Is a message of the master in use: the port in SLAVE, the domain the device's own? -/
def State.ptpHeard (s : State) (onE1 : Bool) (domain : Nat) : Bool :=
  s.up && !s.fw.pause && s.ptpOn onE1 && domain == s.rd 0x1208 2 && s.portState onE1 == 9

/-- PTP_SYNC_RECEIVE: a one-step Sync gives the offset at once, a two-step one with its Follow_Up (R128, R129). -/
def execPtpSyncReceive (onE1 : Bool) (domain : Nat) (raw : PtpStamp) (originTs corr : Int) (twoStep : Bool) (s : State) :
    Host.Outcome State Fault Refusal :=
  .next (if s.ptpHeard onE1 domain then
    (let rx := s.rxStamp onE1 raw.tb3
     if twoStep then { s with clk.ptpTwoStep := some ⟨rx - corrPs corr, raw.tb0⟩ } else s.ptpOffset onE1 rx (1000 * originTs) corr)
  else s)

/-- PTP_FOLLOW_UP_RECEIVE: with the stamp of the Sync it follows (R129). -/
def execPtpFollowUpReceive (onE1 : Bool) (domain : Nat) (preciseTs corr : Int) (s : State) : Host.Outcome State Fault Refusal :=
  .next (if s.ptpHeard onE1 domain then
    match s.clk.ptpTwoStep with
    | some x => ({ s with clk.ptpTwoStep := none } : State).ptpOffset onE1 x.tb3 (1000 * preciseTs) corr
    | none => s
  else s)

/-- PDELAY_REQ_RECEIVE: answered in every state; the turnaround is added on the way, or in two-step transmission the two stamps go in
the response and the message that follows it (R127, R129). -/
def execPdelayReqReceive (onE1 : Bool) (rx tx : PtpStamp) (s : State) : Host.Outcome State Fault Refusal :=
  .next (if s.clocked && s.ptpOn onE1 then
    (if s.rd 0x1208 6 = 1 then
      (s.send (.pdelayRespTwo onE1 (s.rxStamp onE1 rx.tb3))).send (.pdelayRespFup onE1 (s.txStamp onE1 tx.tb3))
    else s.send (.pdelayResp onE1 (s.txStamp onE1 tx.tb3 - s.rxStamp onE1 rx.tb3)))
  else s)

/-- PDELAY_RESP_RECEIVE: the mean link delay of the port, from the stamp of the own Pdelay_Req and that of the response (R128). -/
def execPdelayRespReceive (onE1 : Bool) (t2 t3 t4 : Int) (_t4Tb0 : BitVec 40) (s : State) : Host.Outcome State Fault Refusal :=
  .next (if s.up && !s.fw.pause && s.ptpOn onE1 then
    match Tab.get none (ptpPort onE1) s.clk.ptpReqAt with
    | none => s
    | some t1 =>
      let d := Int.fdiv (s.rxStamp onE1 t4 - t1.tb3 - 1000 * (t3 - t2)) 2000
      s.wr 0x1208 (10 + ptpPort onE1) (clampI 0 4294967295 d).toNat
  else s)

/-- A transmit stamp at an instant of the tick that the manual does not fix: TB3 as it stands at that instant, corrected, in ps, and
TB0 (R128). -/
def State.sendStamp (s : State) (onE1 : Bool) : PtpStamp :=
  let n := s.freeBelow s.tNs
  { tb3 := s.txCorrected onE1 (Int.fdiv (1000 * s.tbExtAt 3 n) 256), tb0 := s.tbAt 0 n }

/-- Send a Pdelay_Req and keep its stamps. -/
def State.sendPdelay (s : State) (onE1 : Bool) : State :=
  let x := s.sendStamp onE1
  ({ s.useFresh with clk.ptpReqAt := Tab.set none (ptpPort onE1) (some x) s.clk.ptpReqAt } : State).send (.pdelayReq onE1)

/-- Send a Sync: the origin in it, or in two-step transmission in the Follow_Up (R129). -/
def State.sendPtpSync (s : State) (onE1 : Bool) : State :=
  let x := s.sendStamp onE1
  let t := s.useFresh
  if s.rd 0x1208 6 = 1 then (t.send (.ptpSync onE1 0 true)).send (.ptpFollowUp onE1 x.tb3) else t.send (.ptpSync onE1 x.tb3 false)

/-- What a port sends each second: its Pdelay_Req, and as master its Sync and Announce. -/
def State.ptpInterval (s : State) (onE1 : Bool) : State :=
  if s.ptpOn onE1 then
    let t := s.sendPdelay onE1
    if t.portState onE1 = 6 then (t.sendPtpSync onE1).send (.ptpAnnounce onE1) else t
  else s

/-- PTP_MESSAGE_INTERVAL (R127, R129). -/
def execPtpMessageInterval (s : State) : Host.Outcome State Fault Refusal :=
  .next (if s.up && !s.fw.pause then (s.ptpInterval false).ptpInterval true else s)

/-! ## SC0's reads of the bases, compare channels (R120, R142) -/

/-- A TB1 leader in FOLLOW_TB3 steers TB1 to TB3, unless TB3 has lost its master (R130; Tables TM-1 and TM-3). -/
def State.followTb3 (s : State) : State :=
  if s.tbMode 1 = 3 ∧ s.tb1Steered = false ∧ ¬ (s.tbMode 3 = 5 ∧ s.clk.noMaster = true) then
    let d := clampI (-2147483648) 2147483647 (tbDiff (s.tbVis 1) (s.tbVis 3))
    (s.wr 0x1202 6 (ofSigned 32 d)).servo 1
  else s

/-- TB_EXTEND (R120, R142). -/
def execTbExtend (s : State) : Host.Outcome State Fault Refusal :=
  .next (if s.up && !s.fw.pause then (forUpTo (fun c s => s.cmpArm c) 8 (forUpTo (fun b s => s.tbRead b) 4 s)).followTb3 else s)

/-- Does an armed channel reach its target within the tick in progress? -/
def State.cmpDue (s : State) (c : Nat) : Bool :=
  s.rdBit (0x1240 + c) 1 15 && Tab.get false c s.clk.cmpArmed &&
  (Tab.get none c s.clk.cmpTgt).any (fun t => decide (t ≤ s.tbExt256 (s.cmpBase c) + s.tbSpan (s.cmpBase c)))

/-- The next target: the period later with REPEAT, else none. A step of the base past several periods lets the channel match once for
each of them, the next match being due at once: DESIGN CHOICE (log entry 184). -/
def State.cmpNext (s : State) (c : Nat) : State :=
  let n := if s.rdBit (0x1240 + c) 1 12 then (Tab.get none c s.clk.cmpTgt).map (fun t => t + 256 * (s.rd (0x1240 + c) 3 : Int)) else none
  ({ s with clk.cmpTgt := Tab.set none c n s.clk.cmpTgt, clk.cmpArmed := Tab.set false c false s.clk.cmpArmed } : State).cmpArm c

/-- COMPARE_MATCH: counted, with its pulse and its event as its control asks (R142, Table TM-14). -/
def execCompareMatch (c : Fin 8) (s : State) : Host.Outcome State Fault Refusal :=
  let i := 0x1240 + c.val
  .next (if s.up && s.cmpDue c then
    let t := s.count i 5
    let t := if t.rdBit i 1 7 then t.send (.comparePulse c (bitsN (t.rd i 1) 11 8) (t.rd i 4)) else t
    let t := if t.rdBit i 1 6 then t.ev 1 9 (0x10 + c.val) evOccur 0 else t
    t.cmpNext c
  else s)

/-! ## References (R131 to R133) -/

/-- REFERENCE_INVALID: the ADPLL leaves it for the next valid one, or for holdover; a listed one raises 0xE3. -/
def execReferenceInvalid (code : Fin 5) (s : State) : Host.Outcome State Fault Refusal :=
  let k := code.val
  .next (if s.clocked && s.refValid k && k != 0 then
    let t := s.wrBit 0x1210 7 k false
    let t := if t.refList.contains k then t.raise 0xE3 else t
    if t.adpllRef = k then t.retake else t.refreshTiming
  else s)

/-- REFERENCE_VALID: after 100 ms without interruption; out of holdover the ADPLL takes it. -/
def execReferenceValid (code : Fin 5) (s : State) : Host.Outcome State Fault Refusal :=
  let k := code.val
  .next (if s.clocked && !s.refValid k && k != 0 then
    let t := s.wrBit 0x1210 7 k true
    let t := if t.refList.contains k then t.unraise 0xE3 else t
    if t.adpllRef = 0 then t.retake else if k = 4 then t.takeSpar else t.refreshTiming
  else s)

/-- REVERTIVE_SWITCH: with the revertive flag, 10 s after a higher-priority reference has become valid again. -/
def execRevertiveSwitch (s : State) : Host.Outcome State Fault Refusal :=
  .next (if s.clocked && s.rdBit 0x1210 5 0 && s.bestRef != 0 && s.bestRef != s.adpllRef then s.retake else s)

/-! ## The PLLs (R133 to R135, Table TM-10) -/

/-- ADPLL_LOCK: the phase error within ±1 ns for 10 ms. -/
def execAdpllLock (s : State) : Host.Outcome State Fault Refusal :=
  .next (if s.clocked && s.adpllRef != 0 then
    let t := (s.wrBit 0x1210 6 7 true).wrBit 0x1210 6 5 false
    (if t.onFallback then t else ({ t with clk.adpllLoss := false } : State)).refreshTiming
  else s)

/-- ADPLL_HOLDOVER: no reference is valid. -/
def execAdpllHoldover (s : State) : Host.Outcome State Fault Refusal :=
  .next (if s.clocked && s.bestRef == 0 then s.holdover else s)

/-- ADPLL_LOCK_LOSS: with a valid reference an ADPLL loss, which asks for the fall-back at the next boundary (R134). -/
def execAdpllLockLoss (s : State) : Host.Outcome State Fault Refusal :=
  .next (if s.clocked && s.rdBit 0x1210 6 7 then
    let t := (s.wrBit 0x1210 6 7 false).wrBit 0x1210 6 5 true
    let t : State := { t with clk.adpllLoss := t.clk.adpllLoss || t.bestRef != 0 }
    t.refreshTiming
  else s)

/-- FALLBACK_RETURN: at a boundary outside RUN and COAST, after 10 s of LOCK (R135). -/
def execFallbackReturn (s : State) : Host.Outcome State Fault Refusal :=
  .next (if s.up && s.onFallback && !s.running && s.rdBit 0x1210 6 7 then
    let t := (s.wrBit 0x1200 5 5 false).wrBit 0x1211 1 6 false
    ({ t with clk.adpllLoss := false } : State).refreshTiming
  else s)

/-- FALLBACK_PLL_LOCK (R134). -/
def execFallbackPllLock (s : State) : Host.Outcome State Fault Refusal :=
  .next (if s.clocked && s.fallbackRef != 0 then (s.wrBit 0x1211 1 7 true).refreshTiming else s)

/-- Close the gate of every output whose source does not hold. -/
def State.closeGates (s : State) : State :=
  let s := forUpTo (fun m s => if s.outSource false m then s else s.setGate false m false) 8 s
  forUpTo (fun m s => if s.outSource true m then s else s.setGate true m false) 4 s

/-- FALLBACK_PLL_LOCK_LOSS: where it clocks the device PLL_LOCK clears, and the gates of its outputs close (R134, R141). -/
def execFallbackPllLockLoss (s : State) : Host.Outcome State Fault Refusal :=
  .next (if s.clocked && s.rdBit 0x1211 1 7 then
    let t := (s.wrBit 0x1211 1 7 false).refreshTiming
    if t.onFallback then t.closeGates else t
  else s)

/-! ## Gates of the timing outputs (R141) -/

/-- Is a gate's number one of its bank's? -/
def gateThere (bankB : Bool) (m : Nat) : Bool := !bankB || decide (m < 4)

/-- OUTPUT_GATE_CLOSE: the source has lost lock or reference. -/
def execOutputGateClose (bankB : Bool) (m : Fin 8) (s : State) : Host.Outcome State Fault Refusal :=
  .next (if s.clocked && gateThere bankB m && !s.outSource bankB m then s.setGate bankB m false else s)

/-- OUTPUT_GATE_OPEN: the source has been locked with a valid reference for 100 ms; the move to the fall-back opens gates by itself
(`State.fallbackMove`). -/
def execOutputGateOpen (bankB : Bool) (m : Fin 8) (s : State) : Host.Outcome State Fault Refusal :=
  .next (if s.clocked && gateThere bankB m && s.outEn bankB m && s.outSource bankB m && s.outLong then s.setGate bankB m true else s)

end Sys2Proof.Machine
end

