-- ==== Sys2Proof/Machine/Background.lean ====
section
/-! DEFINITION. Background activities: the health and wear observers, saves of counts and bins, scrub and refresh passes, lane
eye monitoring (R221 to R223, R328, R335, R341 to R343, R386). -/

namespace Sys2Proof.Machine

/-- Does the background work of the system cores run: from the end of BOOT, not in the pause of an activation (R353, R341)? -/
def State.coresFree (s : State) : Bool := s.up && !s.fw.pause

/-- Do scrub and refresh run: with the system cores, and in SLEEP from PD1 (Table EV-5)? -/
def State.scrubOn (s : State) : Bool := s.coresFree || s.sys.dev == .sleep

/-! ## Observers (Tables SS-15 and SS-16) -/

/-- The hottest valid junction temperature that the device holds of a cell's nodes, in 1/16 °C; −32,768 where there is none. -/
def State.cellHottest (s : State) (c : Nat) : Int :=
  (s.cellSlots c).foldl (fun m n => (s.slot n).tjHist.foldl (fun m e => e.2.foldl (fun m t => if m < t then t else m) m) m) (-32768)

/-- One half cycle counted in its bin; the bin saturates (R33, R222). -/
def rainBin (v : Nat) (b : Fin 64) : Nat :=
  putOctets 256 v (4 * b.val) 4 (Nat.min 0xFFFFFFFF (getOctets 256 v (4 * b.val) 4 + 1))

/-- Is a bin at its limit? -/
def rainFull (v : Nat) (b : Fin 64) : Bool := decide (0xFFFFFFFF ≤ getOctets 256 v (4 * b.val) 4)

/-- A half cycle counted: bin and total saturate under R33, with the overflow flag and its event. -/
def State.rainOne (s : State) (c : Nat) (b : Fin 64) : State :=
  let i := 0x6A00 + c
  let t := if rainFull (s.rd i 7) b then s.ctrLimit i 7 else s
  (t.wr i 7 (rainBin (s.rd i 7) b)).count i 8

/-- The half cycles of a window counted. -/
def State.rainCount (s : State) (c : Nat) (l : List (Fin 64)) : State := l.foldl (fun t b => t.rainOne c b) s

/-- The ticks of a window that a fit uses: none from before the window, which starts when the cell leaves bypass (R223). -/
def State.obsUsed (s : State) (c n : Nat) : Nat :=
  Nat.min n (s.clk.tick - (s.cell c).obsFrom).toNat

/-- The estimates of a window: capacitance and ESR only from at least 1,000 ticks used (Table SS-15). -/
def State.obsFit (s : State) (c ticksUsed cap esr von conf : Nat) : State :=
  let i := 0x6A00 + c
  let t := if 1000 ≤ ticksUsed then ((s.wr i 1 cap).wr i 2 conf).wr i 3 esr else s
  (t.wr i 4 von).wr i 9 ticksUsed

/-- The junction temperature of a window: its mean, and the maximum since cleared. -/
def State.obsHeat (s : State) (c : Nat) (mean : Int) : State :=
  let i := 0x6A00 + c
  let hot (a b : Int) : Int := if a < b then b else a
  (s.wr i 5 (ofSigned 16 mean)).wr i 6 (ofSigned 16 (hot (hot (s.rdInt i 6 16) mean) (s.cellHottest c)))

/-- The health flags of a window; one that sets raises the observer source of the cell's string and writes an event (R221).
The source ends when no cell of the string has a flag. -/
def State.obsFlags (s : State) (c flags : Nat) : State :=
  let i := 0x6A00 + c
  let st := s.cellStr c
  let new := (List.range 3).filter (fun b => flags.testBit b && !s.rdBit i 10 b)
  let t := s.wr i 10 flags
  let t := new.foldl (fun t b => (t.raise (0xC5 + st)).ev 3 0xC st evWarn (256 * b + c)) t
  if (t.cellsOf st).any (fun d => t.rd (0x6A00 + d) 10 != 0) then t else t.unraise (0xC5 + st)

/-- OBSERVER_UPDATE: a 1 s window completes. A cell not configured, or in a disabled string, reports coverage 0 and keeps its
last results (R223); DERATE stops the observers (R386). -/
def execObserverUpdate (c : Fin 192) (ticksUsed cap esr von conf : Nat) (tjMean : Int) (capLow esrHigh vonHigh : Bool)
    (halfCycles : List (Fin 64)) (s : State) : Host.Outcome State Fault Refusal :=
  .next (if !s.coresFree || s.derated then s
  else
    let n := s.obsUsed c ticksUsed
    let t := s.setCell c { s.cell c with obsFrom := s.clk.tick }
    if s.cellType c = 0 ∨ s.strEn (s.cellStr c) = false then t.wr (0x6A00 + c) 9 0
    else (((t.obsFit c n cap esr von conf).obsHeat c tjMean).rainCount c halfCycles).obsFlags c
      (bitIf capLow 0 + bitIf esrHigh 1 + bitIf vonHigh 2))

/-! ## Saves -/

/-- RAINFLOW_SAVE: the hourly save; while MRAM writes are forbidden it waits (R222). -/
def execRainflowSave (s : State) : Host.Outcome State Fault Refusal :=
  .next (if s.coresFree then ({ s with evr.rainDue := true } : State).saveStores else s)

/-- AON_SAVE: PD0's counts go into MRAM every 60 s (R328); while MRAM writes are forbidden they do not (R389). -/
def execAonSave (s : State) : Host.Outcome State Fault Refusal :=
  .next (if s.mramLock then s else { s with evr.aonSaved := (s.evr.pcc, s.evr.opTime) })

/-- REPEAT_FLUSH: once per second while repeats go on (R335). -/
def execRepeatFlush (s : State) : Host.Outcome State Fault Refusal := .next (if s.up then s.flushReps else s)

/-! ## Scrub and refresh (R342) -/

/-- A pass longer than twice its guarantee: a record and a count. -/
def State.overrun (s : State) (pass : Nat) : State := (s.ev 3 0xB 0 evWarn pass).count 0x6080 3

/-- SCRUB_PASS: its duration, the words it corrected, and its overrun: beyond 400 ms, over the memories of Table SF-4 beyond
200 ms. -/
def execScrubPass (ms corrected : Nat) (sf4Memory : Bool) (s : State) : Host.Outcome State Fault Refusal :=
  .next (if s.scrubOn then
    let t := (s.wr 0x6080 1 (Nat.min 0xFFFF ms)).countN 0x6080 2 corrected
    if 400 < ms ∨ (sf4Memory = true ∧ 200 < ms) then t.overrun 0 else t
  else s)

/-- MRAM_REFRESH: a full pass ends; beyond 20 min it has overrun. It is postponed while MRAM writes are forbidden. -/
def execMramRefresh (minutes : Nat) (s : State) : Host.Outcome State Fault Refusal :=
  .next (if s.scrubOn && !s.mramLock then
    let t := s.wr 0x6080 4 s.evr.opTime
    if 20 < minutes then t.overrun 1 else t
  else s)

/-! ## Lane eyes (R343) -/

/-- A delay rechecked: one that has drifted by more than 5 ps is recalibrated at the next boundary (Table EV-5). -/
def State.delaySeen (s : State) (k : Nat) (d : Int) : State :=
  if 5 < (d - Tab.get 0 k s.fld.delayCal).natAbs then { s with fld.delayNext := Tab.set none k (some d) s.fld.delayNext } else s

/-- EYE_MONITOR: the opening of one lane, horizontally in 1/64 UI and vertically in 4 mV. A narrow one raises the lane's source;
for E0 and E1 it writes a record only. The delays of its transmitter and of a local pin are rechecked with it. -/
def execEyeMonitor (lane : Fin 56) (r : EyeRead) (v : Nat) (s : State) : Host.Outcome State Fault Refusal :=
  let h := r.wide
  .next (if !s.coresFree || s.derated then s
  else
    let s := (s.delaySeen lane r.txDelay).delaySeen (64 + r.pin) r.pinDelay
    let t := s.wr 0x6090 (lane + 1) (256 * Nat.min 255 h + Nat.min 255 v)
    if eyeNarrow h v then
      (if lane.val < 54 then t.raise (t.laneSource lane) else t.ev 3 0xB 0 evWarn (2 + (lane.val - 54)))
    else if lane.val < 54 then (if t.laneUp lane then t.laneClear lane else t)
    else t)

end Sys2Proof.Machine
end

