-- ==== Sys2Proof/Machine/EngineAlu.lean ====
section
/-! DEFINITION. The ALU and accumulator classes of the engines (Table CE-6, OP 0x01 to 0x08, 0x18 to 0x1A). -/

namespace Sys2Proof.Machine

/-- The form of an ALU syllable: D`d` from a function of the engine's registers, with its sticky bits (slots C and L). -/
def State.aluOp (s : State) (y : Syl) (d : Nat) (f : Engine → Word × Word) : State :=
  s.syl y slotCL (fun x => x.putD d (f x))

/-- The form of a MAC-class syllable: accumulator `n` from an integer function, saturated at 40 bits and clamped under
SATM where `clamp` says so (slots M0 and M1, R175). -/
def State.accOp (s : State) (y : Syl) (n : Nat) (clamp : Bool) (f : Engine → Int) : State :=
  s.syl y slotM (fun x => x.putA n (accResult (clamp && x.satm) (f x)))

/-- The B operand of a MAC: the coefficient at the slot's K pointer with KS, else a half of SB. -/
def macB (y : Syl) (o : MacOp) (x : Engine) : Int :=
  if o.ks then x.coef (if y.slot = .m0 then x.k0 else x.k1) else halfOf o.hb (x.dreg o.sb.val)

/-- The product of a MAC syllable. -/
def macProd (y : Syl) (o : MacOp) (x : Engine) : Int :=
  macProduct x.frac o.neg (halfOf o.ha (x.dreg o.sa.val)) (macB y o x)

/-- The advance of the K pointer that KS brings. -/
def Engine.kStep (x : Engine) (y : Syl) (o : MacOp) : Except Nat Engine :=
  if o.ks then (if y.slot = .m0 then x.put (.k0 (kNext x.k0)) else x.put (.k1 (kNext x.k1))) else .ok x

/-- A MAC-class syllable over the product (R175). -/
def State.macOp (s : State) (y : Syl) (o : MacOp) (f : Engine → Int) : State :=
  s.syl y slotM (fun x => (x.putA o.acc.val (accResult x.satm (f x))).bind (fun z => z.kStep y o))

/-- ADD: Dd = Da + Db, wrapping (R176). -/
def execAdd (y : Syl) (d a b : Fin 32) (s : State) : Host.Outcome State Fault Refusal :=
  .next (s.aluOp y d.val (fun x => (x.dreg a.val + x.dreg b.val, 0)))

/-- SUB: Dd = Da - Db, wrapping (R176). -/
def execSub (y : Syl) (d a b : Fin 32) (s : State) : Host.Outcome State Fault Refusal :=
  .next (s.aluOp y d.val (fun x => (x.dreg a.val - x.dreg b.val, 0)))

/-- ADDS: Q31 saturating addition (R176). -/
def execAdds (y : Syl) (d a b : Fin 32) (s : State) : Host.Outcome State Fault Refusal :=
  .next (s.aluOp y d.val (fun x => sat32 ((x.dreg a.val).toInt + (x.dreg b.val).toInt)))

/-- SUBS: Q31 saturating subtraction (R176). -/
def execSubs (y : Syl) (d a b : Fin 32) (s : State) : Host.Outcome State Fault Refusal :=
  .next (s.aluOp y d.val (fun x => sat32 ((x.dreg a.val).toInt - (x.dreg b.val).toInt)))

/-- ADD2S: two Q15 lanes, saturating addition (R176). -/
def execAdd2s (y : Syl) (d a b : Fin 32) (s : State) : Host.Outcome State Fault Refusal :=
  .next (s.aluOp y d.val (fun x => lanes (hiHalf (x.dreg a.val) + hiHalf (x.dreg b.val)) (loHalf (x.dreg a.val) + loHalf (x.dreg b.val))))

/-- SUB2S: two Q15 lanes, saturating subtraction (R176). -/
def execSub2s (y : Syl) (d a b : Fin 32) (s : State) : Host.Outcome State Fault Refusal :=
  .next (s.aluOp y d.val (fun x => lanes (hiHalf (x.dreg a.val) - hiHalf (x.dreg b.val)) (loHalf (x.dreg a.val) - loHalf (x.dreg b.val))))

/-- AND: bitwise (R176). -/
def execAnd (y : Syl) (d a b : Fin 32) (s : State) : Host.Outcome State Fault Refusal :=
  .next (s.aluOp y d.val (fun x => (x.dreg a.val &&& x.dreg b.val, 0)))

/-- OR: bitwise (R176). -/
def execOr (y : Syl) (d a b : Fin 32) (s : State) : Host.Outcome State Fault Refusal :=
  .next (s.aluOp y d.val (fun x => (x.dreg a.val ||| x.dreg b.val, 0)))

/-- XOR: bitwise (R176). -/
def execXor (y : Syl) (d a b : Fin 32) (s : State) : Host.Outcome State Fault Refusal :=
  .next (s.aluOp y d.val (fun x => (x.dreg a.val ^^^ x.dreg b.val, 0)))

/-- SHL: shift Da left by Db[4:0] (Table CE-6). -/
def execShl (y : Syl) (d a b : Fin 32) (s : State) : Host.Outcome State Fault Refusal :=
  .next (s.aluOp y d.val (fun x => (x.dreg a.val <<< ((x.dreg b.val).toNat % 32), 0)))

/-- SHR: logical shift of Da right by Db[4:0] (Table CE-6). -/
def execShr (y : Syl) (d a b : Fin 32) (s : State) : Host.Outcome State Fault Refusal :=
  .next (s.aluOp y d.val (fun x => (x.dreg a.val >>> ((x.dreg b.val).toNat % 32), 0)))

/-- ASR: arithmetic shift of Da right by Db[4:0] (Table CE-6). -/
def execAsr (y : Syl) (d a b : Fin 32) (s : State) : Host.Outcome State Fault Refusal :=
  .next (s.aluOp y d.val (fun x => ((x.dreg a.val).sshiftRight ((x.dreg b.val).toNat % 32), 0)))

/-- MIN: signed (Table CE-6). -/
def execMin (y : Syl) (d a b : Fin 32) (s : State) : Host.Outcome State Fault Refusal :=
  .next (s.aluOp y d.val (fun x => (if (x.dreg a.val).toInt ≤ (x.dreg b.val).toInt then x.dreg a.val else x.dreg b.val, 0)))

/-- MAX: signed (Table CE-6). -/
def execMax (y : Syl) (d a b : Fin 32) (s : State) : Host.Outcome State Fault Refusal :=
  .next (s.aluOp y d.val (fun x => (if (x.dreg a.val).toInt ≤ (x.dreg b.val).toInt then x.dreg b.val else x.dreg a.val, 0)))

/-- ABS: saturating, Da only (R176). -/
def execAbs (y : Syl) (d a : Fin 32) (s : State) : Host.Outcome State Fault Refusal :=
  .next (s.aluOp y d.val (fun x => sat32 ((x.dreg a.val).toInt.natAbs : Int)))

/-- NEGS: saturating, Da only (R176). -/
def execNegs (y : Syl) (d a : Fin 32) (s : State) : Host.Outcome State Fault Refusal :=
  .next (s.aluOp y d.val (fun x => sat32 (-(x.dreg a.val).toInt)))

/-- CLIP: Dd = min(max(Da, -Db), Db) (Table CE-6). -/
def execClip (y : Syl) (d a b : Fin 32) (s : State) : Host.Outcome State Fault Refusal :=
  .next (s.aluOp y d.val (fun x => (clipW (x.dreg a.val) (x.dreg b.val), 0)))

/-- CMP: flags N, Z, C, V from Da - Db (Table CE-6). -/
def execCmp (y : Syl) (a b : Fin 32) (s : State) : Host.Outcome State Fault Refusal :=
  .next (s.syl y slotCL (fun x => x.putFlags (cmpFlags (x.dreg a.val) (x.dreg b.val))))

/-- MOV: Dd = Da (Table CE-6). -/
def execMov (y : Syl) (d a : Fin 32) (s : State) : Host.Outcome State Fault Refusal :=
  .next (s.aluOp y d.val (fun x => (x.dreg a.val, 0)))

/-- MOVP: Pd = Da (Table CE-6). -/
def execMovp (y : Syl) (p : Fin 8) (a : Fin 32) (s : State) : Host.Outcome State Fault Refusal :=
  .next (s.syl y slotCL (fun x => x.put (.p p.val (x.dreg a.val))))

/-- MOVD: Dd = Pa (Table CE-6). -/
def execMovd (y : Syl) (d : Fin 32) (p : Fin 8) (s : State) : Host.Outcome State Fault Refusal :=
  .next (s.aluOp y d.val (fun x => (x.preg p.val, 0)))

/-- PACK: Da[15:0] in [31:16], Db[15:0] in [15:0] (Table CE-6). -/
def execPack (y : Syl) (d a b : Fin 32) (s : State) : Host.Outcome State Fault Refusal :=
  .next (s.aluOp y d.val (fun x => ((x.dreg a.val).extractLsb' 0 16 ++ (x.dreg b.val).extractLsb' 0 16, 0)))

/-- MOVS: Dd = ST (Table CE-6). -/
def execMovs (y : Syl) (d : Fin 32) (s : State) : Host.Outcome State Fault Refusal :=
  .next (s.aluOp y d.val (fun x => (x.st, 0)))

/-- MOVST: ST = Da, RND 0b11 written as 0b01 (Tables CE-4 and CE-6). -/
def execMovst (y : Syl) (a : Fin 32) (s : State) : Host.Outcome State Fault Refusal :=
  .next (s.syl y slotCL (fun x => x.put (.st (x.dreg a.val))))

/-- SAT16: Da saturated to Q15, sign-extended (R176). -/
def execSat16 (y : Syl) (d a : Fin 32) (s : State) : Host.Outcome State Fault Refusal :=
  .next (s.aluOp y d.val (fun x => satQ15 (x.dreg a.val).toInt))

/-- DIVQ: Q15 division, slot C only (R176, Table CE-6). -/
def execDivq (y : Syl) (d a b : Fin 32) (s : State) : Host.Outcome State Fault Refusal :=
  .next (s.syl y slotC (fun x => x.putD d.val (divQ (x.dreg a.val) (x.dreg b.val))))

/-- MULQ: Q15 product of the low halves, rounded by RND, saturated (R176). -/
def execMulq (y : Syl) (d a b : Fin 32) (s : State) : Host.Outcome State Fault Refusal :=
  .next (s.aluOp y d.val (fun x => mulQ x.st (x.dreg a.val) (x.dreg b.val)))

/-- ADDI: Dd = Da + IMM17, sign-extended (Table CE-6). -/
def execAddi (y : Syl) (d a : Fin 32) (imm : BitVec 17) (s : State) : Host.Outcome State Fault Refusal :=
  .next (s.aluOp y d.val (fun x => (x.dreg a.val + BitVec.signExtend 32 imm, 0)))

/-- ANDI: IMM17 zero-extended (Table CE-6). -/
def execAndi (y : Syl) (d a : Fin 32) (imm : BitVec 17) (s : State) : Host.Outcome State Fault Refusal :=
  .next (s.aluOp y d.val (fun x => (x.dreg a.val &&& BitVec.zeroExtend 32 imm, 0)))

/-- ORI: IMM17 zero-extended (Table CE-6). -/
def execOri (y : Syl) (d a : Fin 32) (imm : BitVec 17) (s : State) : Host.Outcome State Fault Refusal :=
  .next (s.aluOp y d.val (fun x => (x.dreg a.val ||| BitVec.zeroExtend 32 imm, 0)))

/-- MOVI: Dd = IMM17, sign-extended (Table CE-6). -/
def execMovi (y : Syl) (d : Fin 32) (imm : BitVec 17) (s : State) : Host.Outcome State Fault Refusal :=
  .next (s.aluOp y d.val (fun _ => (BitVec.signExtend 32 imm, 0)))

/-- MOVHI: Dd = IMM17[15:0] << 16 (Table CE-6). -/
def execMovhi (y : Syl) (d : Fin 32) (imm : BitVec 17) (s : State) : Host.Outcome State Fault Refusal :=
  .next (s.aluOp y d.val (fun _ => (imm.extractLsb' 0 16 ++ (0 : BitVec 16), 0)))

/-- SHI with 0b00: shift left by IMM17[4:0] (Table CE-6). -/
def execShiShl (y : Syl) (d a amt : Fin 32) (s : State) : Host.Outcome State Fault Refusal :=
  .next (s.aluOp y d.val (fun x => (x.dreg a.val <<< amt.val, 0)))

/-- SHI with 0b01: logical shift right by IMM17[4:0] (Table CE-6). -/
def execShiShr (y : Syl) (d a amt : Fin 32) (s : State) : Host.Outcome State Fault Refusal :=
  .next (s.aluOp y d.val (fun x => (x.dreg a.val >>> amt.val, 0)))

/-- SHI with 0b10: arithmetic shift right by IMM17[4:0] (Table CE-6). -/
def execShiAsr (y : Syl) (d a amt : Fin 32) (s : State) : Host.Outcome State Fault Refusal :=
  .next (s.aluOp y d.val (fun x => ((x.dreg a.val).sshiftRight amt.val, 0)))

/-- CMPI: flags from Da - IMM17, sign-extended (Table CE-6). -/
def execCmpi (y : Syl) (a : Fin 32) (imm : BitVec 17) (s : State) : Host.Outcome State Fault Refusal :=
  .next (s.syl y slotCL (fun x => x.putFlags (cmpFlags (x.dreg a.val) (BitVec.signExtend 32 imm))))

/-- MAC: An += or -= a * b (R175). -/
def execMac (y : Syl) (o : MacOp) (s : State) : Host.Outcome State Fault Refusal :=
  .next (s.macOp y o (fun x => (x.areg o.acc.val).toInt + macProd y o x))

/-- MPY: An = a * b or its negative (R175). -/
def execMpy (y : Syl) (o : MacOp) (s : State) : Host.Outcome State Fault Refusal :=
  .next (s.macOp y o (fun x => macProd y o x))

/-- CLRA: An = 0 (Table CE-6). -/
def execClra (y : Syl) (acc : Fin 4) (s : State) : Host.Outcome State Fault Refusal :=
  .next (s.syl y slotM (fun x => x.put (.a acc.val 0)))

/-- MOVA.W: An = Dm, sign-extended (Table CE-6). -/
def execMovaW (y : Syl) (acc : Fin 4) (d : Fin 32) (s : State) : Host.Outcome State Fault Refusal :=
  .next (s.syl y slotM (fun x => x.put (.a acc.val (BitVec.signExtend 40 (x.dreg d.val)))))

/-- MOVA.H: An = Dm[15:0] << 16, sign-extended (Table CE-6). -/
def execMovaH (y : Syl) (acc : Fin 4) (d : Fin 32) (s : State) : Host.Outcome State Fault Refusal :=
  .next (s.syl y slotM (fun x => x.put (.a acc.val (BitVec.ofInt 40 (loHalf (x.dreg d.val) * 65536)))))

/-- ADDA: An += A(SD[1:0]), saturating, clamped under SATM (R175). -/
def execAdda (y : Syl) (acc src : Fin 4) (s : State) : Host.Outcome State Fault Refusal :=
  .next (s.accOp y acc.val true (fun x => (x.areg acc.val).toInt + (x.areg src.val).toInt))

/-- ADDW: An += Dm, sign-extended, clamped under SATM (R175). -/
def execAddw (y : Syl) (acc : Fin 4) (d : Fin 32) (s : State) : Host.Outcome State Fault Refusal :=
  .next (s.accOp y acc.val true (fun x => (x.areg acc.val).toInt + (x.dreg d.val).toInt))

/-- ASRA: arithmetic shift of An right by IMM6 (Table CE-6). -/
def execAsra (y : Syl) (acc : Fin 4) (amt : Fin 64) (s : State) : Host.Outcome State Fault Refusal :=
  .next (s.syl y slotM (fun x => x.put (.a acc.val ((x.areg acc.val).sshiftRight amt.val))))

/-- SHLA: An shifted left by IMM6, saturating at 40 bits (Table CE-6). -/
def execShla (y : Syl) (acc : Fin 4) (amt : Fin 64) (s : State) : Host.Outcome State Fault Refusal :=
  .next (s.accOp y acc.val false (fun x => (x.areg acc.val).toInt * (2 ^ amt.val : Nat)))

/-- EXT.H: An rounded at bit 16 by RND, saturated to Q15 (R176). -/
def execExtH (y : Syl) (d : Fin 32) (acc : Fin 4) (s : State) : Host.Outcome State Fault Refusal :=
  .next (s.syl y slotM (fun x => x.putD d.val (extHalf x.st (x.areg acc.val))))

/-- EXT.W: An saturated to 32 bits, unrounded (R176). -/
def execExtW (y : Syl) (d : Fin 32) (acc : Fin 4) (s : State) : Host.Outcome State Fault Refusal :=
  .next (s.syl y slotM (fun x => x.putD d.val (sat32 (x.areg acc.val).toInt)))

end Sys2Proof.Machine
end

