-- ==== Sys2Proof/Machine/EngineCtl.lean ====
section
/-! DEFINITION. The control class of the engines (Table CE-6, OP 0x1C), NOP and BRK. -/

namespace Sys2Proof.Machine

/-- Note the jump of a bundle; control syllables stand in slot C only, so a bundle holds one. -/
def Engine.jumpTo (x : Engine) (t : Nat) : Engine := { x with jump := some t }

/-- Bcc: branch to bundle IMM14 where the condition holds; reserved condition codes are illegal. -/
def execBcc (y : Syl) (cond : Fin 16) (target : BitVec 14) (s : State) : Host.Outcome State Fault Refusal :=
  .next (s.syl y slotC (fun x =>
    if 9 < cond.val then .error 2
    else .ok (if condHolds x.st cond.val then x.jumpTo target.toNat else x)))

/-- CALL: the next bundle's address onto the return stack of 16 entries, branch to IMM14. -/
def execCall (y : Syl) (target : BitVec 14) (s : State) : Host.Outcome State Fault Refusal :=
  .next (s.syl y slotC (fun x =>
    if 16 ≤ x.rstack.length then .error 1
    else .ok ({ x with rstack := (x.pc + 1) :: x.rstack }.jumpTo target.toNat)))

/-- RET: branch to the address on the return stack. -/
def execRet (y : Syl) (s : State) : Host.Outcome State Fault Refusal :=
  .next (s.syl y slotC (fun x =>
    match x.rstack with
    | [] => .error 1
    | t :: r => .ok ({ x with rstack := r }.jumpTo t)))

/-- A hardware loop begins: bundles up to IMM14 inclusive, `n` times; 0 skips the body. -/
def Engine.loopStart (x : Engine) (inner : Bool) (n last : Nat) : Except Nat Engine :=
  if (inner && decide (0 < x.lc1.cnt)) || (!inner && decide (0 < x.lc0.cnt ∨ 0 < x.lc1.cnt)) then .error 1
  else if n = 0 then .ok (x.jumpTo (last + 1))
  else if inner then .ok { x with lc1 := { cnt := n, first := x.pc + 1, last := last } }
  else .ok { x with lc0 := { cnt := n, first := x.pc + 1, last := last } }

/-- LOOP LC0: the outer hardware loop. The counter has 16 bits. -/
def execLoopLc0 (y : Syl) (sa : Fin 32) (lastBundle : BitVec 14) (s : State) : Host.Outcome State Fault Refusal :=
  .next (s.syl y slotC (fun x => x.loopStart false ((x.dreg sa.val).toNat % 65536) lastBundle.toNat))

/-- LOOP LC1: the inner hardware loop. -/
def execLoopLc1 (y : Syl) (sa : Fin 32) (lastBundle : BitVec 14) (s : State) : Host.Outcome State Fault Refusal :=
  .next (s.syl y slotC (fun x => x.loopStart true ((x.dreg sa.val).toNat % 65536) lastBundle.toNat))

/-- WAIT: stall at the bundle's end until the event bits in SA are set. -/
def execWait (y : Syl) (sa : Fin 32) (all : Bool) (s : State) : Host.Outcome State Fault Refusal :=
  .next (s.syl y slotC (fun x => .ok { x with waitW := some (x.dreg sa.val, all) }))

/-- A waiting engine goes on once its events are set. -/
def execWaitResume (e : Fin 16) (s : State) : Host.Outcome State Fault Refusal :=
  let x := s.engine e.val
  match x.run with
  | .waiting m all => .next (if x.eventMet m all then s.setEngine e.val { x with run := .running } else s)
  | .idle => .next s
  | .running => .next s
  | .halted => .next s
  | .missed => .next s
  | .excepted => .next s
  | .stopped => .next s
  | .debug => .next s

/-- SETK: a coefficient pointer takes word index [10:0] and circular length [26:16] of SA. -/
def execSetk (y : Syl) (k1 : Bool) (sa : Fin 32) (s : State) : Host.Outcome State Fault Refusal :=
  .next (s.syl y slotC (fun x =>
    let v := x.dreg sa.val &&& 0x07FF07FF
    if k1 then x.put (.k1 v) else x.put (.k0 v)))

/-- A halt under debug (R171, R193): the engine keeps its state, the device takes SF5's cluster action with CAUSE 0x09. -/
def State.debugHalt (s : State) (e : Nat) : State :=
  (s.setEngine e { s.engine e with run := .debug }).sf5 9

/-- BRK: a halt under debug while a debug session with that permission is open, else an exception (R193). -/
def execBrk (y : Syl) (s : State) : Host.Outcome State Fault Refusal :=
  if (s.engine y.eng.val).run = .running ∧ slotC y.slot = true ∧ s.fw.debugOpen = true ∧ s.fw.debugPerm.getLsbD 1 = true then
    .next (s.debugHalt y.eng.val)
  else .next (s.syl y slotC (fun _ => .error 7))

/-- NOP: nothing, in any slot. A syllable of another word that no command spells, one with a reserved OP or FN or an OP 0x00 with
other bits, is an illegal instruction (R177, Table CE-5). -/
def execNop (y : NopSyl) (s : State) : Host.Outcome State Fault Refusal :=
  .next (s.syl y.at_ slotAny (fun x => if y.word = 0 then .ok x else .error 2))

end Sys2Proof.Machine
end

