-- ==== Sys2Proof/Machine/EngineIo.lean ====
section
/-! DEFINITION. The stores of an engine to the registers of its I/O window as commands of their own, and the ends of its
transfers. A store is made by a running engine; an engine that does not run makes none. -/

namespace Sys2Proof.Machine

/-- A store by engine `e`: it happens while the engine runs. -/
def State.byEngine (s : State) (e : Nat) (f : State → State) : State :=
  if (s.engine e).run = .running then f s else s

/-- A store by engine `e` that may be an exception. -/
def State.byEngineX (s : State) (e : Nat) (f : State → Except Nat State) : State :=
  s.byEngine e (fun s => match f s with
    | .ok t => t
    | .error c => s.engExc e c)

/-- DONE (R173). -/
def execDone (e : Fin 16) (s : State) : Host.Outcome State Fault Refusal :=
  .next (s.byEngine e.val (·.portDone e.val))

/-- RELEASE (R185). -/
def execRelease (e : Fin 16) (mask : BitVec 7) (s : State) : Host.Outcome State Fault Refusal :=
  .next (s.byEngine e.val (·.releaseBits e.val mask.toNat))

/-- SIGNAL (R181). -/
def execSignal (e : Fin 16) (flags : BitVec 16) (s : State) : Host.Outcome State Fault Refusal :=
  .next (s.byEngine e.val (·.portSignal e.val flags))

/-- EVCLR (Table CE-10). -/
def execEvclr (e : Fin 16) (mask : BitVec 32) (s : State) : Host.Outcome State Fault Refusal :=
  .next (s.byEngine e.val (·.portEvclr e.val mask))

/-- TB2INC (R126). -/
def execTb2inc (e : Fin 16) (inc : Word) (s : State) : Host.Outcome State Fault Refusal :=
  .next (s.byEngineX e.val (·.portTb2inc e.val inc))

/-- TB2STEP (R126). -/
def execTb2step (e : Fin 16) (step : Word) (s : State) : Host.Outcome State Fault Refusal :=
  .next (s.byEngineX e.val (·.portTb2step e.val step))

/-- A write of N to a string's allocator port (R182). -/
def execAllocRequest (e : Fin 16) (st : Fin 6) (w : Word) (s : State) : Host.Outcome State Fault Refusal :=
  .next (s.byEngine e.val (·.portAlloc e.val st.val w))

/-- COMMIT (R183, R184); `inReload` says that the set lands in the leg's reload cycle. -/
def execCommit (e : Fin 16) (handle : Word) (inReload : Bool) (s : State) : Host.Outcome State Fault Refusal :=
  .next (s.byEngine e.val (·.portCommit e.val handle inReload))

/-- COMMIT_COAST (R183, R407). -/
def execCommitCoast (e : Fin 16) (handle : Word) (inReload : Bool) (s : State) : Host.Outcome State Fault Refusal :=
  .next (s.byEngine e.val (·.portCommitCoast e.val handle inReload))

/-- A store to a transfer channel's LEN (R180). -/
def execXferStart (e : Fin 16) (ch : Fin 4) (len : Word) (s : State) : Host.Outcome State Fault Refusal :=
  .next (s.byEngineX e.val (·.portXfer e.val ch.val len))

/-- A transfer's last beat is done (R180). -/
def execXferDone (e : Fin 16) (ch : Fin 4) (s : State) : Host.Outcome State Fault Refusal :=
  .next (s.xferFinish e.val ch.val)

/-- A store to a trace channel (R194). -/
def execTraceWrite (e : Fin 16) (ch : Fin 8) (v : Word) (s : State) : Host.Outcome State Fault Refusal :=
  .next (s.byEngine e.val (·.portTrace e.val ch.val v))

/-- TRIG (R195). -/
def execTrig (e : Fin 16) (s : State) : Host.Outcome State Fault Refusal :=
  .next (s.byEngine e.val (·.traceSource 1))

/-- A store to X of a notch unit (R188). -/
def execNotchSample (e : Fin 16) (u : Fin 4) (x : Word) (s : State) : Host.Outcome State Fault Refusal :=
  .next (s.byEngine e.val (fun s => s.setEngine e.val ((s.engine e.val).notchRun u.val (x.extractLsb' 0 16) 4)))

/-- LOAD of a notch unit: the staged coefficients come into use at its next sample (R188). -/
def execNotchLoad (e : Fin 16) (u : Fin 4) (s : State) : Host.Outcome State Fault Refusal :=
  .next (s.byEngine e.val (fun s =>
    let x := s.engine e.val
    s.setEngine e.val (x.setNotch u.val { x.notchU u.val with loadPend := true })))

/-- CLR of a notch unit: zero state (R188). -/
def execNotchClr (e : Fin 16) (u : Fin 4) (s : State) : Host.Outcome State Fault Refusal :=
  .next (s.byEngine e.val (fun s =>
    let x := s.engine e.val
    s.setEngine e.val (x.setNotch u.val (x.notchU u.val).clr)))

/-- A store to FB of a following-error unit, which marks it updated for the tick (R189). -/
def execFollowFbWrite (e : Fin 16) (u : Fin 8) (v : Word) (s : State) : Host.Outcome State Fault Refusal :=
  .next (s.byEngine e.val (fun s =>
    let x := s.engine e.val
    s.setEngine e.val (x.setFollow u.val { x.followU u.val with fb := v.extractLsb' 0 16, updated := true })))

/-- A write of 1 to TRIPPED of a following-error unit (R190). -/
def execTrippedClear (e : Fin 16) (u : Fin 8) (s : State) : Host.Outcome State Fault Refusal :=
  .next (s.byEngine e.val (fun s =>
    let x := s.engine e.val
    s.setEngine e.val (x.setFollow u.val (x.followU u.val).clrTrip)))

end Sys2Proof.Machine
end

