-- ==== Sys2Proof/Machine/EngineMem.lean ====
section
/-! DEFINITION. The memory class of the engines (Table CE-6, OP 0x10 to 0x17): loads, stores, LDP and STP. -/

namespace Sys2Proof.Machine

/-- The form of a load syllable (slot L): the address of the memory operand, the value or the exception, the register
writes `f` makes of the value, and the update of the P register. An engine that a waiting DONE halts as the accesses before the load
complete executes the load no more (R173). -/
def State.loadOp (s : State) (y : Syl) (m : MemOp) (n : Nat) (ok : Bool) (f : Engine → Nat → Except Nat Engine) : State :=
  s.sylS y slotL (fun s =>
    if ok = false then .error 2
    else ((s.engine y.eng.val).memAddr m).bind (fun a =>
      let t := s.loadWait y.eng.val a.1.toNat
      if (t.engine y.eng.val).run ≠ .running then .ok t
      else (t.engLoad y.eng.val a.1.toNat n).bind (fun v => (f (t.engine y.eng.val) v).bind (fun z =>
        (z.putP m a.2).bind (fun z => .ok (t.setEngine y.eng.val z))))))

/-- The form of a store syllable (slot L): the value `f` at the memory operand's address. -/
def State.storeOp (s : State) (y : Syl) (m : MemOp) (n : Nat) (ok : Bool) (f : Engine → Nat) : State :=
  s.sylS y slotL (fun s =>
    let x := s.engine y.eng.val
    if ok = false then .error 2
    else (x.memAddr m).bind (fun a =>
      (x.putP m a.2).bind (fun z => (s.setEngine y.eng.val z).engStore y.eng.val a.1.toNat n (f x))))

/-- A loaded halfword, sign-extended. -/
def sx16 (v : Nat) : Word := BitVec.ofInt 32 (toSigned 16 v)

/-- LD.H: 16-bit load, sign-extended. -/
def execLdH (y : Syl) (dt : Fin 32) (m : MemOp) (s : State) : Host.Outcome State Fault Refusal :=
  .next (s.loadOp y m 2 true (fun x v => x.put (.d dt.val (sx16 v))))

/-- LD.W: 32-bit load. -/
def execLdW (y : Syl) (dt : Fin 32) (m : MemOp) (s : State) : Host.Outcome State Fault Refusal :=
  .next (s.loadOp y m 4 true (fun x v => x.put (.d dt.val (BitVec.ofNat 32 v))))

/-- LD.D: 64-bit load into DT and DT + 1, DT even. -/
def execLdD (y : Syl) (dt : Fin 32) (m : MemOp) (s : State) : Host.Outcome State Fault Refusal :=
  .next (s.loadOp y m 8 (dt.val % 2 == 0) (fun x v =>
    (x.put (.d dt.val (BitVec.ofNat 32 v))).bind (fun z => z.put (.d (dt.val + 1) (BitVec.ofNat 32 (v / 2 ^ 32))))))

/-- ST.H: 16-bit store of the low half. -/
def execStH (y : Syl) (dt : Fin 32) (m : MemOp) (s : State) : Host.Outcome State Fault Refusal :=
  .next (s.storeOp y m 2 true (fun x => (x.dreg dt.val).toNat % 65536))

/-- ST.W: 32-bit store. -/
def execStW (y : Syl) (dt : Fin 32) (m : MemOp) (s : State) : Host.Outcome State Fault Refusal :=
  .next (s.storeOp y m 4 true (fun x => (x.dreg dt.val).toNat))

/-- ST.D: 64-bit store of DT and DT + 1, DT even. -/
def execStD (y : Syl) (dt : Fin 32) (m : MemOp) (s : State) : Host.Outcome State Fault Refusal :=
  .next (s.storeOp y m 8 (dt.val % 2 == 0) (fun x => (x.dreg dt.val).toNat + 2 ^ 32 * (x.dreg (dt.val + 1)).toNat))

/-- LDP: 32-bit load into P register PT. Where MODE 0b01 also updates that register, two results meet in one register and
the manual names no value: a free value. -/
def execLdp (y : Syl) (pt : Fin 8) (m : MemOp) (s : State) : Host.Outcome State Fault Refusal :=
  if pt = m.pb ∧ m.mode = 1 then
    .next (({ s with fresh := s.fresh + 1 } : State).loadOp y { m with mode := 0, disp := 0 } 4 true
      (fun x _ => x.put (.p pt.val (Sys2Proof.Config.freeWord s.fresh))))
  else .next (s.loadOp y m 4 true (fun x v => x.put (.p pt.val (BitVec.ofNat 32 v))))

/-- STP: 32-bit store of P register PT. -/
def execStp (y : Syl) (pt : Fin 8) (m : MemOp) (s : State) : Host.Outcome State Fault Refusal :=
  .next (s.storeOp y m 4 true (fun x => (x.preg pt.val).toNat))

end Sys2Proof.Machine
end

