-- ==== Sys2Proof/Machine/Supply.lean ====
section
/-! DEFINITION. Supplies, the always-on domain, SLEEP's end and die temperatures (R328, R337, R345, R370 to R379, R386 to
R389, Tables PW-2 and PW-4 to PW-8). -/

namespace Sys2Proof.Machine

/-- Are the rails of the block up: no internal reset asserted? -/
def State.railsUp (s : State) : Bool := !s.sys.intReset

/-! ## Temperatures (R386, R387, R389) -/

/-- The readings stored, in 1/16 °C: all ten, or TA0 alone with PD2 off. -/
def State.putTemps (s : State) (off : Bool) (temps : List Int) : State :=
  if off then s.wr 0x1331 9 (ofSigned 16 (temps.getD 8 0))
  else forUpTo (fun i s => s.wr 0x1331 (i + 1) (ofSigned 16 (temps.getD i 0))) 10 s

/-- The highest reading of a list. -/
def hottestOf (l : List Int) : Int := l.foldl (fun m t => if m < t then t else m) (-32768)

/-- The die temperature: the highest reading, or TA0 alone with PD2 off. -/
def State.dieTemp (s : State) (off : Bool) : Int :=
  if off then s.rdInt 0x1331 9 16 else hottestOf ((List.range 10).map (fun i => s.rdInt 0x1331 (i + 1) 16))

/-- The sensor of the highest reading, in the order of 0x1331; TA0 with PD2 off. Thermal records name it (Table EV-3; log entry 195). -/
def State.hotSensor (s : State) (off : Bool) : Nat :=
  if off then 8
  else ((List.range 10).find? (fun i => decide (s.rdInt 0x1331 (i + 1) 16 = s.dieTemp false))).getD 0

/-- One more reading in a row, or none. -/
def inARow (n : Nat) (b : Bool) : Nat := if b then Nat.min 3 (n + 1) else 0

/-- Readings in a row at or above each threshold, and below the release threshold (R386). -/
def State.countLevels (s : State) (t : Int) : State :=
  let at_ (sub : Nat) : Bool := decide (16 * (s.rd 0x1330 sub : Int) ≤ t)
  let p := { s.pw with
    thWarn := inARow s.pw.thWarn (at_ 3), thDerate := inARow s.pw.thDerate (at_ 4), thShut := inARow s.pw.thShut (at_ 5),
    thRel := inARow s.pw.thRel (!at_ 7) }
  { s with pw := p }

/-- DIE_RISE: more than 3 °C above a reading of the last second, at one reading per ms; RISE clears after a second without
(R387, Table PW-8). -/
def State.dieRise (s : State) (t : Int) : State :=
  let rose := s.pw.dieHist.any (fun o => decide (o + 48 < t))
  let h := (t :: s.pw.dieHist).take 1000
  let left := if rose then 1000 else s.pw.riseLeft - 1
  let u : State := { s with pw.dieHist := h, pw.riseLeft := left }
  if rose && !s.rdBit 0x1330 2 3 then ((u.wrBit 0x1330 2 3 true).occur 0xE6).ev 3 7 (u.hotSensor false) evWarn 0
  else if left = 0 then u.wrBit 0x1330 2 3 false
  else u

/-- The sensors that are read: all ten, or TA0 alone with PD2 off (Table PW-4). -/
def sensorsOn (off : Bool) : List Nat := if off then [9] else (List.range 10).map (· + 1)

/-- MRAM_LOCK sets while a sensor reads below −25 °C or above +125 °C (R389). -/
def State.mramWatch (s : State) (off : Bool) : State :=
  if (sensorsOn off).any (fun i => decide (s.rdInt 0x1331 i 16 < -400 ∨ 2000 < s.rdInt 0x1331 i 16)) then
    s.wrBit 0x1330 2 4 true
  else s

/-- The interval of the MRAM refresh that the die temperature asks for, in hours (Table EV-5). -/
def refreshHours (t : Int) : Nat := if t < 1360 then 24 else if t < 1680 then 12 else 6

/-- OTP programming that waited for the temperature is made (R345). -/
def State.arbNow (s : State) : State :=
  match s.fw.arbWait with
  | some a => if s.otpOk then ({ s with fw.arbWait := none } : State).raiseArb a else s
  | none => s

/-- TEMP_READ: the die sensors, every 1 ms. -/
def execTempRead (temps : List Int) (s : State) : Host.Outcome State Fault Refusal :=
  .next (if !s.railsUp then s
  else
    let off := s.sys.dev == .sleep || s.pw.thermalOff
    let s := s.putTemps off temps
    let t := s.dieTemp off
    let s := ((s.wr 0x1330 1 (ofSigned 16 t)).wr 0x6080 5 (refreshHours t)).mramWatch off
    if off then s else ((s.countLevels t).dieRise t).arbNow)

/-- THERMAL_WARN: three readings at or above the warn threshold. -/
def execThermalWarn (s : State) : Host.Outcome State Fault Refusal :=
  .next (if s.up && decide (3 ≤ s.pw.thWarn) && !s.rdBit 0x1330 2 0 then
    ((s.wrBit 0x1330 2 0 true).raise 0xE6).ev 3 7 (s.hotSensor false) evWarn (s.rd 0x1330 3)
  else s)

/-- THERMAL_DERATE: three readings at or above the derate threshold; 0xE6 occurs again. -/
def execThermalDerate (s : State) : Host.Outcome State Fault Refusal :=
  .next (if s.up && decide (3 ≤ s.pw.thDerate) && !s.derated then
    (((s.wrBit 0x1330 2 1 true).setOwn 0xE6 true).occur 0xE6).ev 1 7 (s.hotSensor false) evState (s.rd 0x1330 4)
  else s)

/-- THERMAL_RELEASE: three readings below the release threshold clear every level that has set. -/
def execThermalRelease (s : State) : Host.Outcome State Fault Refusal :=
  .next (if s.up && decide (3 ≤ s.pw.thRel) && (s.rdBit 0x1330 2 0 || s.derated) then
    (((s.wrBit 0x1330 2 0 false).wrBit 0x1330 2 1 false).unraise 0xE6).ev 1 7 (s.hotSensor false) evEnd (s.rd 0x1330 7)
  else s)

/-- Is a shutdown due: three readings at or above its threshold, or one above 124.5 °C (R388)? -/
def State.tooHot (s : State) : Bool := decide (3 ≤ s.pw.thShut) || decide (1992 < s.rdInt 0x1330 1 16)

/-- The first step of a shutdown: an ACTIVE with an able partner hands over, any other device blocks and gates. -/
def State.shutFirst (s : State) : State :=
  if s.sys.role = .active ∧ s.partnerAble = true then
    ({ s with pair.handover := true } : State).addDue 0x81 (s.clk.tick + 2) 0
  else (s.inject 0 0 8).gateBlock

/-- THERMAL_SHUTDOWN (R388): hand-over or block, SAFE, the record, and power off within 10 ms. -/
def execThermalShutdown (s : State) : Host.Outcome State Fault Refusal :=
  .next (if s.up && s.tooHot && !s.sys.due.any (fun d => d.kind == 0x84) then
    let t := ((s.shutFirst).enterSafe.flushReps.ev 7 7 (s.hotSensor false) evAction (s.rd 0x1330 5)).count 0x1330 6
    let t : State := { t with sys.pins.rstoutN := false }
    t.addDue 0x84 (s.clk.tick + 2) 0
  else s)

/-- THERMAL_RESTART: TA0 has stayed below the release threshold for 10 s; a cold boot with cause 0x05. -/
def execThermalRestart (st : Straps) (s : State) : Host.Outcome State Fault Refusal :=
  .next (if s.pw.thermalOff && decide (s.rdInt 0x1331 9 16 < 16 * (s.rd 0x1330 7 : Int)) then s.opFree.coldBoot st 5 false else s)

/-- MRAM_UNLOCK: every sensor has read within −23 °C to +123 °C for 1 s; what waited is written (R306, R337, R389). -/
def execMramUnlock (s : State) : Host.Outcome State Fault Refusal :=
  .next (if s.mramLock &&
      (sensorsOn (s.sys.dev == .sleep || s.pw.thermalOff)).all (fun i =>
        decide (-368 ≤ s.rdInt 0x1331 i 16 ∧ s.rdInt 0x1331 i 16 ≤ 1968)) then
    let t := s.wrBit 0x1330 2 4 false
    let t := if t.sys.dev = .boot then t else t.flushBuf
    let t := if t.evr.storeWait || t.evr.rainDue then t.saveStores else t
    if t.saf.safWait then t.saveSafety (t.rd 0x4000 2) else t
  else s)

/-! ## The backup store (R377) -/

/-- CHG_TEMP with a valid temperature: set outside 0–45 °C, clear again within 2–43 °C. -/
def State.chargeBand (s : State) (t : Int) : State :=
  if t < 0 ∨ 720 < t then s.wrBit 0x1300 1 7 true
  else if 32 ≤ t ∧ t ≤ 688 then s.wrBit 0x1300 1 7 false
  else s

/-- NTC_READ: every 100 ms. Below −40 °C or above 125 °C the sensor is open or shorted. -/
def execNtcRead (temp : Int) (s : State) : Host.Outcome State Fault Refusal :=
  .next (if !s.railsUp then s
  else if temp < -640 ∨ 2000 < temp then
    let t := (s.wr 0x1300 7 0x8000).wrBit 0x1300 1 8 true
    (if s.rdBit 0x1300 1 8 then t else t.ev 3 6 0 evWarn 0x8000).refreshCharge
  else (((s.wr 0x1300 7 (ofSigned 16 temp)).wrBit 0x1300 1 8 false).chargeBand temp).refreshCharge)

/-! ## Rails and the always-on supplies (R371, R389) -/

/-- Is a rail outside ±5 % of nominal (RAIL_WARN)? -/
def railOut (i mv : Nat) : Bool :=
  let n := railNominal.getD i 0
  decide (100 * mv < 95 * n ∨ 105 * n < 100 * mv)

/-- The rails that are no core rails of SF5 and were not outside at the refresh before; a VDD_C of 0 says that there was none
(log entry 118). -/
def State.railsNewOut (s : State) (mv : List Nat) : List Nat :=
  (List.range 11).filter (fun i => decide (3 ≤ i) && railOut i (mv.getD i 0) && (s.rd 0x1301 1 == 0 || !railOut i (s.rd 0x1301 (i + 1))))

/-- RAIL_VOLTAGE_REFRESH: every 10 ms; RAIL_WARN follows the rails, and one that is no core rail of SF5 writes a record when it
leaves its range. -/
def execRailVoltageRefresh (mv : List Nat) (s : State) : Host.Outcome State Fault Refusal :=
  .next (if !s.railsUp || s.sys.dev == .sleep || s.pw.thermalOff then s
  else
    let t := forUpTo (fun i s => s.wr 0x1301 (i + 1) (Nat.min 0xFFFF (mv.getD i 0))) 11 s
    let t := t.wrBit 0x1300 1 9 ((List.range 11).any (fun i => railOut i (mv.getD i 0)))
    (s.railsNewOut mv).foldl (fun t i => t.ev 3 6 0 evWarn i) t)

/-- AON_SWITCH: PD0 moves to VAON_B, provided that is at 3.0 V or above. -/
def execAonSwitch (vaonBmv : Nat) (s : State) : Host.Outcome State Fault Refusal :=
  .next (if 3000 ≤ vaonBmv ∧ s.pw.aonB = false then ({ s with pw.aonB := true } : State).wrBit 0x1300 1 3 true else s)

/-- AON_RETURN: PD0 moves back to VAON_A. -/
def execAonReturn (s : State) : Host.Outcome State Fault Refusal :=
  .next (if s.pw.aonB then ({ s with pw.aonB := false } : State).wrBit 0x1300 1 3 false else s)

/-! ## Main and backup (R372 to R376) -/

/-- Are the board rails on backup (ON_BACKUP)? -/
def State.onBackup (s : State) : Bool := s.rdBit 0x1300 1 2

/-- A loss of supply, at once (R375). Where the runtime is not up PD0 keeps the record for the next boot (R381). -/
def State.supplyLost (s : State) : State :=
  if s.up then (((s.gateBlock).inject 0 0 8).enterSafe).ev 1 6 0 evAction 1
  else s.holdRec 1 evAction 1

/-- The switch-over to backup (Table PW-2, R373). -/
def State.toBackup (s : State) : State :=
  let p := { s.sys.pins with pgoodMain := false, pselMain := false, pselBkup := true }
  let t : State := { s with sys.pins := p, pw.backupFrom := s.evr.opTime }
  let t := ((t.wrBit 0x1300 1 2 true).wrBit 0x1300 1 4 true).wrBit 0x1300 1 5 false
  let t := (t.count 0x1300 5).ev 1 6 0 evAction 2
  (t.raise 0xE7).refreshCharge.refreshReady

/-- PGOOD_MAIN_FALL: a low shorter than 2 µs is ignored; with PGOOD_BKUP low it is a loss of supply (R372, R373, R375). -/
def execPgoodMainFall (lowNs : Nat) (s : State) : Host.Outcome State Fault Refusal :=
  .next (if lowNs < 2000 then s
  else if s.onBackup then { s with sys.pins.pgoodMain := false }
  else if s.sys.pins.pgoodBkup then s.toBackup
  else ({ s with sys.pins.pgoodMain := false } : State).supplyLost.refreshCharge)

/-- SUPPLY_LOSS: PGOOD_BKUP falls on backup, or PGOOD_MAIN falls with PGOOD_BKUP low (R375). -/
def execSupplyLoss (s : State) : Host.Outcome State Fault Refusal :=
  let p := { s.sys.pins with pgoodBkup := false, pgoodMain := false }
  .next (({ s with sys.pins := p } : State).supplyLost.refreshCharge)

/-- HOLDUP_EXPIRY: the hold-up time ends on backup (R374). -/
def execHoldupExpiry (s : State) : Host.Outcome State Fault Refusal :=
  .next (if s.onBackup && s.rdBit 0x1300 1 4 then
    let t := ((s.wrBit 0x1300 1 4 false).wrBit 0x1300 1 5 true).ev 1 6 0 evAction 3
    if !s.up then t
    else if s.sys.role = .active ∧ s.partnerAble = true then
      (({ t with pair.handover := true } : State).addDue 0x81 (s.clk.tick + 2) 0).addDue 0x83 (s.clk.tick + 2) 0
    else t.addDue 0x83 (s.clk.tick + 1) 0
  else s)

/-- The device returns to main supply (R376). -/
def State.toMain (s : State) : State :=
  let p := { s.sys.pins with pgoodMain := true, pselMain := true, pselBkup := false }
  let secs := (s.evr.opTime - s.pw.backupFrom) / 1000000
  let v := s.rd 0x1300 6 + secs
  let t : State := { s with sys.pins := p }
  let t := if v < 2 ^ 32 then t.wr 0x1300 6 v else (t.wr 0x1300 6 0xFFFFFFFF).ctrLimit 0x1300 6
  let t := ((t.wrBit 0x1300 1 2 false).wrBit 0x1300 1 4 false).ev 1 6 0 evAction 4
  (t.unraise 0xE7).refreshCharge.refreshReady

/-- MAIN_RETURN: PGOOD_MAIN is high and has been for `highMs`; the return waits for the qualification time (R376). -/
def execMainReturn (highMs : Nat) (s : State) : Host.Outcome State Fault Refusal :=
  .next (if s.onBackup && decide (s.rd 0x1300 3 ≤ highMs) then s.toMain
  else ({ s with sys.pins.pgoodMain := true } : State).refreshCharge)

/-! ## The end of SLEEP (R379) -/

/-- SLEEP ends after `secs`: a cold boot that keeps retention, with the operating time of the sleep. -/
def State.wake (s : State) (st : Straps) (secs : Nat) : State :=
  ((s.opOn (1000000 * secs)).coldBoot st 4 false).wr 0x1310 2 (Nat.min 0xFFFFFFFF secs)

/-- WAKE_PIN: WAKE high for 1 ms. How long the device has slept the row does not carry: a free value. -/
def execWakePin (highUs : Nat) (st : Straps) (s : State) : Host.Outcome State Fault Refusal :=
  .next (if s.sys.dev = .sleep ∧ 1000 ≤ highUs then (s.useFresh).wake st (Sys2Proof.Config.freeNat s.fresh) else s)

/-- WAKE_TIMER: the wake timer, counting from entry, expires. -/
def execWakeTimer (st : Straps) (s : State) : Host.Outcome State Fault Refusal :=
  .next (if s.sys.dev = .sleep ∧ 0 < s.rd 0x1310 1 then s.wake st (s.rd 0x1310 1) else s)

end Sys2Proof.Machine
end

