-- ==== Sys2Proof/Machine/Firmware.lean ====
section
/-! DEFINITION. Activation of an image: loading, the pause, the new runtime and the health checks (R352 to R361, Tables FW-4, FW-6
to FW-8). -/

namespace Sys2Proof.Machine

/-! ## Loading and the pause -/

/-- Does the staged image load: its header passes the checks of a start again, against the revocations and the count as they are now, and
its payload decrypts with its tag (R345, R352)? -/
def State.loads (s : State) : Bool :=
  s.inactiveSlot.hdr.any (fun h => s.hdrStart h == 0 && gcmOk h s.inactiveSlot.payload)

/-- LOAD_COMPLETE: SC3 has decrypted and checked the staged image, or marks its slot INVALID (R352); `ok` says that the slot has read
without an error. The pause notice that the partner holds ends with a load that failed. -/
def execLoadComplete (ok : Bool) (s : State) : Host.Outcome State Fault Refusal :=
  .next (if !s.fw.loading || s.fw.loaded || !s.up then s
  else if ok && s.loads then { s with fw.loaded := true }
  else
    let t := (s.setInactive { s.inactiveSlot with status := 7 }).wr 0x1410 2 0x16
    let t : State := { t with fw.loading := false }
    (t.ev 1 4 0 evAction 0x16).pauseOver)

/-- ACTIVATION_PAUSE_BEGIN: B(a), the first boundary after loading completes (R352, R353). -/
def execActivationPauseBegin (s : State) : Host.Outcome State Fault Refusal :=
  .next (if s.fw.loading && s.fw.loaded && s.up then (s.beginPause false).wr 0x1410 2 2 else s)

/-! ## The new runtime -/

/-- The safety set in force as a migration leaves it (FLAGS[0] SMIG). -/
def State.migrateSafety (s : State) (h : ImgHdr) : State :=
  if h.smig then
    safetyMembers.foldl (fun s m => s.wr m.1 m.2 (Sys2Proof.Config.migrated h.setfmt (ekey m.1 m.2) (s.rd m.1 m.2))) s
  else s

/-- SETTINGS_MIGRATION: copy 1 of each store takes the image's format; copy 2 keeps the old one (R356). -/
def State.migrate (s : State) (h : ImgHdr) : State :=
  let s := (s.migrateSafety h).refreshChecks
  s.saveStores.saveSafety s.saf.copy1.conf

/-- A migrated copy that fails its check is written again from the old copy, by migrating again (R356). -/
def State.migrateAgain (s : State) : State :=
  if s.oldCopy && !s.mramLock then
    let c := s.evr.copy2
    let d := s.saf.copy2
    { s with evr := { s.evr with copy1 := StoreCopy.of s.setFmt (c.seq + 1) c.conf (s.migrated c.ents), saving := none },
             saf := { s.saf with copy1 := StoreCopy.of s.setFmt (d.seq + 1) d.conf (s.migrated d.ents) } }
  else s

/-- The start of the activated image succeeds: slots, confirm window, the stores' migration where its format differs. A changed check value
takes COMMISSION and BLOCKED to COMMISSION at the next boundary (R356, R357). -/
def State.startNew (s : State) : State :=
  let fmt := s.setFmt
  let chk := s.rd 0x4000 1
  let s : State := { s.toNew with fw.confirming := true, fw.confirmFrom := s.evr.opTime }
  let s := ((s.wr 0x1410 2 3).wr 0x1410 7 0).imageFormat.refreshChecks
  let s := match s.runSlot.hdr with
    | some h => if h.setfmt ≠ fmt then s.migrate h else s
    | none => s
  if s.rd 0x4000 1 = chk then s.endPause else s.endPause.addDue 0x85 (s.clk.tick + 1) 0

/-- A start that fails: the staged image is given up. The image that ran starts again from copy 2, as a fallback (R361). -/
def State.startFails (s : State) : State := s.toNew.fallback 6

/-- Does the activated image start: it runs, and its migration, where its format asks for one, has not failed? -/
def State.startsOk (s : State) (started migrated : Bool) : Bool :=
  started && (migrated || s.inactiveSlot.hdr.all (fun h => h.setfmt == s.setFmt))

/-- RUNTIME_RESTART: B(r) (R354, R356, R361). A fallback pause that fails takes the device to SAFE. -/
def execRuntimeRestart (started migrated : Bool) (s : State) : Host.Outcome State Fault Refusal :=
  .next (if !s.fw.pause then s
  else if s.fw.fbPause then
    (if started then s.endPause.stateAnew
     else
       let t : State := { s with fw.pause := false, fw.fbPause := false }
       t.enterSafe.pauseOver)
  else if s.startsOk started migrated then s.startNew
  else s.startFails)

/-! ## Health confirmation -/

/-- Does CONTROL hold (Table FW-8)? -/
def State.controlOk (s : State) : Bool := decide (1000 ≤ s.fw.ctrlGood) || (decide (s.sys.role ≠ .standby) && !s.fw.wasRun)

/-- Is the migration complete and every copy of the stores valid, as the copies stand and as they read (Table FW-8)? -/
def State.storesOk (s : State) (read : Bool) : Bool :=
  read && s.evr.copy1.ok && s.evr.copy2.ok && s.saf.copy1.ok && s.saf.copy2.ok && decide (s.evr.copy1.fmt = s.setFmt)

/-- The health checks (Table FW-8). The start and self-tests of the cores are the runtime's findings. -/
def State.healthBits (s : State) (coresOk storesRead : Bool) : Nat :=
  let n := bitIf coresOk 0 + bitIf (decide (1000 ≤ s.fw.challGood)) 1 + bitIf (s.storesOk storesRead) 2 +
    bitIf (decide (s.fw.lanesAtPause &&& ~~~ s.lanesUp = 0)) 3 + bitIf s.controlOk 4 + bitIf (!s.fw.newL3) 5
  if n = 63 then 0xBF else n

/-- HEALTH_AUTO_CONFIRM: the checks stand in 0x1410.07; once all hold within the window the runtime confirms on its own,
unless a host must (R358). A migrated copy that fails its check is migrated again (R356). -/
def execHealthAutoConfirm (found : HealthIn) (s : State) : Host.Outcome State Fault Refusal :=
  .next (if s.fw.confirming && !s.fw.pause && s.up then
    let t := s.wr 0x1410 7 (s.healthBits found.coresOk found.storesOk)
    let t := if found.storesOk && s.evr.copy1.ok && s.saf.copy1.ok || s.evr.saving.isSome then t else t.migrateAgain
    if t.rdBit 0x1410 7 7 && t.rd 0x1410 5 == 0 && t.inWindow then { t with fw.confirmed := true } else t
  else s)

/-- CONFIRM_WINDOW_EXPIRY: the window ends without confirmation and the device falls back (R361). -/
def execConfirmWindowExpiry (s : State) : Host.Outcome State Fault Refusal :=
  .next (if s.fw.confirming && !s.fw.confirmed && !s.fw.pause && s.up then s.fallback 5 else s)

end Sys2Proof.Machine
end

