-- ==== Sys2Proof/Machine/Node.lean ====
section
/-! DEFINITION. The node commands (chapter "The node contract"): what a node does at its boundary, on frames, on its
protections and on Management. A node without power does nothing. -/

namespace Sys2Proof.Machine

/-- Change a powered node. -/
def State.onNode (s : State) (n : Nat) (f : Node → Node) : State :=
  if (s.node n).powered then s.setNode n (f (s.node n)) else s

/-! ## Forwarding (R66, R67, R83)

A powered node passes on, in every state and unchanged, whatever reaches one of its ports, valid or not. Behind a frame of its own
that is leaving it holds the rest, and a Block ordered set overtakes. That an own Response is over when a Sync or a regular Wale
comes, and a reply when a regular Wale comes, is R54's; the model takes these commands and the boundary for the end of an own
frame (log entry 146). -/

/-- What a port of a node holds leaves, the own frame being over. -/
def State.releaseHeld (s : State) (n : Nat) : State :=
  let w := (s.node n).np.fwd
  if !(s.node n).powered then s
  else
  let t := s.setNode n { s.node n with np.fwd := NodeFwd.init }
  t.sendAll (w.heldA.map (TxItem.nodeForward n false) ++ w.heldB.map (TxItem.nodeForward n true))

/-- Is an own frame of a node leaving on a port? -/
def Node.sending (x : Node) (onB : Bool) : Bool := if onB then x.np.fwd.ownB else x.np.fwd.ownA

/-- Hold a frame at a port behind the own one. -/
def Node.hold (x : Node) (toB : Bool) (f : NodeFrame) : Node :=
  if toB then { x with np.fwd.heldB := x.np.fwd.heldB ++ [f] } else { x with np.fwd.heldA := x.np.fwd.heldA ++ [f] }

/-- Pass a frame or ordered set on to a port of a node. -/
def State.passOn (s : State) (n : Nat) (toB : Bool) (f : NodeFrame) : State :=
  let x := s.node n
  if !x.powered then s
  else match f with
    | .blockSet b => s.send (.nodeForward n toB (.blockSet b))
    | .sync .. | .waleHdr .. | .record .. | .coast .. | .mgmt .. =>
      if x.sending toB then s.setNode n (x.hold toB f) else s.send (.nodeForward n toB f)

/-- A frame reaches a powered node from an end: it is passed on, and the node takes it. -/
def State.hears (s : State) (n : Nat) (fromB : Bool) (f : NodeFrame) (g : Node → Node) : State :=
  (s.onNode n g).passOn n (!fromB) f

/-- NODE_SAMPLE: the node's boundary, its samples, and its Response on both ports where TB0 is locked and a boundary known (R92).
That a node whose lock has been lost again sends none is the model's reading (log entry 147). -/
def execNodeSample (n : Fin 768) (meas tj : List Int) (lockA lockB : Bool) (s : State) : Host.Outcome State Fault Refusal :=
  let x := s.node n.val
  if x.powered then
    let s := s.releaseHeld n.val
    let y := (s.node n.val).boundary
    let y := { y with np.meas := y.measured meas, np.tj := tj }
    if y.nr.tb0Lock ∧ y.nx.boundary.isSome then
      .next ((s.setNode n.val { y.responded with np.fwd.ownA := true, np.fwd.ownB := true }).send
        (.nodeResponse n.val (y.response n.val lockA lockB)))
    else .next (s.setNode n.val y)
  else .next s

/-- NODE_POWER_UP: N-OFF, or N-BYPASS where every served cell's bypass is confirmed closed (R84). -/
def execNodePowerUp (n : Fin 768) (ident : NodeIdent) (closed : BitVec 2) (s : State) : Host.Outcome State Fault Refusal :=
  .next (s.setNode n.val ({ Node.init with ident := some ident }.restart 0 closed))

/-- The probes of a pair, stamped at the node's ingress (R91). -/
def Node.probe (x : Node) (f : SyncFrame) (localTime : BitVec 40) (fwd : Nat) : Node :=
  if f.subtype = 1 then { x with nc.prbPend := some (localTime, fwd, f.tick) }
  else if f.subtype = 2 then
    match x.nc.prbPend with
    | some (t, fab, k) =>
      { x with
        nc.prbI := (tbDiff localTime t).toNat, nc.prbFab := fab, nc.prbFba := fwd, nc.prbTick := k, nc.prbPend := none }
    | none => x
  else x

/-- A Sync corrects the node's TB0 by its deviation, whole (log entry 148). -/
def Node.correct (x : Node) (d : Int) : Node := { x with np.tbOff := x.np.tbOff + BitVec.ofInt 40 d }

/-- The servo on the deviation of a valid Sync from the TSRC end (R90): locked, it sets aside and counts one that deviates by more
than 1 ns; else the Sync corrects the node's TB0. -/
def Node.servo (x : Node) (d : Int) : Node :=
  if x.nr.tb0Lock then
    if 256 < d.natAbs then
      let x := ({ x with np.syncBad := x.np.syncBad + 1 } : Node).cnt x.nc.tberr (fun y v => { y with nc.tberr := v })
      if 4 ≤ x.np.syncBad then x.unlock else x
    else { x.correct d with np.syncBad := 0 }
  else if d.natAbs ≤ 25 then
    if 7 ≤ x.np.syncGood then { x.correct d with nr.tb0Lock := true, np.syncGood := 0, np.syncBad := 0 }
    else { x.correct d with np.syncGood := x.np.syncGood + 1 }
  else { x.correct d with np.syncGood := 0 }

/-- A valid Sync reaches a node: TPER, the ends heard, the return of TSRC to the mandate holder's end, probes, the servo. -/
def Node.sync (x : Node) (fromB : Bool) (f : SyncFrame) (localTime : BitVec 40) (fwd : Nat) : Node :=
  let x := { x with
    nx.tper := f.tper, nr.holdover := false,
    np.gotA := x.np.gotA || !fromB, np.gotB := x.np.gotB || fromB,
    np.missA := if fromB then x.np.missA else 0, np.missB := if fromB then 0 else x.np.missB,
    nr.tsrcB := if x.nr.mandate.isSome && fromB == x.nr.mandateB then fromB else x.nr.tsrcB }
  let x := x.probe f localTime fwd
  if fromB = x.nr.tsrcB then
    x.servo (tbDiff (f.tDep + BitVec.ofNat 40 (if fromB then x.nr.dlyB else x.nr.dlyA)) (x.tb0At localTime))
  else x

/-- NODE_SYNC_RECEIVE (R89 to R91): a frame that fails its FCS counts in RXERR only. -/
def execNodeSyncReceive (n : Fin 768) (fromB : Bool) (f : SyncFrame) (localTime : BitVec 40) (fwd : Nat) (fcsOk : Bool)
    (s : State) : Host.Outcome State Fault Refusal :=
  .next ((s.releaseHeld n.val).hears n.val fromB (.sync f fcsOk) (fun x =>
    if fcsOk then x.sync fromB f localTime fwd else x.rxErr))

/-- Has the end that TSRC names been silent for 4 ticks, and may TSRC leave it? Where a mandate holder is known TSRC stays at the
other end while the holder's is silent (R89). -/
def Node.tsrcLeaves (x : Node) : Bool :=
  decide (4 ≤ (if x.nr.tsrcB then x.np.missB else x.np.missA)) && (x.nr.mandate.isNone || x.nr.tsrcB == x.nr.mandateB)

/-- NODE_TSRC_SWITCH: after 4 ticks without a valid Sync from its source end a node names the other end (R89). -/
def execNodeTsrcSwitch (n : Fin 768) (s : State) : Host.Outcome State Fault Refusal :=
  .next (s.onNode n.val (fun x => if x.tsrcLeaves then { x with nr.tsrcB := !x.nr.tsrcB } else x))

/-- Has no valid Sync come for 10 ms, counted in the node's ticks (R90)? -/
def Node.syncLost (x : Node) : Bool :=
  !x.np.gotA && !x.np.gotB && decide (10000000 ≤ (Nat.min x.np.missA x.np.missB + 1) * x.nx.tper)

/-- NODE_SYNC_LOSS: 10 ms without a valid Sync clear TB0_LOCK (R90). -/
def execNodeSyncLoss (n : Fin 768) (s : State) : Host.Outcome State Fault Refusal :=
  .next (s.onNode n.val (fun x => if x.syncLost then x.unlock else x))

/-- NODE_WALE_HEADER (R94, R96): EPOCH_SEEN rises and the NEN bit is taken; a header that fails its check counts, and is passed on
like any other (R51). -/
def execNodeWaleHeader (n : Fin 768) (ring : Nat) (h : WaleHdr) (s : State) : Host.Outcome State Fault Refusal :=
  let s := if h.supp then s else s.releaseHeld n.val
  .next (s.hears n.val h.endB (.waleHdr ring h) (fun x =>
    if x.hdrOk (16 * ring) h then (x.seeEpoch h).takeNen n.val h
    else if h.hcrcOk && decide (h.ring = ring) then x
    else x.rxErr))

/-- Commanded bits of an accepted bypass command (R111). -/
def Node.cmdBits (x : Node) (r : NodeRec) : Node :=
  if x.cmdOf r = 1 then { x with nr.bypstat := x.nr.bypstat ||| (r.arg.extractLsb' 0 2).zeroExtend 4 } else x

/-- NODE_REGULAR_RECORD (R95, R97, R107). A record invalid under R57 counts nowhere, as one that fails no check sequence (log entry
149). -/
def execNodeRegularRecord (n : Fin 768) (h : WaleHdr) (r : NodeRec) (arrival : BitVec 40) (s : State) :
    Host.Outcome State Fault Refusal :=
  .next (s.hears n.val h.endB (.record h r) (fun x =>
    if !x.hdrOk n.val h || h.supp || decide (r.pos ≠ n.val % 16) then x
    else
      let x := x.seeEpoch h
      if !r.rcrcOk then x.rxErr
      else if !x.recOk r || !x.seqOk h || !x.tickOk h || x.dup h then x
      else if x.lateRec h (x.tb0At arrival) then x.cnt x.nc.late (fun y v => { y with nc.late := v })
      else (x.accept n.val h r).cmdBits r))

/-- NODE_SUPPLEMENTARY_RECORD (R98, R99). -/
def execNodeSupplementaryRecord (n : Fin 768) (h : WaleHdr) (r : NodeRec) (arrival : BitVec 40) (s : State) :
    Host.Outcome State Fault Refusal :=
  .next (s.hears n.val h.endB (.record h r) (fun x =>
    if !h.supp || decide (r.pos ≠ n.val % 16) then x
    else
      let y := if x.hdrOk n.val h then x.seeEpoch h else x
      if y.suppOk n.val h r (y.tb0At arrival) then (y.mandated h).merge r.edges
      else
        let y := y.cnt y.nc.suprej (fun z v => { z with nc.suprej := v })
        if h.hcrcOk && r.rcrcOk then y else y.rxErr))

/-- The cells of a bypass command at its target boundary (R111): their legs go off and stay off, their actuators are energised; a
node without an actuator confirms at once. -/
def Node.bypassCells (x : Node) (cells : BitVec 2) : Node :=
  let x := { x with nr.bypHeld := x.nr.bypHeld ||| cells }
  let x := if x.ident.any (fun i => i.bypt == 0) then
    { x with nr.bypstat := x.nr.bypstat ||| (x.nr.bypHeld ++ (0 : BitVec 2)) } else x
  forUpTo (fun l x => if x.legDead l then x.setLeg l ((x.leg l).cut x.t0) else x) 8 x

/-- NODE_BYPASS_COMMAND (R111): the command acts at the target boundary; once every served cell is bypassed the node enters
N-BYPASS. A fault cause that has set at this boundary keeps the node in N-FAULT (R84; that a cause set between the boundary and this
command falls on the boundary's instant: log entry 150). -/
def execNodeBypassCommand (n : Fin 768) (s : State) : Host.Outcome State Fault Refusal :=
  .next (s.onNode n.val (fun x =>
    if x.nx.cmdNow = 1 then
      let x := x.bypassCells (x.nx.argNow.extractLsb' 0 2)
      if x.allBypassed ∧ x.ns ≠ .off ∧ ¬ (x.ns = .fault ∧ x.nx.faultNow = true) then
        { (x.cutAll x.t0).osdAbort with ns := .bypass, nx.coastT0 := none }
      else x
    else x))

/-- NODE_OSD_COMMAND (R112): in N-READY the test of the legs named that OSDCAP covers starts. -/
def execNodeOsdCommand (n : Fin 768) (s : State) : Host.Outcome State Fault Refusal :=
  .next (s.onNode n.val (fun x =>
    if x.nx.cmdNow = 2 ∧ x.ns = .ready then
      { x with
        np.osdLegs := x.nx.argNow.extractLsb' 0 8 &&& ((x.ident.map (·.osdcap)).getD 0), np.osdValid := false,
        nr.osdRun := true }
    else x))

/-- NODE_OSD_COMPLETE (R112, Table NC-11): the results, with OSD_VALID. -/
def execNodeOsdComplete (n : Fin 768) (upP dnP upM dnM : List Int) (s : State) : Host.Outcome State Fault Refusal :=
  .next (s.onNode n.val (fun x =>
    if x.nr.osdRun then
      { x with
        nr.osdRun := false, np.osdValid := true, np.osd := BitVec.ofNat 16 (osdWord x.np.osdLegs upP dnP upM dnM) }
    else x))

/-- NODE_BYPASS_CONFIRM (R111): the actuator of a commanded cell confirms. -/
def execNodeBypassConfirm (n : Fin 768) (cell : Fin 2) (s : State) : Host.Outcome State Fault Refusal :=
  .next (s.onNode n.val (fun x =>
    if x.nr.bypHeld.getLsbD cell.val then
      { x with nr.bypstat := x.nr.bypstat ||| BitVec.ofNat 4 (2 ^ (2 + cell.val)) }
    else x))

/-- The next edge of a leg, or its delayed on-state where that comes first (R100, R102). -/
def Node.execEdge (x : Node) (l : Nat) (swt : Option Nat) : Node :=
  let g := x.leg l
  match g.edges with
  | [] => x.doDelayed l swt
  | e :: rest =>
    let t := x.t0 + BitVec.ofNat 40 e.offset
    if g.delayed.any (fun d => decide (tbDiff d.1 (x.atStep l t).2 < 0)) then x.doDelayed l swt
    else
      let y := (x.setLeg l { g with edges := rest, execd := g.execd + 1 }).doEdge l t e.st e.strength swt
      if g.suppFrom.any (fun f => decide (f ≤ e.offset)) then { y with nx.suppEdges := true } else y

/-- NODE_EDGE_EXECUTE (R100 to R104): in N-RUN a leg's next edge; in N-COAST its delayed on-state. -/
def execNodeEdgeExecute (n : Fin 768) (leg : Fin 8) (swt : Option Nat) (s : State) : Host.Outcome State Fault Refusal :=
  .next (s.onNode n.val (fun x =>
    if x.ns = .run then x.execEdge leg.val swt else if x.ns = .coast then x.doDelayed leg.val swt else x))

/-- The measured switching time of an edge of a coasting node, which no command gives: a free value. -/
def freeSwt (n : Nat) : Option Nat :=
  let v := Sys2Proof.Config.freeNat n
  if v % 2 = 0 then none else some (v / 2)

/-- NODE_COAST_START (R106): at a boundary without an accepted regular record. -/
def execNodeCoastStart (n : Fin 768) (s : State) : Host.Outcome State Fault Refusal :=
  .next (({ s with fresh := s.fresh + 1 } : State).onNode n.val (fun x =>
    if x.ns = .run ∧ x.nx.gotRegular = false then x.coastStart (freeSwt s.fresh) else x))

/-- NODE_COAST_ENTRY (R106): a coasting node executes a leg's next pattern entry. -/
def execNodeCoastEntry (n : Fin 768) (leg : Fin 8) (s : State) : Host.Outcome State Fault Refusal :=
  .next (({ s with fresh := s.fresh + 1 } : State).onNode n.val (fun x =>
    if x.ns = .coast ∧ x.legDead leg.val = false then
      x.coastEntry leg.val (freeSwt s.fresh)
    else x))

/-- NODE_COAST_WINDOW_EXPIRY (R107): at t_c0 + COASTWIN, where that instant lies in the tick in progress. -/
def execNodeCoastWindowExpiry (n : Fin 768) (s : State) : Host.Outcome State Fault Refusal :=
  .next (s.onNode n.val (fun x =>
    if x.ns = .coast ∧ x.windowOver (tbNs x.t0 x.nx.tper) = true then x.block 2 else x))

/-- NODE_COAST_PATTERN (R64, R105): stored from the mandate holder, or while none is known; in N-COAST for the next
episode. -/
def execNodeCoastPattern (n : Fin 768) (devid : Nat) (fromB : Bool) (p : CoastPat) (fcsOk : Bool) (s : State) :
    Host.Outcome State Fault Refusal :=
  .next (s.hears n.val fromB (.coast devid p fcsOk) (fun x =>
    if !fcsOk then x.rxErr
    else if !CoastOk p || !x.entitled devid then x
    else if x.ns = .coast then { x with nx.patNext := some p, nr.patValid := true }
    else { x with nx.pat := p, nx.patNext := none, nr.patValid := true }))

/-- Is a Block ordered set valid, and is the node in its scope (R61, R108)? -/
def Node.inScope (x : Node) (b : BlockSet) : Bool :=
  decide (b.scope = 0) || (decide (b.scope = 1) && (x.nr.strmem &&& b.strmask) != 0)

/-- NODE_BLOCK_SET (R61, R108): every set is passed on; an invalid one causes no action and is counted. -/
def execNodeBlockSet (at_ : NodePort) (b : BlockSet) (s : State) : Host.Outcome State Fault Refusal :=
  .next (s.hears at_.node.val at_.fromB (.blockSet b) (fun x =>
    if !b.wellFormed || decide (1 < b.scope) then x.cnt x.nc.blkinv (fun y v => { y with nc.blkinv := v })
    else if x.inScope b then ({ x with nx.blockTicks := 2 } : Node).block 1
    else x))

/-- NODE_DRIVER_FAULT (R109): the leg goes into high impedance, its edges are discarded; `present` false: its driver no
longer reports the fault. -/
def execNodeDriverFault (n : Fin 768) (leg : Fin 8) (bsuv present : Bool) (s : State) : Host.Outcome State Fault Refusal :=
  .next (s.onNode n.val (fun x =>
    let g := x.leg leg.val
    if present then
      let m : BitVec 8 := BitVec.ofNat 8 (2 ^ leg.val)
      { (x.setLeg leg.val { g.cut x.t0 with st := .highZ, drvFault := true }).osdAbort with
        nr.legflt := x.nr.legflt ||| m, nr.bsuv := if bsuv then x.nr.bsuv ||| m else x.nr.bsuv }
    else x.setLeg leg.val { g with drvFault := false }))

/-- NODE_OVERVOLTAGE (R110): a capacitor voltage above its threshold for 200 ns; OVTH1 is of class LV-D only. -/
def execNodeOvervoltage (n : Fin 768) (second : Bool) (v : Int) (heldNs : Nat) (s : State) :
    Host.Outcome State Fault Refusal :=
  .next (s.onNode n.val (fun x =>
    if heldNs < 200 then x
    else if second then
      (if x.ident.any (fun i => i.nclass == 4) && decide (x.nr.ovth1 < v) then x.fault 1 else x)
    else if x.nr.ovth0 < v then x.fault 0 else x))

/-- NODE_FAULT_CAUSE (R84, Table NC-9): watchdog, self-test or supply fault, bits 2, 3 and 4. -/
def execNodeFaultCause (n : Fin 768) (bit : Fin 3) (s : State) : Host.Outcome State Fault Refusal :=
  .next (s.onNode n.val (·.fault (2 + bit.val)))

/-- NODE_FAULT_CAUSE_CLEAR (Table NC-9): OV0 and OV1 below their thresholds, SUPPLY back in range. -/
def execNodeFaultCauseClear (n : Fin 768) (bit : Fin 5) (v : Int) (s : State) : Host.Outcome State Fault Refusal :=
  .next (s.onNode n.val (fun x =>
    if (bit.val = 0 ∧ v < x.nr.ovth0) ∨ (bit.val = 1 ∧ v < x.nr.ovth1) ∨ bit.val = 4 then
      { x with nr.fltcause := x.nr.fltcause &&& ~~~ BitVec.ofNat 16 (2 ^ bit.val) }
    else x))

/-- NODE_MGMT_READ (R87): served to any device. -/
def execNodeMgmtRead (n : Fin 768) (fromB : Bool) (src : MgmtFrom) (addr count : Nat) (s : State) :
    Host.Outcome State Fault Refusal :=
  .next (s.hears n.val fromB (.mgmt src.devid src.tag 0 addr count []) (fun x => x.request fromB src.tag (fun x =>
    if 256 < count then (x, 1, [])
    else match x.regBytes addr count with
      | some bs => (x, 0, bs)
      | none => (x, 1, []))))

/-- NODE_MGMT_WRITE (R86, R87). -/
def execNodeMgmtWrite (n : Fin 768) (fromB : Bool) (devid : Nat) (tag : BitVec 8) (addr : Nat) (data : List Byte)
    (s : State) : Host.Outcome State Fault Refusal :=
  .next (s.hears n.val fromB (.mgmt devid tag 1 addr data.length data) (fun x => x.request fromB tag (fun x =>
    let r := x.regWrite devid addr data.length (beNat data 0)
    (r.1, r.2, []))))

/-- NODE_IDENTITY_READ (R65, R82). -/
def execNodeIdentityRead (n : Fin 768) (fromB : Bool) (src : MgmtFrom) (s : State) : Host.Outcome State Fault Refusal :=
  .next (s.hears n.val fromB (.mgmt src.devid src.tag 2 0 0 []) (fun x => x.request fromB src.tag (fun x => (x, 0, (x.ident.map identBytes).getD []))))

/-- NODE_MGMT_RESERVED_OP (R65): STATUS 0x05, nothing executed. -/
def execNodeMgmtReservedOp (n : Fin 768) (fromB : Bool) (src : MgmtFrom) (op : Nat) (s : State) :
    Host.Outcome State Fault Refusal :=
  .next (s.hears n.val fromB (.mgmt src.devid src.tag op 0 0 []) (fun x => x.request fromB src.tag (fun x => (x, 5, []))))

/-- NODE_SRST (R84, R87): refused in N-RUN and N-COAST. -/
def execNodeSrst (n : Fin 768) (fromB : Bool) (devid : Nat) (tag : BitVec 8) (s : State) :
    Host.Outcome State Fault Refusal :=
  .next (s.hears n.val fromB (.mgmt devid tag 1 0x100 2 (beBytes 2 2)) (fun x =>
    x.request fromB tag (fun x => let r := x.srst devid; (r.1, r.2, []))))

/-- NODE_CFG_DONE (R84, R87). -/
def execNodeCfgDone (n : Fin 768) (fromB : Bool) (devid : Nat) (tag : BitVec 8) (v : Bool) (s : State) :
    Host.Outcome State Fault Refusal :=
  .next (s.hears n.val fromB (.mgmt devid tag 1 0x100 2 (beBytes (if v then 1 else 0) 2)) (fun x =>
    x.request fromB tag (fun x => let r := x.cfgWrite devid v; (r.1, r.2, []))))

/-- NODE_MGMT_REPLY_SEND (R54): the waiting reply goes only where it ends by t_dl. -/
def execNodeMgmtReplySend (n : Fin 768) (endsByDeadline : Bool) (s : State) : Host.Outcome State Fault Refusal :=
  let x := s.node n.val
  match x.powered, endsByDeadline, x.np.mgmtReply with
  | true, true, some (toB, tag, st, data) =>
    let y := { x with np.mgmtReply := none }
    let y := if toB then { y with np.fwd.ownB := true } else { y with np.fwd.ownA := true }
    .next ((s.setNode n.val y).send (.nodeReply n.val toB tag st data))
  | _, _, _ => .next s

end Sys2Proof.Machine
end

