-- ==== Sys2Proof/Machine/Dispatch.lean ====
section
/-! DEFINITION. The dispatch: one arm per command. -/

namespace Sys2Proof.Machine

/-- The effect of a command on everything but the queue. -/
def exec (i : Instr) (s : State) : Host.Outcome State Fault Refusal :=
  match i with
  | .boundary challenge => Sys2Proof.Machine.execBoundary challenge s
  | .nodeSample n meas tj lockA lockB => Sys2Proof.Machine.execNodeSample n meas tj lockA lockB s
  | .tickHeartbeat => Sys2Proof.Machine.execTickHeartbeat s
  | .tickGather => Sys2Proof.Machine.execTickGather s
  | .sorterComplete st late => Sys2Proof.Machine.execSorterComplete st late s
  | .tickStart => Sys2Proof.Machine.execTickStart s
  | .tickDeadline found => Sys2Proof.Machine.execTickDeadline found s
  | .regularWaleSend ring => Sys2Proof.Machine.execRegularWaleSend ring s
  | .supplementaryWaleSend ring fits => Sys2Proof.Machine.execSupplementaryWaleSend ring fits s
  | .allocationRun st => Sys2Proof.Machine.execAllocationRun st s
  | .add y d a b => Sys2Proof.Machine.execAdd y d a b s
  | .sub y d a b => Sys2Proof.Machine.execSub y d a b s
  | .adds y d a b => Sys2Proof.Machine.execAdds y d a b s
  | .subs y d a b => Sys2Proof.Machine.execSubs y d a b s
  | .add2s y d a b => Sys2Proof.Machine.execAdd2s y d a b s
  | .sub2s y d a b => Sys2Proof.Machine.execSub2s y d a b s
  | .and y d a b => Sys2Proof.Machine.execAnd y d a b s
  | .or y d a b => Sys2Proof.Machine.execOr y d a b s
  | .xor y d a b => Sys2Proof.Machine.execXor y d a b s
  | .shl y d a b => Sys2Proof.Machine.execShl y d a b s
  | .shr y d a b => Sys2Proof.Machine.execShr y d a b s
  | .asr y d a b => Sys2Proof.Machine.execAsr y d a b s
  | .min y d a b => Sys2Proof.Machine.execMin y d a b s
  | .max y d a b => Sys2Proof.Machine.execMax y d a b s
  | .abs y d a => Sys2Proof.Machine.execAbs y d a s
  | .negs y d a => Sys2Proof.Machine.execNegs y d a s
  | .clip y d a b => Sys2Proof.Machine.execClip y d a b s
  | .cmp y a b => Sys2Proof.Machine.execCmp y a b s
  | .mov y d a => Sys2Proof.Machine.execMov y d a s
  | .movp y p a => Sys2Proof.Machine.execMovp y p a s
  | .movd y d p => Sys2Proof.Machine.execMovd y d p s
  | .pack y d a b => Sys2Proof.Machine.execPack y d a b s
  | .movs y d => Sys2Proof.Machine.execMovs y d s
  | .movst y a => Sys2Proof.Machine.execMovst y a s
  | .sat16 y d a => Sys2Proof.Machine.execSat16 y d a s
  | .divq y d a b => Sys2Proof.Machine.execDivq y d a b s
  | .mulq y d a b => Sys2Proof.Machine.execMulq y d a b s
  | .addi y d a imm => Sys2Proof.Machine.execAddi y d a imm s
  | .andi y d a imm => Sys2Proof.Machine.execAndi y d a imm s
  | .ori y d a imm => Sys2Proof.Machine.execOri y d a imm s
  | .movi y d imm => Sys2Proof.Machine.execMovi y d imm s
  | .movhi y d imm => Sys2Proof.Machine.execMovhi y d imm s
  | .shiShl y d a amt => Sys2Proof.Machine.execShiShl y d a amt s
  | .shiShr y d a amt => Sys2Proof.Machine.execShiShr y d a amt s
  | .shiAsr y d a amt => Sys2Proof.Machine.execShiAsr y d a amt s
  | .cmpi y a imm => Sys2Proof.Machine.execCmpi y a imm s
  | .ldH y dt m => Sys2Proof.Machine.execLdH y dt m s
  | .ldW y dt m => Sys2Proof.Machine.execLdW y dt m s
  | .ldD y dt m => Sys2Proof.Machine.execLdD y dt m s
  | .stH y dt m => Sys2Proof.Machine.execStH y dt m s
  | .stW y dt m => Sys2Proof.Machine.execStW y dt m s
  | .stD y dt m => Sys2Proof.Machine.execStD y dt m s
  | .ldp y pt m => Sys2Proof.Machine.execLdp y pt m s
  | .stp y pt m => Sys2Proof.Machine.execStp y pt m s
  | .mac y o => Sys2Proof.Machine.execMac y o s
  | .mpy y o => Sys2Proof.Machine.execMpy y o s
  | .clra y acc => Sys2Proof.Machine.execClra y acc s
  | .movaW y acc d => Sys2Proof.Machine.execMovaW y acc d s
  | .movaH y acc d => Sys2Proof.Machine.execMovaH y acc d s
  | .adda y acc src => Sys2Proof.Machine.execAdda y acc src s
  | .addw y acc d => Sys2Proof.Machine.execAddw y acc d s
  | .asra y acc amt => Sys2Proof.Machine.execAsra y acc amt s
  | .shla y acc amt => Sys2Proof.Machine.execShla y acc amt s
  | .extH y d acc => Sys2Proof.Machine.execExtH y d acc s
  | .extW y d acc => Sys2Proof.Machine.execExtW y d acc s
  | .bcc y cond target => Sys2Proof.Machine.execBcc y cond target s
  | .call y target => Sys2Proof.Machine.execCall y target s
  | .ret y => Sys2Proof.Machine.execRet y s
  | .loopLc0 y sa lastBundle => Sys2Proof.Machine.execLoopLc0 y sa lastBundle s
  | .loopLc1 y sa lastBundle => Sys2Proof.Machine.execLoopLc1 y sa lastBundle s
  | .wait y sa all => Sys2Proof.Machine.execWait y sa all s
  | .waitResume e => Sys2Proof.Machine.execWaitResume e s
  | .setk y k1 sa => Sys2Proof.Machine.execSetk y k1 sa s
  | .brk y => Sys2Proof.Machine.execBrk y s
  | .nop y => Sys2Proof.Machine.execNop y s
  | .done e => Sys2Proof.Machine.execDone e s
  | .release e mask => Sys2Proof.Machine.execRelease e mask s
  | .signal e flags => Sys2Proof.Machine.execSignal e flags s
  | .evclr e mask => Sys2Proof.Machine.execEvclr e mask s
  | .tb2inc e inc => Sys2Proof.Machine.execTb2inc e inc s
  | .tb2step e step => Sys2Proof.Machine.execTb2step e step s
  | .allocRequest e st w => Sys2Proof.Machine.execAllocRequest e st w s
  | .commit e handle inReload => Sys2Proof.Machine.execCommit e handle inReload s
  | .commitCoast e handle inReload => Sys2Proof.Machine.execCommitCoast e handle inReload s
  | .xferStart e ch len => Sys2Proof.Machine.execXferStart e ch len s
  | .xferDone e ch => Sys2Proof.Machine.execXferDone e ch s
  | .traceWrite e ch v => Sys2Proof.Machine.execTraceWrite e ch v s
  | .trig e => Sys2Proof.Machine.execTrig e s
  | .notchSample e u x => Sys2Proof.Machine.execNotchSample e u x s
  | .notchLoad e u => Sys2Proof.Machine.execNotchLoad e u s
  | .notchClr e u => Sys2Proof.Machine.execNotchClr e u s
  | .followFbWrite e u v => Sys2Proof.Machine.execFollowFbWrite e u v s
  | .trippedClear e u => Sys2Proof.Machine.execTrippedClear e u s
  | .csmRequestWithdraw cycle cycles who requesting => Sys2Proof.Machine.execCsmRequestWithdraw cycle cycles who requesting s
  | .arbiterStarvation who waited => Sys2Proof.Machine.execArbiterStarvation who waited s
  | .responseReceive port r hdrOk fcsOk => Sys2Proof.Machine.execResponseReceive port r hdrOk fcsOk s
  | .ringHeartbeatReceive port h checkOk => Sys2Proof.Machine.execRingHeartbeatReceive port h checkOk s
  | .waleEndCheck ring seq chk startNs isResend => Sys2Proof.Machine.execWaleEndCheck ring seq chk startNs isResend s
  | .probeReturn ring sA rB sB rows => Sys2Proof.Machine.execProbeReturn ring sA rB sB rows s
  | .mgmtReply slot tag status data ident checkOk => Sys2Proof.Machine.execMgmtReply slot tag status data ident checkOk s
  | .mgmtTimeout slot => Sys2Proof.Machine.execMgmtTimeout slot s
  | .ringProbe p => Sys2Proof.Machine.execRingProbe p s
  | .blockLockAchieved lane => Sys2Proof.Machine.execBlockLockAchieved lane s
  | .blockLockLoss lane => Sys2Proof.Machine.execBlockLockLoss lane s
  | .losAssert lane => Sys2Proof.Machine.execLosAssert lane s
  | .losRelease lane => Sys2Proof.Machine.execLosRelease lane s
  | .ringBreakDeclare ring found => Sys2Proof.Machine.execRingBreakDeclare ring found s
  | .bridgingStart ring relayNs => Sys2Proof.Machine.execBridgingStart ring relayNs s
  | .bridgingEnd ring => Sys2Proof.Machine.execBridgingEnd ring s
  | .modulePoll port acked temp vcc bias txp rxp flags txFault => Sys2Proof.Machine.execModulePoll port acked temp vcc bias txp rxp flags txFault s
  | .thresholdReadback slot ovth0 ovth1 => Sys2Proof.Machine.execThresholdReadback slot ovth0 ovth1 s
  | .bypassFail c => Sys2Proof.Machine.execBypassFail c s
  | .coastWindowExpiry st => Sys2Proof.Machine.execCoastWindowExpiry st s
  | .localCoastWindowExpiry => Sys2Proof.Machine.execLocalCoastWindowExpiry s
  | .tripInput inp lowNs => Sys2Proof.Machine.execTripInput inp lowNs s
  | .comparatorActive c value heldNs => Sys2Proof.Machine.execComparatorActive c value heldNs s
  | .comparatorInactive c value heldNs => Sys2Proof.Machine.execComparatorInactive c value heldNs s
  | .drvenLow g lowNs => Sys2Proof.Machine.execDrvenLow g lowNs s
  | .drvenToggle g lowNs => Sys2Proof.Machine.execDrvenToggle g lowNs s
  | .legFaultInput n lowNs => Sys2Proof.Machine.execLegFaultInput n lowNs s
  | .localEdgeExecute n => Sys2Proof.Machine.execLocalEdgeExecute n s
  | .clockMonitor bad => Sys2Proof.Machine.execClockMonitor bad s
  | .lockstepMismatch mismatch => Sys2Proof.Machine.execLockstepMismatch mismatch s
  | .eccUncorrectable w rereadClean => Sys2Proof.Machine.execEccUncorrectable w rereadClean s
  | .coreSupplyMonitor bad => Sys2Proof.Machine.execCoreSupplyMonitor bad s
  | .comparatorThresholdCheck c ok => Sys2Proof.Machine.execComparatorThresholdCheck c ok s
  | .workingCopyCheck crc => Sys2Proof.Machine.execWorkingCopyCheck crc s
  | .sparHeartbeat lane1 h arrival checkOk => Sys2Proof.Machine.execSparHeartbeat lane1 h arrival checkOk s
  | .responseRequest ring pos tick => Sys2Proof.Machine.execResponseRequest ring pos tick s
  | .responseRelay ring pos r fcsOk unreq => Sys2Proof.Machine.execResponseRelay ring pos r fcsOk unreq s
  | .waleCheckReport ring seq epoch pass startNs => Sys2Proof.Machine.execWaleCheckReport ring seq epoch pass startNs s
  | .bridgedPortion ring w => Sys2Proof.Machine.execBridgedPortion ring w s
  | .blockNotice b rings => Sys2Proof.Machine.execBlockNotice b rings s
  | .mirrorFrame part tick content => Sys2Proof.Machine.execMirrorFrame part tick content s
  | .fwdPrepare fseq target => Sys2Proof.Machine.execFwdPrepare fseq target s
  | .fwdDeblock fseq target => Sys2Proof.Machine.execFwdDeblock fseq target s
  | .fwdBlock fseq target => Sys2Proof.Machine.execFwdBlock fseq target s
  | .fwdSwitchOver fseq target => Sys2Proof.Machine.execFwdSwitchOver fseq target s
  | .fwdPauseBegin fseq target => Sys2Proof.Machine.execFwdPauseBegin fseq target s
  | .fwdPauseEnd fseq target => Sys2Proof.Machine.execFwdPauseEnd fseq target s
  | .fwdTb0Step fseq target step => Sys2Proof.Machine.execFwdTb0Step fseq target step s
  | .cfgFwdWriteItems fseq target items => Sys2Proof.Machine.execCfgFwdWriteItems fseq target items s
  | .cfgFwdYelm fseq target items => Sys2Proof.Machine.execCfgFwdYelm fseq target items s
  | .cfgFwdEnginePackage fseq target e p => Sys2Proof.Machine.execCfgFwdEnginePackage fseq target e p s
  | .cfgFwdBankContents fseq target e content => Sys2Proof.Machine.execCfgFwdBankContents fseq target e content s
  | .cfgFwdBankSwap fseq target e => Sys2Proof.Machine.execCfgFwdBankSwap fseq target e s
  | .forwardAck fseq status => Sys2Proof.Machine.execForwardAck fseq status s
  | .forwardTimeout fseq => Sys2Proof.Machine.execForwardTimeout fseq s
  | .activeAssume => Sys2Proof.Machine.execActiveAssume s
  | .failureDeclare => Sys2Proof.Machine.execFailureDeclare s
  | .takeover => Sys2Proof.Machine.execTakeover s
  | .roleDemote => Sys2Proof.Machine.execRoleDemote s
  | .partnerActiveRise => Sys2Proof.Machine.execPartnerActiveRise s
  | .pairAlignLoss => Sys2Proof.Machine.execPairAlignLoss s
  | .pairAlignSet => Sys2Proof.Machine.execPairAlignSet s
  | .pairChkMismatch => Sys2Proof.Machine.execPairChkMismatch s
  | .timeMessage way tLdep corr leader lgrp hops refFlag trunk arrival => Sys2Proof.Machine.execTimeMessage way tLdep corr leader lgrp hops refFlag trunk arrival s
  | .unsyncClear => Sys2Proof.Machine.execUnsyncClear s
  | .linkProbeSend link => Sys2Proof.Machine.execLinkProbeSend link s
  | .linkProbeRequest way t1 t2 => Sys2Proof.Machine.execLinkProbeRequest way t1 t2 s
  | .linkProbeReply way t1 t2 t3 t4 => Sys2Proof.Machine.execLinkProbeReply way t1 t2 t3 t4 s
  | .digestFrame fromRge d hops => Sys2Proof.Machine.execDigestFrame fromRge d hops s
  | .dupDevidClear => Sys2Proof.Machine.execDupDevidClear s
  | .memberAbsent devid => Sys2Proof.Machine.execMemberAbsent devid s
  | .proxyRequest way target entry stag roles tag p x => Sys2Proof.Machine.execProxyRequest way target entry stag roles tag p x s
  | .proxyReply way ends stag tag r x => Sys2Proof.Machine.execProxyReply way ends stag tag r x s
  | .proxyNotification way ends stag r x => Sys2Proof.Machine.execProxyNotification way ends stag r x s
  | .proxyClose way ends stag x => Sys2Proof.Machine.execProxyClose way ends stag x s
  | .proxyAnswerTimeout sess tag => Sys2Proof.Machine.execProxyAnswerTimeout sess tag s
  | .proxySessionTimeout sess => Sys2Proof.Machine.execProxySessionTimeout sess s
  | .groupBlockFrame fromRge f => Sys2Proof.Machine.execGroupBlockFrame fromRge f s
  | .systemBlockFrame link f => Sys2Proof.Machine.execSystemBlockFrame link f s
  | .trunkSummary lane1 grp leader hstate hladder present lenOk => Sys2Proof.Machine.execTrunkSummary lane1 grp leader hstate hladder present lenOk s
  | .prepare sess => Sys2Proof.Machine.execPrepare sess s
  | .prepareComplete found => Sys2Proof.Machine.execPrepareComplete found s
  | .deblock sess => Sys2Proof.Machine.execDeblock sess s
  | .blockRequest sess => Sys2Proof.Machine.execBlockRequest sess s
  | .acknowledge sess => Sys2Proof.Machine.execAcknowledge sess s
  | .sleepRequest sess => Sys2Proof.Machine.execSleepRequest sess s
  | .sleepEntry => Sys2Proof.Machine.execSleepEntry s
  | .safetyConfirmation sess v => Sys2Proof.Machine.execSafetyConfirmation sess v s
  | .forceBitWrite sess cls v => Sys2Proof.Machine.execForceBitWrite sess cls v s
  | .faultAcknowledge sess cls v => Sys2Proof.Machine.execFaultAcknowledge sess cls v s
  | .ladderRelease sess v => Sys2Proof.Machine.execLadderRelease sess v s
  | .tripLatchClear sess v => Sys2Proof.Machine.execTripLatchClear sess v s
  | .comparatorLatchClear sess v => Sys2Proof.Machine.execComparatorLatchClear sess v s
  | .bypassMapWrite sess st v => Sys2Proof.Machine.execBypassMapWrite sess st v s
  | .legStatusClear sess loc slot leg v => Sys2Proof.Machine.execLegStatusClear sess loc slot leg v s
  | .counterClear sess idx sub => Sys2Proof.Machine.execCounterClear sess idx sub s
  | .switchOverRequest sess => Sys2Proof.Machine.execSwitchOverRequest sess s
  | .groupBlockRequest sess => Sys2Proof.Machine.execGroupBlockRequest sess s
  | .systemBlockRequest sess => Sys2Proof.Machine.execSystemBlockRequest sess s
  | .swapRequest sess e => Sys2Proof.Machine.execSwapRequest sess e s
  | .inactiveBankWrite sess e offset bytes => Sys2Proof.Machine.execInactiveBankWrite sess e offset bytes s
  | .timeBaseStep sess b step => Sys2Proof.Machine.execTimeBaseStep sess b step s
  | .traceTriggerCommand sess => Sys2Proof.Machine.execTraceTriggerCommand sess s
  | .traceRearm sess => Sys2Proof.Machine.execTraceRearm sess s
  | .traceStop => Sys2Proof.Machine.execTraceStop s
  | .gpioRise pin => Sys2Proof.Machine.execGpioRise pin s
  | .restorePersistentDefaults sess => Sys2Proof.Machine.execRestorePersistentDefaults sess s
  | .clearKeepFirst sess => Sys2Proof.Machine.execClearKeepFirst sess s
  | .observerClearMaxTemp sess c => Sys2Proof.Machine.execObserverClearMaxTemp sess c s
  | .observerClearRainflow sess c => Sys2Proof.Machine.execObserverClearRainflow sess c s
  | .dictWrite sess w => Sys2Proof.Machine.execDictWrite sess w s
  | .read sess tag target items => Sys2Proof.Machine.execRead sess tag target items s
  | .descRead sess tag target items => Sys2Proof.Machine.execDescRead sess tag target items s
  | .shadowRead sess tag target items => Sys2Proof.Machine.execShadowRead sess tag target items s
  | .write sess tag target items => Sys2Proof.Machine.execWrite sess tag target items s
  | .lock sess tag target sc => Sys2Proof.Machine.execLock sess tag target sc s
  | .unlock sess tag target sc => Sys2Proof.Machine.execUnlock sess tag target sc s
  | .yelmOpen sess tag target sc => Sys2Proof.Machine.execYelmOpen sess tag target sc s
  | .yelmAdd sess tag target items => Sys2Proof.Machine.execYelmAdd sess tag target items s
  | .yelmCommit sess tag target tick => Sys2Proof.Machine.execYelmCommit sess tag target tick s
  | .subscribeOpen sess tag target sub period items => Sys2Proof.Machine.execSubscribeOpen sess tag target sub period items s
  | .subscribeClose sess tag target sub => Sys2Proof.Machine.execSubscribeClose sess tag target sub s
  | .subscriptionNotify sess sub gathered => Sys2Proof.Machine.execSubscriptionNotify sess sub gathered s
  | .heartbeat sess tag target => Sys2Proof.Machine.execHeartbeat sess tag target s
  | .fileOpen sess tag file toDevice size => Sys2Proof.Machine.execFileOpen sess tag file toDevice size s
  | .fileData sess tag seg bytes file => Sys2Proof.Machine.execFileData sess tag seg bytes file s
  | .fileClose sess tag target fileId crc => Sys2Proof.Machine.execFileClose sess tag target fileId crc s
  | .fileAbort sess head => Sys2Proof.Machine.execFileAbort sess head s
  | .dtlsHandshake via addr port roles serial anchorProvisioning chain suiteOk validNow fullHandshake => Sys2Proof.Machine.execDtlsHandshake via addr port roles serial anchorProvisioning chain suiteOk validNow fullHandshake s
  | .sessionTimeout sess => Sys2Proof.Machine.execSessionTimeout sess s
  | .sessionClose sess => Sys2Proof.Machine.execSessionClose sess s
  | .hsrForward fromE0 forDevice frame => Sys2Proof.Machine.execHsrForward fromE0 forDevice frame s
  | .ptpSyncReceive onE1 domain raw originTs corr twoStep => Sys2Proof.Machine.execPtpSyncReceive onE1 domain raw originTs corr twoStep s
  | .pdelayReqReceive onE1 rx tx => Sys2Proof.Machine.execPdelayReqReceive onE1 rx tx s
  | .announceTimeout => Sys2Proof.Machine.execAnnounceTimeout s
  | .grandmasterChange gmid => Sys2Proof.Machine.execGrandmasterChange gmid s
  | .tbExtend => Sys2Proof.Machine.execTbExtend s
  | .compareMatch c => Sys2Proof.Machine.execCompareMatch c s
  | .referenceInvalid code => Sys2Proof.Machine.execReferenceInvalid code s
  | .referenceValid code => Sys2Proof.Machine.execReferenceValid code s
  | .revertiveSwitch => Sys2Proof.Machine.execRevertiveSwitch s
  | .adpllLock => Sys2Proof.Machine.execAdpllLock s
  | .adpllHoldover => Sys2Proof.Machine.execAdpllHoldover s
  | .adpllLockLoss => Sys2Proof.Machine.execAdpllLockLoss s
  | .fallbackReturn => Sys2Proof.Machine.execFallbackReturn s
  | .outputGateClose bankB m => Sys2Proof.Machine.execOutputGateClose bankB m s
  | .outputGateOpen bankB m => Sys2Proof.Machine.execOutputGateOpen bankB m s
  | .adcRound k even odd spare => Sys2Proof.Machine.execAdcRound k even odd spare s
  | .adcCalibration finish completed offset gainPpm => Sys2Proof.Machine.execAdcCalibration finish completed offset gainPpm s
  | .observerUpdate c ticksUsed cap esr von conf tjMean capLow esrHigh vonHigh halfCycles => Sys2Proof.Machine.execObserverUpdate c ticksUsed cap esr von conf tjMean capLow esrHigh vonHigh halfCycles s
  | .rainflowSave => Sys2Proof.Machine.execRainflowSave s
  | .aonSave => Sys2Proof.Machine.execAonSave s
  | .repeatFlush => Sys2Proof.Machine.execRepeatFlush s
  | .scrubPass ms corrected sf4Memory => Sys2Proof.Machine.execScrubPass ms corrected sf4Memory s
  | .mramRefresh minutes => Sys2Proof.Machine.execMramRefresh minutes s
  | .eyeMonitor lane h v => Sys2Proof.Machine.execEyeMonitor lane h v s
  | .tempRead temps => Sys2Proof.Machine.execTempRead temps s
  | .thermalWarn => Sys2Proof.Machine.execThermalWarn s
  | .thermalDerate => Sys2Proof.Machine.execThermalDerate s
  | .thermalRelease => Sys2Proof.Machine.execThermalRelease s
  | .thermalShutdown => Sys2Proof.Machine.execThermalShutdown s
  | .thermalRestart st => Sys2Proof.Machine.execThermalRestart st s
  | .mramUnlock => Sys2Proof.Machine.execMramUnlock s
  | .ntcRead temp => Sys2Proof.Machine.execNtcRead temp s
  | .powerOn st => Sys2Proof.Machine.execPowerOn st s
  | .railUndervoltage rail mv => Sys2Proof.Machine.execRailUndervoltage rail mv s
  | .resetNLow => Sys2Proof.Machine.execResetNLow s
  | .resetNRise lowUs st => Sys2Proof.Machine.execResetNRise lowUs st s
  | .watchdogService alive0 alive1 alive3 => Sys2Proof.Machine.execWatchdogService alive0 alive1 alive3 s
  | .watchdogExpiry => Sys2Proof.Machine.execWatchdogExpiry s
  | .aonSwitch vaonBmv => Sys2Proof.Machine.execAonSwitch vaonBmv s
  | .aonReturn => Sys2Proof.Machine.execAonReturn s
  | .pgoodMainFall lowNs => Sys2Proof.Machine.execPgoodMainFall lowNs s
  | .supplyLoss => Sys2Proof.Machine.execSupplyLoss s
  | .holdupExpiry => Sys2Proof.Machine.execHoldupExpiry s
  | .mainReturn highMs => Sys2Proof.Machine.execMainReturn highMs s
  | .wakePin highUs st => Sys2Proof.Machine.execWakePin highUs st s
  | .wakeTimer st => Sys2Proof.Machine.execWakeTimer st s
  | .bistComplete ok => Sys2Proof.Machine.execBistComplete ok s
  | .slathImageStart slotA slotB rec1Ok rec2Ok => Sys2Proof.Machine.execSlathImageStart slotA slotB rec1Ok rec2Ok s
  | .bootEnd boottag badRecs checks tb0 => Sys2Proof.Machine.execBootEnd boottag badRecs checks tb0 s
  | .jtagImageLoad hdr payload cert => Sys2Proof.Machine.execJtagImageLoad hdr payload cert s
  | .activate sess => Sys2Proof.Machine.execActivate sess s
  | .loadComplete ok => Sys2Proof.Machine.execLoadComplete ok s
  | .activationPauseBegin => Sys2Proof.Machine.execActivationPauseBegin s
  | .runtimeRestart started migrated => Sys2Proof.Machine.execRuntimeRestart started migrated s
  | .healthConfirm sess => Sys2Proof.Machine.execHealthConfirm sess s
  | .healthAutoConfirm found => Sys2Proof.Machine.execHealthAutoConfirm found s
  | .confirmWindowExpiry => Sys2Proof.Machine.execConfirmWindowExpiry s
  | .lifecycleDeploy sess => Sys2Proof.Machine.execLifecycleDeploy sess s
  | .lifecycleReturn sess => Sys2Proof.Machine.execLifecycleReturn sess s
  | .debugCertificate sess cert => Sys2Proof.Machine.execDebugCertificate sess cert s
  | .jtagDebugOpen cert => Sys2Proof.Machine.execJtagDebugOpen cert s
  | .nodePowerUp n ident closed => Sys2Proof.Machine.execNodePowerUp n ident closed s
  | .nodeSyncReceive n fromB f localTime fwd fcsOk => Sys2Proof.Machine.execNodeSyncReceive n fromB f localTime fwd fcsOk s
  | .nodeTsrcSwitch n => Sys2Proof.Machine.execNodeTsrcSwitch n s
  | .nodeSyncLoss n => Sys2Proof.Machine.execNodeSyncLoss n s
  | .nodeWaleHeader n ring h => Sys2Proof.Machine.execNodeWaleHeader n ring h s
  | .nodeRegularRecord n h r arrival => Sys2Proof.Machine.execNodeRegularRecord n h r arrival s
  | .nodeSupplementaryRecord n h r arrival => Sys2Proof.Machine.execNodeSupplementaryRecord n h r arrival s
  | .nodeBypassCommand n => Sys2Proof.Machine.execNodeBypassCommand n s
  | .nodeOsdCommand n => Sys2Proof.Machine.execNodeOsdCommand n s
  | .nodeOsdComplete n upP dnP upM dnM => Sys2Proof.Machine.execNodeOsdComplete n upP dnP upM dnM s
  | .nodeBypassConfirm n cell => Sys2Proof.Machine.execNodeBypassConfirm n cell s
  | .nodeEdgeExecute n leg swt => Sys2Proof.Machine.execNodeEdgeExecute n leg swt s
  | .nodeCoastStart n => Sys2Proof.Machine.execNodeCoastStart n s
  | .nodeCoastEntry n leg => Sys2Proof.Machine.execNodeCoastEntry n leg s
  | .nodeCoastWindowExpiry n => Sys2Proof.Machine.execNodeCoastWindowExpiry n s
  | .nodeCoastPattern n devid fromB p fcsOk => Sys2Proof.Machine.execNodeCoastPattern n devid fromB p fcsOk s
  | .nodeBlockSet at_ b => Sys2Proof.Machine.execNodeBlockSet at_ b s
  | .nodeDriverFault n leg bsuv present => Sys2Proof.Machine.execNodeDriverFault n leg bsuv present s
  | .nodeOvervoltage n second v heldNs => Sys2Proof.Machine.execNodeOvervoltage n second v heldNs s
  | .nodeFaultCause n bit => Sys2Proof.Machine.execNodeFaultCause n bit s
  | .nodeMgmtRead n fromB src addr count => Sys2Proof.Machine.execNodeMgmtRead n fromB src addr count s
  | .nodeMgmtWrite n fromB devid tag addr data => Sys2Proof.Machine.execNodeMgmtWrite n fromB devid tag addr data s
  | .nodeIdentityRead n fromB src => Sys2Proof.Machine.execNodeIdentityRead n fromB src s
  | .nodeMgmtReservedOp n fromB src op => Sys2Proof.Machine.execNodeMgmtReservedOp n fromB src op s
  | .nodeSrst n fromB devid tag => Sys2Proof.Machine.execNodeSrst n fromB devid tag s
  | .nodeCfgDone n fromB devid tag v => Sys2Proof.Machine.execNodeCfgDone n fromB devid tag v s
  | .nodeMgmtReplySend n endsByDeadline => Sys2Proof.Machine.execNodeMgmtReplySend n endsByDeadline s
  | .cdrLockLoss lane => Sys2Proof.Machine.execCdrLockLoss lane s
  | .cdrLockAchieved lane => Sys2Proof.Machine.execCdrLockAchieved lane s
  | .nodeFaultCauseClear n bit v => Sys2Proof.Machine.execNodeFaultCauseClear n bit v s
  | .blockArrivalAtRingEnd port b => Sys2Proof.Machine.execBlockArrivalAtRingEnd port b s
  | .fallbackPllLock => Sys2Proof.Machine.execFallbackPllLock s
  | .fallbackPllLockLoss => Sys2Proof.Machine.execFallbackPllLockLoss s
  | .ptpAnnounceReceive onE1 domain gmid priority quality => Sys2Proof.Machine.execPtpAnnounceReceive onE1 domain gmid priority quality s
  | .ptpFollowUpReceive onE1 domain preciseTs corr => Sys2Proof.Machine.execPtpFollowUpReceive onE1 domain preciseTs corr s
  | .pdelayRespReceive onE1 t2 t3 t4 t4Tb0 => Sys2Proof.Machine.execPdelayRespReceive onE1 t2 t3 t4 t4Tb0 s
  | .ptpMessageInterval => Sys2Proof.Machine.execPtpMessageInterval s
  | .prpSupervisionSend => Sys2Proof.Machine.execPrpSupervisionSend s
  | .tripInputRelease inp => Sys2Proof.Machine.execTripInputRelease inp s
  | .watchdogResetEnd st => Sys2Proof.Machine.execWatchdogResetEnd st s
  | .rstoutNRelease => Sys2Proof.Machine.execRstoutNRelease s
  | .railVoltageRefresh mv => Sys2Proof.Machine.execRailVoltageRefresh mv s

end Sys2Proof.Machine
end

