-- ==== Sys2Proof/Safety.lean ====
section
/-! DEFINITION. The words that claims use: a step that answers a next state, an engine that may issue a syllable, the effect of a bundle,
the integer arithmetic of the engines as the manual states it, and the invariants of the machine. -/

namespace Sys2Proof

open Sys2Proof.Machine

/-- A step that stops neither with a fault nor with a refusal. -/
def Steps (s : State) : Prop := ∃ t, Machine.step s = .next t

namespace Claims

/-! ## Engines -/

/-- The engine of a syllable. -/
abbrev eng (s : State) (y : Syl) : Engine := s.engine y.eng.val

/-- Where the syllable is its bundle's last, the bundle that follows lies in program memory (R177). -/
def InProgram (y : Syl) (x : Engine) : Prop := y.last = true → x.advance.pc ≤ 8191

/-- A syllable may issue: its engine runs, its slot takes the class, and the bundle that follows lies in program memory. -/
def Issues (s : State) (y : Syl) (slot : VSlot → Bool) : Prop :=
  (eng s y).run = .running ∧ slot y.slot = true ∧ InProgram y (eng s y)

/-- No write that the bundle has collected names register number `k` (R177). -/
def Unwritten (x : Engine) (k : Nat) : Prop := x.writes.any (fun w => regKey w == k) = false

/-- The engine with further results of the bundle collected: register writes and sticky bits. -/
def collect (x : Engine) (ws : List RegW) (sticky : Word) : Engine :=
  { x with writes := x.writes ++ ws, stickyW := x.stickyW ||| sticky }

/-- The state after a syllable that leaves its engine at `x`: the bundle ends with its last syllable. Only the syllable's
engine changes. -/
def after (s : State) (y : Syl) (x : Engine) : State := s.setEngine y.eng.val (if y.last then x.endBundle else x)

/-- The state after a syllable that collects register writes and sticky bits. -/
def writes (s : State) (y : Syl) (ws : List RegW) (sticky : Word) : State := after s y (collect (eng s y) ws sticky)

/-- An integer held to the range of `w` signed bits. -/
def clamp (w : Nat) (v : Int) : Int := max (-(2 ^ (w - 1) : Int)) (min v (2 ^ (w - 1) - 1))

/-- The sticky bit SAT, where a clamp acts. -/
def satBit (w : Nat) (v : Int) : Word := if clamp w v = v then 0 else 0x100

/-- The sticky bit OVA, where the 40-bit clamp acts. -/
def ovaBit (v : Int) : Word := if clamp 40 v = v then 0 else 0x200

/-- A right shift with the rounding of RND: truncation, half up, or half to even (Table CE-4). -/
def rounded (rnd k : Nat) (v : Int) : Int :=
  let up := Int.fdiv (2 * v + (2 ^ k : Nat)) (2 ^ (k + 1) : Nat)
  if rnd = 0 then Int.fdiv v (2 ^ k : Nat)
  else if rnd = 2 ∧ Int.fmod (2 * v) (2 ^ (k + 1) : Nat) = (2 ^ k : Nat) ∧ up % 2 = 1 then up - 1
  else up

/-- An accumulator result: 40 bits with OVA, then 32 bits with SAT where SATM is set (R175). -/
def accVal (satm : Bool) (v : Int) : Acc := BitVec.ofInt 40 (if satm then clamp 32 (clamp 40 v) else clamp 40 v)

/-- The sticky bits of an accumulator result. -/
def accBits (satm : Bool) (v : Int) : Word := ovaBit v ||| (if satm then satBit 32 (clamp 40 v) else 0)

/-- The product of a MAC syllable: doubled in fractional mode, negated with NEG; with KS the second factor is the coefficient
at the slot's K pointer (R175, R177). -/
def product (x : Engine) (y : Syl) (o : MacOp) : Int :=
  let a := if o.ha then hiHalf (x.dreg o.sa.val) else loHalf (x.dreg o.sa.val)
  let b := if o.ks then x.coef (if y.slot = .m0 then x.k0 else x.k1)
    else if o.hb then hiHalf (x.dreg o.sb.val) else loHalf (x.dreg o.sb.val)
  (if o.neg then -1 else 1) * ((if x.frac then 2 else 1) * (a * b))

/-- The write of a K pointer's advance that a MAC syllable with KS brings. -/
def kWrite (x : Engine) (y : Syl) (o : MacOp) : List RegW :=
  if o.ks then [if y.slot = .m0 then .k0 (kNext x.k0) else .k1 (kNext x.k1)] else []

/-- The write of a P register that a memory operand brings: MODE 0b01 adds DISP to PB after the access (R177). -/
def pWrite (x : Engine) (m : MemOp) : List RegW :=
  if m.mode = 1 then [.p m.pb.val (x.preg m.pb.val + BitVec.signExtend 32 m.disp)] else []

/-- The address of a memory operand: PB + DISP, or PB in MODE 0b01 (R177). -/
def memAt (x : Engine) (m : MemOp) : Word :=
  if m.mode = 1 then x.preg m.pb.val else x.preg m.pb.val + BitVec.signExtend 32 m.disp

/-- A memory operand is usable: its MODE is not reserved, and the P register that it updates is not yet written in the bundle. -/
def MemOk (x : Engine) (m : MemOp) : Prop :=
  (m.mode = 0 ∨ m.mode = 1) ∧ (m.mode = 1 → Unwritten x (32 + m.pb.val))

/-- An access of `n` bytes at an address lies in data memory and is aligned. -/
def InData (a : Word) (n : Nat) : Prop := 0x10000000 ≤ a.toNat ∧ a.toNat + n ≤ 0x10040000 ∧ a.toNat % n = 0

/-! ## Protection -/

/-- The device stands in SAFE with SAFE_N low. -/
def InSafe (t : State) : Prop := t.sys.dev = .safe ∧ t.sys.pins.safeN = false

/-- Both pins of every local leg are low. -/
def PinsLow (t : State) : Prop := ∀ n : Nat, n < 12 → (t.loc n).pinH = false ∧ (t.loc n).pinL = false

/-- The Block ordered set of the whole cluster with a cause stands among those repeated at every boundary (R62). -/
def BlockStands (t : State) (cause : Nat) : Prop :=
  { scope := 0, strmask := 0, cause := cause, devid := t.devid, wellFormed := true } ∈ t.saf.blocks

/-- A protection can act: the runtime is up, no activation pause runs, and the device is not yet in SAFE. -/
def CanAct (s : State) : Prop := s.up = true ∧ s.fw.pause = false ∧ s.sys.dev ≠ .safe

/-- The sticky bit of a source of the collector is set (R262). -/
def Sticky (t : State) (src : Nat) : Prop := t.rdBit 0x4201 (src / 16 + 1) (src % 16) = true

/-! ## Writes of a host -/

/-- A session may write an entry: it is open with its port in service, the entry exists and is writable, and the role, the device state, the redundancy
role and the lock permit it (R303, R305, R307, R317 to R319). -/
def MayWrite (s : State) (i : Fin 40) (idx sub : Nat) : Prop :=
  s.sessUp i.val = true ∧ ∃ r, s.row idx sub = some r ∧ s.preStatus (s.sess i.val).roles r idx sub = 0 ∧
    (lockedAcc r.acc = true → (s.sess i.val).holds (s.entryScope idx) = true)

/-- The last output is the status of a session's item. -/
def Status (t : State) (i : Fin 40) (st : Nat) : Prop := t.tx.getLast? = some (.itemStatus i.val st)

/-- A message has left over Spar, on its lanes, with END and SEQ of the device and the tick (R274, R275). -/
def SparSent (s t : State) (m : SparMsg) : Prop :=
  TxItem.spar (s.sparLanes (s.sparHome m)) s.sys.straps.pairselB (s.clk.tick.truncate 16) m ∈ t.tx

/-- Is an item on the lanes a frame that node `n` passes on (R66)? -/
def isForward (n : Nat) : TxItem → Bool
  | .nodeForward m _ _ => m == n
  | _ => false

/-- Since `s` nothing has gone out but frames that node `n` passed on. -/
def OnlyForwards (n : Nat) (s t : State) : Prop :=
  t.tx.take s.tx.length = s.tx ∧ (t.tx.drop s.tx.length).all (isForward n) = true

/-- A transition of a kind waits for a boundary. -/
def Waits (t : State) (kind : Nat) (at_ : BitVec 32) (arg : Int) : Prop := (⟨kind, at_, arg⟩ : Due) ∈ t.sys.due

/-- A value of an entry waits in its shadow for a boundary (R304). -/
def Shadowed (t : State) (idx sub v : Nat) : Prop := ∃ q, Tab.get none (ekey idx sub) t.reg.shadow = some ⟨v, q⟩

/-! ## Invariants -/

/-- The store of the entries is canonical: keys rising, no entry at its default, every value within its entry's width. -/
def EntriesCanonical (s : State) : Prop :=
  s.reg.od.Pairwise (fun a b => a.1 < b.1) ∧ ∀ p ∈ s.reg.od, p.2 ≠ regDefault p.1 ∧ p.2 < 2 ^ regBits p.1

/-- Every leg of every node outside N-RUN and N-COAST is both-off or in high impedance (R83). -/
def IdleNodesOff (s : State) : Prop :=
  ∀ n l : Nat, (s.node n).ns ≠ .run → (s.node n).ns ≠ .coast → ((s.node n).leg l).st = .off ∨ ((s.node n).leg l).st = .highZ

end Claims

end Sys2Proof
end

