-- ==== Sys2Proof/Certificates/Slice0/Obligations.lean ====
section
/-! DEFINITION. The statements of this model for the provers. Each docstring names the rules of the manual it states. -/

open Sys2Proof Sys2Proof.Machine Sys2Proof.Claims

/-- Tier 1. A step takes the command at the front of the queue and runs it on the state with the queue's rest; with no command waiting the
block idles, which is the model's choice (log entry 1). -/
def Obligations.StepTakesTheFront : Prop :=
  (∀ (c : Instr) (rest : List Instr) (s : State), step { s with pending := c :: rest } = exec c { s with pending := rest }) ∧
  (∀ s : State, s.pending = [] → step s = .next s)

/-- Tier 1. No command stops the block: whatever the state and the operands, a command answers a next state. Where it rests on the model's
choices, these are in log entries 3 and 136. -/
def Obligations.EveryCommandAnswers : Prop := ∀ (c : Instr) (s : State), ∃ t, exec c s = .next t

/-- Tier 2. The ALU class of the engines, slots C and L (Table CE-6, R176): what a syllable that may issue, and whose destination the bundle
has not yet written, collects for the end of its bundle; nothing but its engine changes. -/
def Obligations.EngineAluResults : Prop :=
  ∀ (s : State) (y : Syl) (d a b amt : Fin 32) (imm : BitVec 17),
    Issues s y slotCL → Unwritten (eng s y) d.val →
    let A := (eng s y).dreg a.val
    let B := (eng s y).dreg b.val
    exec (.add y d a b) s = .next (writes s y [.d d.val (A + B)] 0) ∧
    exec (.sub y d a b) s = .next (writes s y [.d d.val (A - B)] 0) ∧
    exec (.adds y d a b) s =
      .next (writes s y [.d d.val (BitVec.ofInt 32 (clamp 32 (A.toInt + B.toInt)))] (satBit 32 (A.toInt + B.toInt))) ∧
    exec (.subs y d a b) s =
      .next (writes s y [.d d.val (BitVec.ofInt 32 (clamp 32 (A.toInt - B.toInt)))] (satBit 32 (A.toInt - B.toInt))) ∧
    exec (.add2s y d a b) s =
      .next (writes s y [.d d.val (BitVec.ofInt 16 (clamp 16 (hiHalf A + hiHalf B)) ++ BitVec.ofInt 16 (clamp 16 (loHalf A + loHalf B)))]
        (satBit 16 (hiHalf A + hiHalf B) ||| satBit 16 (loHalf A + loHalf B))) ∧
    exec (.sub2s y d a b) s =
      .next (writes s y [.d d.val (BitVec.ofInt 16 (clamp 16 (hiHalf A - hiHalf B)) ++ BitVec.ofInt 16 (clamp 16 (loHalf A - loHalf B)))]
        (satBit 16 (hiHalf A - hiHalf B) ||| satBit 16 (loHalf A - loHalf B))) ∧
    exec (.and y d a b) s = .next (writes s y [.d d.val (A &&& B)] 0) ∧
    exec (.or y d a b) s = .next (writes s y [.d d.val (A ||| B)] 0) ∧
    exec (.xor y d a b) s = .next (writes s y [.d d.val (A ^^^ B)] 0) ∧
    exec (.shl y d a b) s = .next (writes s y [.d d.val (A <<< (B &&& 31))] 0) ∧
    exec (.shr y d a b) s = .next (writes s y [.d d.val (A >>> (B &&& 31))] 0) ∧
    exec (.asr y d a b) s = .next (writes s y [.d d.val (A.sshiftRight (B &&& 31).toNat)] 0) ∧
    exec (.min y d a b) s = .next (writes s y [.d d.val (BitVec.ofInt 32 (min A.toInt B.toInt))] 0) ∧
    exec (.max y d a b) s = .next (writes s y [.d d.val (BitVec.ofInt 32 (max A.toInt B.toInt))] 0) ∧
    exec (.abs y d a) s =
      .next (writes s y [.d d.val (if A = 0x80000000 then 0x7FFFFFFF else if A.msb then -A else A)]
        (if A = 0x80000000 then 0x100 else 0)) ∧
    exec (.negs y d a) s =
      .next (writes s y [.d d.val (if A = 0x80000000 then 0x7FFFFFFF else -A)] (if A = 0x80000000 then 0x100 else 0)) ∧
    exec (.clip y d a b) s = .next (writes s y [.d d.val (BitVec.ofInt 32 (min (max A.toInt (-B.toInt)) B.toInt))] 0) ∧
    exec (.mov y d a) s = .next (writes s y [.d d.val A] 0) ∧
    exec (.pack y d a b) s = .next (writes s y [.d d.val (A <<< 16 ||| (B &&& 0xFFFF))] 0) ∧
    exec (.movs y d) s = .next (writes s y [.d d.val (eng s y).st] 0) ∧
    exec (.sat16 y d a) s = .next (writes s y [.d d.val (BitVec.ofInt 32 (clamp 16 A.toInt))] (satBit 16 A.toInt)) ∧
    exec (.mulq y d a b) s =
      .next (writes s y [.d d.val (BitVec.ofInt 32 (clamp 16 (rounded (rndOf (eng s y).st) 15 (loHalf A * loHalf B))))]
        (satBit 16 (rounded (rndOf (eng s y).st) 15 (loHalf A * loHalf B)))) ∧
    exec (.addi y d a imm) s = .next (writes s y [.d d.val (A + BitVec.signExtend 32 imm)] 0) ∧
    exec (.andi y d a imm) s = .next (writes s y [.d d.val (A &&& BitVec.zeroExtend 32 imm)] 0) ∧
    exec (.ori y d a imm) s = .next (writes s y [.d d.val (A ||| BitVec.zeroExtend 32 imm)] 0) ∧
    exec (.movi y d imm) s = .next (writes s y [.d d.val (BitVec.signExtend 32 imm)] 0) ∧
    exec (.movhi y d imm) s = .next (writes s y [.d d.val (BitVec.zeroExtend 32 imm <<< 16)] 0) ∧
    exec (.shiShl y d a amt) s = .next (writes s y [.d d.val (A <<< amt.val)] 0) ∧
    exec (.shiShr y d a amt) s = .next (writes s y [.d d.val (A >>> amt.val)] 0) ∧
    exec (.shiAsr y d a amt) s = .next (writes s y [.d d.val (A.sshiftRight amt.val)] 0) ∧
    (∀ p : Fin 8, exec (.movd y d p) s = .next (writes s y [.d d.val ((eng s y).preg p.val)] 0)) ∧
    (y.slot = .c → exec (.divq y d a b) s = .next (
      if B = 0 then writes s y [.d d.val (if A.msb then 0xFFFF8000 else 0x7FFF)] 0x400
      else writes s y [.d d.val (BitVec.ofInt 32 (clamp 16 (Int.tdiv (A.toInt * 2 ^ 15) B.toInt)))]
        (satBit 16 (Int.tdiv (A.toInt * 2 ^ 15) B.toInt))))

/-- Tier 2. The moves to P registers and to ST, and the compares, which write the flags N, Z, C and V at the end of the bundle (Tables CE-4
and CE-6): the flags are those of the difference over the integers. -/
def Obligations.EngineFlagsAndMoves : Prop :=
  ∀ (s : State) (y : Syl) (a b : Fin 32) (p : Fin 8) (imm : BitVec 17),
    Issues s y slotCL →
    let x := eng s y
    let flags (A B : Word) : Word :=
      (if (A - B).msb then 0x80 else 0) + (if A = B then 0x40 else 0) + (if B.toNat ≤ A.toNat then 0x20 else 0) +
      (if A.toInt - B.toInt < -(2 ^ 31) ∨ 2 ^ 31 ≤ A.toInt - B.toInt then 0x10 else 0)
    (Unwritten x (32 + p.val) → exec (.movp y p a) s = .next (writes s y [.p p.val (x.dreg a.val)] 0)) ∧
    (Unwritten x 46 → x.flagW = none → exec (.movst y a) s = .next (writes s y [.st (x.dreg a.val)] 0)) ∧
    (Unwritten x 46 → x.flagW = none →
      exec (.cmp y a b) s = .next (after s y { x with flagW := some (flags (x.dreg a.val) (x.dreg b.val)) })) ∧
    (Unwritten x 46 → x.flagW = none →
      exec (.cmpi y a imm) s = .next (after s y { x with flagW := some (flags (x.dreg a.val) (BitVec.signExtend 32 imm)) }))

/-- Tier 2. The MAC class of the engines, slots M0 and M1 (R175, R176): what a syllable collects, with the advance of the slot's coefficient
pointer where KS is set. -/
def Obligations.EngineAccumulatorResults : Prop :=
  ∀ (s : State) (y : Syl) (o : MacOp) (acc src : Fin 4) (d : Fin 32) (amt : Fin 64),
    Issues s y slotM →
    let x := eng s y
    let An := (x.areg acc.val).toInt
    (Unwritten x (40 + o.acc.val) → (o.ks = true → Unwritten x (if y.slot = .m0 then 44 else 45)) →
      exec (.mac y o) s = .next (writes s y (.a o.acc.val (accVal x.satm ((x.areg o.acc.val).toInt + product x y o)) :: kWrite x y o)
        (accBits x.satm ((x.areg o.acc.val).toInt + product x y o))) ∧
      exec (.mpy y o) s = .next (writes s y (.a o.acc.val (accVal x.satm (product x y o)) :: kWrite x y o)
        (accBits x.satm (product x y o)))) ∧
    (Unwritten x (40 + acc.val) →
      exec (.clra y acc) s = .next (writes s y [.a acc.val 0] 0) ∧
      exec (.movaW y acc d) s = .next (writes s y [.a acc.val (BitVec.signExtend 40 (x.dreg d.val))] 0) ∧
      exec (.movaH y acc d) s = .next (writes s y [.a acc.val (BitVec.ofInt 40 (loHalf (x.dreg d.val) * 2 ^ 16))] 0) ∧
      exec (.adda y acc src) s = .next (writes s y [.a acc.val (accVal x.satm (An + (x.areg src.val).toInt))]
        (accBits x.satm (An + (x.areg src.val).toInt))) ∧
      exec (.addw y acc d) s = .next (writes s y [.a acc.val (accVal x.satm (An + (x.dreg d.val).toInt))]
        (accBits x.satm (An + (x.dreg d.val).toInt))) ∧
      exec (.asra y acc amt) s = .next (writes s y [.a acc.val (BitVec.ofInt 40 (Int.fdiv An (2 ^ amt.val)))] 0) ∧
      exec (.shla y acc amt) s = .next (writes s y [.a acc.val (BitVec.ofInt 40 (clamp 40 (An * 2 ^ amt.val)))] (ovaBit (An * 2 ^ amt.val)))) ∧
    (Unwritten x d.val →
      exec (.extH y d acc) s = .next (writes s y [.d d.val (BitVec.ofInt 32 (clamp 16 (rounded (rndOf x.st) 16 An)))]
        (satBit 16 (rounded (rndOf x.st) 16 An))) ∧
      exec (.extW y d acc) s = .next (writes s y [.d d.val (BitVec.ofInt 32 (clamp 32 An))] (satBit 32 An)))

/-- Tier 2. The end of a bundle (R177): an engine that goes on after a bundle without a jump, a loop or a wait, whose collected writes name
pairwise different registers, holds every collected result, the flags and the sticky bits, and every register that no write names holds what
it held; the next bundle follows and nothing stays collected. -/
def Obligations.BundleEndWritesBack : Prop :=
  ∀ (x : Engine), x.writes.Pairwise (fun v w => regKey v ≠ regKey w) → (∀ w ∈ x.writes, regKey w ≤ 46) →
    x.jump = none → x.waitW = none → x.lc0.cnt = 0 → x.lc1.cnt = 0 →
    let z := x.endBundle
    (∀ n v, .d n v ∈ x.writes → z.dreg n = v) ∧
    (∀ n v, .p n v ∈ x.writes → z.preg n = v) ∧
    (∀ n v, .a n v ∈ x.writes → z.areg n = v) ∧
    (∀ v, .k0 v ∈ x.writes → z.k0 = v) ∧
    (∀ v, .k1 v ∈ x.writes → z.k1 = v) ∧
    (∀ n, (∀ v, .d n v ∉ x.writes) → z.dreg n = x.dreg n) ∧
    (∀ n, (∀ v, .p n v ∉ x.writes) → z.preg n = x.preg n) ∧
    (∀ n, (∀ v, .a n v ∉ x.writes) → z.areg n = x.areg n) ∧
    ((∀ v, .st v ∉ x.writes) → z.st = (match x.flagW with | some f => (x.st &&& 0xFFFFFF0F) ||| f | none => x.st) ||| x.stickyW) ∧
    z.pc = x.pc + 1 ∧ z.run = .running ∧ z.writes = [] ∧ z.flagW = none ∧ z.stickyW = 0 ∧ z.jump = none ∧
    z.data = x.data ∧ z.rstack = x.rstack ∧ z.events = x.events ∧ z.stage = x.stage

/-- Tier 2. Loads and stores of the engines (slot L, Table CE-6, R178): a load that its window answers, once the engine's earlier accesses
to the CSM are complete where it reads the CSM (R179), collects the loaded value, with the update of the P register in MODE 0b01; LDP into
the register that the operand also updates takes a free value (the model's choice, log entry 37: the manual names no value there); a store
puts the register's bytes, least significant first, at the operand's address, and every other byte, every other engine and the rest of the
state stay. Where it rests on the model's choices, these are in log entries 8, 37, 40 and 175. -/
def Obligations.EngineLoadsAndStores : Prop :=
  (∀ (s : State) (y : Syl) (dt : Fin 32) (pt : Fin 8) (m : MemOp) (v : Nat),
    Issues s y slotL → MemOk (eng s y) m →
    let x := eng s y
    let at_ := (memAt x m).toNat
    let t := s.loadWait y.eng.val at_
    ((at_ < 0x30000000 ∨ 0x30400000 ≤ at_ ∨ x.csmQ = []) → t = s) ∧ ((∀ o ∈ x.csmQ, o ≠ .done) → (eng t y).run = .running) ∧
    ((eng t y).run = .running → Unwritten x dt.val → t.engLoad y.eng.val at_ 2 = .ok v →
      exec (.ldH y dt m) s = .next (writes t y (.d dt.val (BitVec.ofInt 32 (BitVec.ofNat 16 v).toInt) :: pWrite x m) 0)) ∧
    ((eng t y).run = .running → Unwritten x dt.val → t.engLoad y.eng.val at_ 4 = .ok v →
      exec (.ldW y dt m) s = .next (writes t y (.d dt.val (BitVec.ofNat 32 v) :: pWrite x m) 0)) ∧
    ((eng t y).run = .running → Unwritten x dt.val → Unwritten x (dt.val + 1) → dt.val % 2 = 0 → t.engLoad y.eng.val at_ 8 = .ok v →
      exec (.ldD y dt m) s = .next (writes t y
        (.d dt.val (BitVec.ofNat 32 v) :: .d (dt.val + 1) (BitVec.ofNat 32 (v / 2 ^ 32)) :: pWrite x m) 0)) ∧
    ((eng t y).run = .running → Unwritten x (32 + pt.val) → (m.mode = 1 → pt ≠ m.pb) → t.engLoad y.eng.val at_ 4 = .ok v →
      exec (.ldp y pt m) s = .next (writes t y (.p pt.val (BitVec.ofNat 32 v) :: pWrite x m) 0)) ∧
    (Unwritten x (32 + pt.val) → m.mode = 1 → pt = m.pb → InData (memAt x m) 4 →
      exec (.ldp y pt m) s = .next (writes s.useFresh y [.p pt.val (Config.freeWord s.fresh)] 0))) ∧
  (∀ (s : State) (y : Syl) (dt : Fin 32) (pt : Fin 8) (m : MemOp),
    Issues s y slotL → MemOk (eng s y) m →
    let x := eng s y
    let at_ := (memAt x m).toNat - 0x10000000
    let stored (v n : Nat) : State :=
      after s y { collect x (pWrite x m) 0 with data := Tab.writeLE at_ v n x.data }
    (InData (memAt x m) 2 → exec (.stH y dt m) s = .next (stored ((x.dreg dt.val).toNat % 65536) 2)) ∧
    (InData (memAt x m) 4 → exec (.stW y dt m) s = .next (stored (x.dreg dt.val).toNat 4)) ∧
    (InData (memAt x m) 8 → dt.val % 2 = 0 →
      exec (.stD y dt m) s = .next (stored ((x.dreg dt.val).toNat + 2 ^ 32 * (x.dreg (dt.val + 1)).toNat) 8)) ∧
    (InData (memAt x m) 4 → exec (.stp y pt m) s = .next (stored (x.preg pt.val).toNat 4)) ∧
    (∀ (v n j : Nat), j < at_ ∨ at_ + n ≤ j → Tab.get 0 j (Tab.writeLE at_ v n x.data) = Tab.get 0 j x.data) ∧
    (∀ (v n : Nat), Tab.readLE (Tab.writeLE at_ v n x.data) at_ n = v % 256 ^ n))

/-- Tier 2. The windows of an engine's address space (Tables CE-8 and CE-9, R178, R179): data memory answers its bytes, a misaligned access
has cause 3, a store to program memory or to the coefficient banks cause 5, and an address in no window cause 4; a store to the CSM acts at
once, or, behind accesses issued before it, waits as the last of them. -/
def Obligations.EngineWindows : Prop :=
  ∀ (s : State) (e : Fin 16) (a n v : Nat), n = 2 ∨ n = 4 ∨ n = 8 →
    (0x10000000 ≤ a → a < 0x10040000 → a % n = 0 →
      s.engLoad e.val a n = .ok (Tab.readLE (s.engine e.val).data (a - 0x10000000) n)) ∧
    (0x10000000 ≤ a → a < 0x10040000 → a % n ≠ 0 → s.engLoad e.val a n = .error 3 ∧ s.engStore e.val a n v = .error 3) ∧
    (0x20000000 ≤ a → a < 0x20001000 → s.engStore e.val a n v = .error 5) ∧
    (a < 0x20000 → s.engStore e.val a n v = .error 5) ∧
    (0x30000000 ≤ a → a < 0x30400000 → a % n = 0 →
      s.engLoad e.val a n = .ok (Tab.readLE s.cpu.csm (a - 0x30000000) n)) ∧
    (0x30000000 ≤ a → a < 0x30010000 → a % 32 = 0 → s.engStore e.val a n v = .error 5) ∧
    (0x30010000 ≤ a → a < 0x30400000 → a % 32 = 0 → (s.engine e.val).csmQ ≠ [] →
      s.engStore e.val a n v = .ok (s.setEngine e.val
        { s.engine e.val with csmQ := (s.engine e.val).csmQ ++ [.store (a - 0x30000000) n v] })) ∧
    (0x30010000 ≤ a → a < 0x30400000 → a % 32 = 0 → (s.engine e.val).csmQ = [] →
      ∃ t, s.engStore e.val a n v = .ok t ∧ t = { s with cpu.csm := t.cpu.csm } ∧
        Tab.readLE t.cpu.csm (a - 0x30000000) n = v % 256 ^ n ∧
        (∀ j, j < a - 0x30000000 ∨ a - 0x30000000 + n ≤ j → Tab.get 0 j t.cpu.csm = Tab.get 0 j s.cpu.csm)) ∧
    (0x40001000 ≤ a → s.engLoad e.val a n = .error 4 ∧ s.engStore e.val a n v = .error 4)

/-- Tier 2. The control class of the engines (slot C, Table CE-6, R177, R181, R193): branches, calls and the return stack of 16 entries,
hardware loops, WAIT and its end, coefficient pointers, NOP, each where the bundle that follows lies in program memory; a condition that
does not hold and a loop of 0 repetitions, which skips its body, are cases of their own; BRK, while a debug session with the breakpoint
permission is open, halts the engine with its registers kept. Where it rests on the model's choices, these are in log entry 36. -/
def Obligations.EngineControl : Prop :=
  (∀ (s : State) (y : Syl) (cond : Fin 16) (t : BitVec 14) (sa : Fin 32) (all : Bool),
    (eng s y).run = .running → y.slot = .c →
    let x := eng s y
    let n := (x.dreg sa.val).toNat % 65536
    (∀ z, z = { x with jump := some t.toNat } → cond.val ≤ 9 → condHolds x.st cond.val = true → InProgram y z →
      exec (.bcc y cond t) s = .next (after s y z)) ∧
    (cond.val ≤ 9 → condHolds x.st cond.val = false → InProgram y x → exec (.bcc y cond t) s = .next (after s y x)) ∧
    (∀ z, z = { x with rstack := (x.pc + 1) :: x.rstack, jump := some t.toNat } → x.rstack.length < 16 → InProgram y z →
      exec (.call y t) s = .next (after s y z)) ∧
    (∀ z r rest, x.rstack = r :: rest → z = { x with rstack := rest, jump := some r } → InProgram y z →
      exec (.ret y) s = .next (after s y z)) ∧
    (∀ z, z = { x with lc0 := ⟨n, x.pc + 1, t.toNat⟩ } → x.lc0.cnt = 0 → x.lc1.cnt = 0 → 0 < n → InProgram y z →
      exec (.loopLc0 y sa t) s = .next (after s y z)) ∧
    (∀ z, z = { x with lc1 := ⟨n, x.pc + 1, t.toNat⟩ } → x.lc1.cnt = 0 → 0 < n → InProgram y z →
      exec (.loopLc1 y sa t) s = .next (after s y z)) ∧
    (∀ z, z = { x with jump := some (t.toNat + 1) } → x.lc0.cnt = 0 → x.lc1.cnt = 0 → n = 0 → InProgram y z →
      exec (.loopLc0 y sa t) s = .next (after s y z) ∧ exec (.loopLc1 y sa t) s = .next (after s y z)) ∧
    (InProgram y x → exec (.wait y sa all) s = .next (after s y { x with waitW := some (x.dreg sa.val, all) })) ∧
    (InProgram y x → Unwritten x 44 → exec (.setk y false sa) s = .next (writes s y [.k0 (x.dreg sa.val &&& 0x07FF07FF)] 0)) ∧
    (InProgram y x → Unwritten x 45 → exec (.setk y true sa) s = .next (writes s y [.k1 (x.dreg sa.val &&& 0x07FF07FF)] 0)) ∧
    (InProgram y x → exec (.nop ⟨y, 0⟩) s = .next (after s y x))) ∧
  (∀ (s : State) (e : Fin 16) (y : Syl) (mask : Word) (all : Bool),
    ((s.engine e.val).run = .waiting mask all →
      (if all then (s.engine e.val).events &&& mask = mask else (s.engine e.val).events &&& mask ≠ 0) →
      exec (.waitResume e) s = .next (s.setEngine e.val { s.engine e.val with run := .running })) ∧
    ((eng s y).run = .running → y.slot = .c → s.fw.debugOpen = true → s.fw.debugPerm.getLsbD 1 = true → s.fw.pause = false →
      s.sys.dev ≠ .safe →
      ∃ t, exec (.brk y) s = .next t ∧ t.engine y.eng.val = { (eng s y).dropMarks with run := .debug } ∧ t.sys.dev = .safe ∧
        t.sys.pins.safeN = false ∧ t.cpu.csm = s.cpu.csm))

/-- Tier 2. An exception stops its engine at once (R192): a syllable in a slot that does not take its class, and a word with a reserved OP
or FN in any slot (R177), have cause 2, BRK outside a debug session cause 7; the cause bit sets, the bundle's address is recorded, and what
the bundle had collected is lost. Where it rests on the model's choices, these are in log entry 36. -/
def Obligations.EngineExceptions : Prop :=
  ∀ (s : State) (y : Syl) (d a b : Fin 32) (w : BitVec 32), (eng s y).run = .running → (eng s y).pc ≤ 8191 →
    (w ≠ 0 → ∃ t, exec (.nop ⟨y, w⟩) s = .next t ∧
      t.engine y.eng.val = { (eng s y).clearBundle.dropMarks with run := .excepted } ∧
      t.rdBit (0x3000 + y.eng.val) 0x0C 2 = true ∧ t.rd (0x3000 + y.eng.val) 0x0D = (eng s y).pc) ∧
    (y.slot = .m0 ∨ y.slot = .m1 → ∃ t, exec (.add y d a b) s = .next t ∧
      t.engine y.eng.val = { (eng s y).clearBundle.dropMarks with run := .excepted } ∧
      t.rdBit (0x3000 + y.eng.val) 0x0C 2 = true ∧ t.rd (0x3000 + y.eng.val) 0x0D = (eng s y).pc) ∧
    (y.slot = .c → s.fw.debugOpen = false → ∃ t, exec (.brk y) s = .next t ∧
      t.engine y.eng.val = { (eng s y).clearBundle.dropMarks with run := .excepted } ∧
      t.rdBit (0x3000 + y.eng.val) 0x0C 7 = true ∧ t.rd (0x3000 + y.eng.val) 0x0D = (eng s y).pc)

/-- Tier 2. Completion, release, signals and events (Table CE-10, R173, R181, R185): a running engine without a transfer under way halts at
DONE, and with one waits for it; RELEASE notes what the engine has a leg of; SIGNAL sets the flags in every engine's event word, or waits
for the engine's transfers to the CSM; EVCLR clears bits [9:0] only. -/
def Obligations.EngineCompletionAndSignals : Prop :=
  ∀ (s : State) (e : Fin 16) (rel : BitVec 7) (flags : BitVec 16) (mask : Word),
    (s.engine e.val).run = .running →
    let x := s.engine e.val
    (x.xferBusy = false → ∃ t, exec (.done e) s = .next t ∧ (t.engine e.val).run = .halted ∧ t.sys.dev = s.sys.dev ∧
      t.cpu.csm = s.cpu.csm) ∧
    (x.xferBusy = true → exec (.done e) s = .next (s.setEngine e.val { x with csmQ := x.csmQ ++ [.done] })) ∧
    (∃ t, exec (.release e rel) s = .next t ∧
      t.engine e.val = { x with released := x.released ||| BitVec.ofNat 7 (rel.toNat &&& s.ownMask e.val) } ∧
      (∀ i : Nat, i ≠ e.val → t.engine i = s.engine i) ∧ t.cpu.csm = s.cpu.csm) ∧
    (x.xferOut = false → ∃ t, exec (.signal e flags) s = .next t ∧ t = { s with cpu.engines := t.cpu.engines } ∧
      ∀ i : Fin 16, t.engine i.val = { s.engine i.val with events := (s.engine i.val).events ||| (flags ++ (0 : BitVec 16)) }) ∧
    (x.xferOut = true →
      exec (.signal e flags) s = .next (s.setEngine e.val { x with csmQ := afterOut flags x.csmQ })) ∧
    (exec (.evclr e mask) s = .next (s.setEngine e.val { x with events := x.events &&& ~~~(mask &&& 0x3FF) }))

/-- Tier 2. TB2 in ENGINE mode, and the allocator port (R114, R117, R126, R182): the owner's increment within range becomes pending and ends
FREERUN (R118) and one outside it is refused, its step waits for the next boundary, and from any other engine both are exceptions of cause
5; a write of N to an idle allocator port of an assigned string becomes its request. -/
def Obligations.EngineTimeBaseAndAllocator : Prop :=
  ∀ (s : State) (e : Fin 16) (v : Word) (st : Fin 6),
    (s.engine e.val).run = .running →
    let owner := bitsN (s.rd 0x1203 1) 2 0 = 4 ∧ bitsN (s.rd 0x1203 1) 7 4 = e.val
    (owner → 0x999999 ≤ v.toNat → v.toNat ≤ 0x1000000 → exec (.tb2inc e v) s = .next ((s.wr 0x1203 2 v.toNat).wrBit 0x1203 7 3 false)) ∧
    (owner → (v.toNat < 0x999999 ∨ 0x1000000 < v.toNat) → exec (.tb2inc e v) s = .next s) ∧
    (owner → ∃ t, exec (.tb2step e v) s = .next t ∧ (t.tbs 2).stepPend = (s.tbs 2).stepPend + v.toInt ∧
      t.rdBit 0x1203 7 1 = true ∧ t = { s with clk := t.clk, reg := t.reg } ∧
      (∀ i sub, ekey i sub ≠ ekey 0x1203 7 → t.rd i sub = s.rd i sub)) ∧
    (¬ owner → ∃ t u, exec (.tb2inc e v) s = .next t ∧ exec (.tb2step e v) s = .next u ∧ t = u ∧
      t.engine e.val = { (s.engine e.val).clearBundle.dropMarks with run := .excepted } ∧ t.rdBit (0x3000 + e.val) 0x0C 5 = true) ∧
    ((s.assigned e.val).getLsbD st.val = true → (s.string st.val).req = none → (s.string st.val).rdy = false → v.toNat < 512 →
      exec (.allocRequest e st v) s =
        .next (s.setString st.val { s.string st.val with req := some (v.toNat % 256, v.getLsbD 8) }))

/-- Tier 2. Commits (R147 to R149, R170, R183, R184, R407, Table SW-6): a set that the port and the builder accept lands in the port of
every leg it reaches, all four bridge legs of a phase-shift pair; in the reload cycle it waits for the next reload and LATE_COMMIT sets; a
blocked leg of which no unit goes on takes none; a refused handle changes no leg; the words of a carrier set within the ranges of Table SW-6
give the set, and a PERIOD below half a tick or above 1 ms, or a HIGH above PERIOD, is refused. Where it rests on the model's choices, these
are in log entries 39 and 142. -/
def Obligations.EngineCommits : Prop :=
  (∀ (s : State) (e : Fin 16) (h : Word) (inReload : Bool),
    (s.engine e.val).run = .running →
    let x := s.engine e.val
    (s.handleLeg e.val h = none → ∃ t, exec (.commit e h inReload) s = .next t ∧
      t = s.setEngine e.val { x with cmdRefused := true, cmdErrNow := true }) ∧
    (∀ k n, s.handleLeg e.val h = some k → stExtra x (s.legForm k) = false →
      s.stagedSet x (s.legForm k) (s.leg k).inForce = some n →
      ∃ t, exec (.commit e h inReload) s = .next t ∧
        t.engine e.val = { x with cmdRefused := false } ∧
        (∀ j ∈ s.unitLegs k, s.legBlocked j = true → s.unitGoesOn j = false →
          t.leg j = { s.leg j with both := n.endsBoth }) ∧
        (∀ j ∈ s.unitLegs k, s.legBlocked j = false ∨ s.unitGoesOn j = true → s.legRestored j = true →
          (t.leg j).portLate = some (n, inReload) ∧ (t.leg j).port = (s.leg j).port) ∧
        (∀ j ∈ s.unitLegs k, s.legBlocked j = false ∨ s.unitGoesOn j = true → s.legRestored j = false →
          if inReload then (t.leg j).status = (s.leg j).status ||| 0x80 ∧
            (if (s.leg j).reloaded then (t.leg j).port = some n ∧ (t.leg j).lateStart = true
             else (t.leg j).portLate = some (n, true) ∧ (t.leg j).port = (s.leg j).port)
          else (t.leg j).port = some n ∧ (t.leg j).lateStart = false ∧ (t.leg j).status = (s.leg j).status) ∧
        (∀ j, j ∉ s.unitLegs k → t.leg j = s.leg j) ∧ t.reg = s.reg) ∧
    (∀ k n, s.handleLeg e.val h = some k → s.legForm k = 2 → s.stagedCoast x = some n →
      ∃ t, exec (.commitCoast e h inReload) s = .next t ∧
        (s.legBlocked k = true → t.leg k = s.leg k) ∧
        (s.legBlocked k = false →
          if s.legRestored k = true ∨ inReload = true ∧ (s.leg k).reloaded = false then (t.leg k).coastLate = some n else (t.leg k).coastPort = some n) ∧
        (t.leg k).port = (s.leg k).port ∧ (∀ j, j ≠ k → t.leg j = s.leg j) ∧ t.reg = s.reg)) ∧
  (∀ (s : State) (x : Engine) (old : Option CmdSet),
    (x.stw 0 ≤ 1 → x.stw 2 < 256 → s.tTb ≤ 2 * x.stw 1 → x.stw 1 ≤ 256000000 → x.stw 4 ≤ x.stw 1 →
      s.stagedSet x 1 old = some (.carrier (x.stw 0 == 1) (x.stw 1) (s.stAnchor x) (x.stw 4))) ∧
    (2 * x.stw 1 < s.tTb ∨ 256000000 < x.stw 1 ∨ x.stw 1 < x.stw 4 → s.stagedSet x 1 old = none))

/-- Tier 2. Transfers, trace and the engine's units (R180, R188 to R190, R194, R195, Tables CE-14 and CE-15): a store to LEN within the
ranges starts a free channel, and when its last beat is done the bytes have moved whole and XDONE sets, accesses issued before it being
complete too (R179); a trace channel takes its word and TRIG triggers an armed trace whose source it is; a notch unit takes one sample where
it is enabled and heads its chain; a following-error unit notes its feedback and is cleared while COUNT is 0. Each changes its unit alone.
Where it rests on the model's choices, these are in log entry 40. -/
def Obligations.EngineTransfersAndUnits : Prop :=
  (∀ (s : State) (e : Fin 16) (c : Fin 4) (len v : Word) (k : Fin 8),
    let x := s.engine e.val
    let ch := x.chan c.val
    (x.run = .running → x.chanBusy c.val = false → 0 < len.toNat % 512 → len.toNat % 512 ≤ 256 → ch.csm.toNat % 32 = 0 →
      0x10000 ≤ ch.csm.toNat → ch.csm.toNat + 32 * (len.toNat % 512) ≤ 0x400000 → 0x10000000 ≤ ch.loc.toNat →
      ch.loc.toNat + 32 * (len.toNat % 512) ≤ 0x10040000 →
      exec (.xferStart e c len) s = .next (s.setEngine e.val { x with
        xfer := Tab.set Xfer.init c.val { ch with len := len } x.xfer, csmQ := x.csmQ ++ [.xfer c.val ch.csm ch.loc len] })) ∧
    (∀ csm loc q, x.csmQ = .xfer c.val csm loc len :: q → (∀ o, q.head? = some o → o.isXfer = true) →
      ∃ t, exec (.xferDone e c) s = .next t ∧ (t.engine e.val).csmQ = q ∧
        (t.engine e.val).events = x.events ||| BitVec.ofNat 32 (2 ^ c.val) ∧
        (len.getLsbD 31 = true → (t.engine e.val).data = x.data ∧
          t.cpu.csm = Tab.writeBytes csm.toNat
            (Tab.readBytes x.data (loc.toNat - 0x10000000) (32 * (len.extractLsb' 0 9).toNat)) s.cpu.csm) ∧
        (len.getLsbD 31 = false → t.cpu.csm = s.cpu.csm ∧
          (t.engine e.val).data = Tab.writeBytes (loc.toNat - 0x10000000)
            (Tab.readBytes s.cpu.csm csm.toNat (32 * (len.extractLsb' 0 9).toNat)) x.data)) ∧
    (∀ a n w csm loc, x.csmQ = [.store a n w, .xfer c.val csm loc len] → len.getLsbD 31 = false →
      ∃ t, exec (.xferDone e c) s = .next t ∧ (t.engine e.val).csmQ = [] ∧ t.cpu.csm = Tab.writeLE a w n s.cpu.csm ∧
        (t.engine e.val).data = Tab.writeBytes (loc.toNat - 0x10000000)
          (Tab.readBytes (Tab.writeLE a w n s.cpu.csm) csm.toNat (32 * (len.extractLsb' 0 9).toNat)) x.data) ∧
    (x.run = .running → ∃ t, exec (.traceWrite e k v) s = .next t ∧ Tab.get (0 : Word) k.val (t.engine e.val).trace = v ∧
      (∀ j, j ≠ k.val → Tab.get (0 : Word) j (t.engine e.val).trace = Tab.get (0 : Word) j x.trace) ∧ t.fld = s.fld) ∧
    (x.run = .running → bitsN (s.rd 0x3100 1) 7 4 = 1 → s.rdBit 0x3100 1 0 = true → s.rdBit 0x3100 4 1 = false →
      ∃ t, exec (.trig e) s = .next t ∧ t.rdBit 0x3100 4 1 = true ∧ t.rd 0x3100 5 = s.clk.tick.toNat ∧
        t.cpu.traceTrigNow = true ∧ t.fld = s.fld)) ∧
  (∀ (s : State) (e : Fin 16) (u : Fin 4) (f : Fin 8) (w : Word),
    (s.engine e.val).run = .running →
    let x := s.engine e.val
    let n := x.notchU u.val
    let X := loHalf w
    let acc := (n.coef.getD 0 0).toInt * X + (n.coef.getD 1 0).toInt * n.x1 + (n.coef.getD 2 0).toInt * n.x2 -
      (n.coef.getD 3 0).toInt * n.y1 - (n.coef.getD 4 0).toInt * n.y2
    let y := rounded 1 14 (clamp 40 acc)
    (n.en = true → n.loadPend = false → (u.val = 3 ∨ (x.notchU (u.val + 1)).chain = false) →
      ∃ t, exec (.notchSample e u w) s = .next t ∧ t = s.setEngine e.val (t.engine e.val) ∧
        (t.engine e.val).notchU u.val = { n with
          x1 := X, x2 := n.x1, y1 := clamp 16 y, y2 := n.y1, y := BitVec.ofInt 16 (clamp 16 y), sat := n.sat || decide (clamp 16 y ≠ y) } ∧
        (∀ j, j ≠ u.val → (t.engine e.val).notchU j = x.notchU j)) ∧
    (n.en = false → n.loadPend = false → (u.val = 3 ∨ (x.notchU (u.val + 1)).chain = false) →
      ∃ t, exec (.notchSample e u w) s = .next t ∧ (t.engine e.val).notchU u.val = { n with y := w.extractLsb' 0 16 }) ∧
    (exec (.notchLoad e u) s = .next (s.setEngine e.val (x.setNotch u.val { n with loadPend := true }))) ∧
    (exec (.notchClr e u) s =
      .next (s.setEngine e.val (x.setNotch u.val { n with x1 := 0, x2 := 0, y1 := 0, y2 := 0, y := 0 }))) ∧
    (exec (.followFbWrite e f w) s =
      .next (s.setEngine e.val (x.setFollow f.val { x.followU f.val with fb := w.extractLsb' 0 16, updated := true }))) ∧
    ((x.followU f.val).count = 0 → exec (.trippedClear e f) s =
      .next (s.setEngine e.val (x.setFollow f.val { x.followU f.val with tripped := false }))) ∧
    ((x.followU f.val).count ≠ 0 → ∃ t, exec (.trippedClear e f) s = .next t ∧
      ∀ g : Nat, ((t.engine e.val).followU g) = x.followU g))

/-- Tier 2. Trip inputs and comparators (R231 to R233, R245): an enabled input low for longer than its filter time gates every local leg,
sends and keeps the Block ordered set of CAUSE 0x01, sets its latch and takes the device to SAFE; an enabled comparator beyond its threshold
for longer than its filter time gates the masked legs, sets its latch and takes the device to SAFE with CAUSE 0x08; a shorter excursion
changes nothing, and a release clears the level and leaves the latch. Where it rests on the model's choices, these are in log entries 27, 43
and 161. -/
def Obligations.TripsAndComparators : Prop :=
  (∀ (s : State) (i : Fin 8) (lowNs : Nat),
    (CanAct s → s.rdBit (0x4100 + i.val) 1 7 = true → s.sys.pins.trip.getLsbD i.val = false →
      tripFilt (s.rd (0x4100 + i.val) 1) < lowNs →
      ∃ t, exec (.tripInput i lowNs) s = .next t ∧ InSafe t ∧ PinsLow t ∧ BlockStands t 1 ∧
        (∀ n : Nat, n < 12 → (t.loc n).gTrip = true) ∧ t.rdBit 0x2790 2 i.val = true ∧ t.rdBit 0x2790 1 i.val = true ∧
        (s.causePresent i.val = false → Sticky t i.val)) ∧
    (tripFilt (s.rd (0x4100 + i.val) 1) ≠ 0 → lowNs ≤ tripFilt (s.rd (0x4100 + i.val) 1) →
      exec (.tripInput i lowNs) s = .next s) ∧
    (∃ t, exec (.tripInputRelease i) s = .next t ∧ t.rdBit 0x2790 1 i.val = false ∧ t.sys.pins.trip.getLsbD i.val = false ∧
      t.rd 0x2790 2 = s.rd 0x2790 2 ∧ t.fld = s.fld ∧ t.saf = s.saf ∧ t.sys.dev = s.sys.dev)) ∧
  (∀ (s : State) (c : Fin 8) (v : Int) (held : Nat),
    let mode := bitsN (s.rd (0x4110 + c.val) 1) 5 4
    let hi := s.rdInt (0x4110 + c.val) 3 16
    let lo := s.rdInt (0x4110 + c.val) 4 16
    (CanAct s → s.rdBit (0x4110 + c.val) 1 7 = true → compFilt (s.rd (0x4110 + c.val) 1) < held →
      s.saf.compActive.getLsbD c.val = false → ((mode = 0 ∨ mode = 2) ∧ hi < v ∨ (mode = 1 ∨ mode = 2) ∧ v < lo) →
      ∃ t, exec (.comparatorActive c v held) s = .next t ∧ InSafe t ∧ PinsLow t ∧ BlockStands t 8 ∧
        (∀ n : Nat, n < 12 → (s.rd (0x4110 + c.val) 5).testBit n = true → (t.loc n).gComp = true) ∧
        t.rdBit 0x2790 4 c.val = true ∧ t.saf.compActive.getLsbD c.val = true ∧
        (s.causePresent (8 + c.val) = false → Sticky t (8 + c.val))) ∧
    (s.saf.compActive.getLsbD c.val = true → compFilt (s.rd (0x4110 + c.val) 1) ≤ held → (mode = 1 ∨ v ≤ hi - 128) →
      (mode = 0 ∨ lo + 128 ≤ v) →
      ∃ t, exec (.comparatorInactive c v held) s = .next t ∧ t.saf.compActive.getLsbD c.val = false ∧
        t = { s with saf := t.saf } ∧ t.saf.cause = s.saf.cause ∧ t.saf.blocks = s.saf.blocks))

/-- Tier 2. The local legs (R226 to R229): a DRVEN low of 50 ns or more gates its three legs and no other, and after a complete toggle
LEGFLT, INTLK_WB and STAGE_ILK of a leg clear where their causes are absent; with FLT_EN set a low of 50 ns at the fault input gates the leg
alone and sets LEGFLT; an edge at an open stage whose interlock floor has elapsed drives the pins it names, and no edge ever leaves both
pins high. Where it rests on the model's choices, these are in log entries 55, 56, 161 and 173. -/
def Obligations.LocalLegs : Prop :=
  (∀ (s : State) (g : Fin 4) (lowNs : Nat),
    (50 ≤ lowNs → ∃ t, exec (.drvenLow g lowNs) s = .next t ∧ t.sys.pins.drven.getLsbD g.val = false ∧
      (∀ n : Nat, n < 12 → n / 3 = g.val → (t.loc n).gDrven = true ∧ (t.loc n).pinH = false ∧ (t.loc n).pinL = false) ∧
      (∀ n : Nat, n < 12 → n / 3 ≠ g.val → t.loc n = s.loc n) ∧ t.sys.dev = s.sys.dev) ∧
    (lowNs < 20 → exec (.drvenLow g lowNs) s = .next s.useFresh) ∧
    (lowNs < 1000 → ∃ t, exec (.drvenToggle g lowNs) s = .next t ∧ t.sys.pins.drven.getLsbD g.val = true ∧
      (∀ n : Nat, n < 12 → t.loc n = if n / 3 = g.val then { s.loc n with gDrven := false } else s.loc n) ∧
      (∀ h, t.leg h = s.leg h) ∧ t.reg = s.reg) ∧
    (1000 ≤ lowNs → (∀ n : Nat, n < 12 → n / 3 = g.val → s.sys.pins.flt.getLsbD n = false ∧ (s.leg (0x8000 + n)).bothOn = false) →
      ∃ t, exec (.drvenToggle g lowNs) s = .next t ∧
        (∀ n : Nat, n < 12 → n / 3 = g.val → (t.loc n).gDrven = false ∧ (t.loc n).gFlt = false ∧
          (t.leg (0x8000 + n)).status.getLsbD 0 = false ∧ (t.leg (0x8000 + n)).status.getLsbD 1 = false ∧
          (t.leg (0x8000 + n)).status.getLsbD 10 = false) ∧
        (∀ h, (∀ n : Nat, n < 12 → n / 3 = g.val → h ≠ 0x8000 + n) → t.leg h = s.leg h))) ∧
  (∀ (s : State) (n : Fin 12) (lowNs : Nat),
    (50 ≤ lowNs → s.rdBit (0x2600 + n.val) 7 0 = true → ∃ t, exec (.legFaultInput n lowNs) s = .next t ∧
      (t.loc n.val).gFlt = true ∧ (t.loc n.val).pinH = false ∧ (t.loc n.val).pinL = false ∧
      (t.leg (0x8000 + n.val)).status.getLsbD 0 = true ∧ t.sys.pins.flt.getLsbD n.val = true ∧
      (∀ m : Nat, m < 12 → m ≠ n.val → t.loc m = s.loc m)) ∧
    (50 ≤ lowNs → s.rdBit (0x2600 + n.val) 7 0 = false → ∃ t, exec (.legFaultInput n lowNs) s = .next t ∧
      t.sys.pins.flt.getLsbD n.val = true ∧ t.fld = s.fld ∧ t.reg = s.reg) ∧
    (∀ e, (s.leg (0x8000 + n.val)).remain[(s.leg (0x8000 + n.val)).execd]? = some e → s.stageOpen n.val = true →
      (s.loc n.val).fallH = none → (s.loc n.val).fallL = none → (s.loc n.val).heldH = false → (s.loc n.val).heldL = false →
      (s.loc n.val).pinH = false → (s.loc n.val).pinL = false →
      ∃ t, exec (.localEdgeExecute n) s = .next t ∧ (t.loc n.val).pinH = (e.st == .high) ∧ (t.loc n.val).pinL = (e.st == .low) ∧
        (t.leg (0x8000 + n.val)).execd = (s.leg (0x8000 + n.val)).execd + 1 ∧ (∀ m : Nat, m ≠ n.val → t.loc m = s.loc m)) ∧
    ((s.loc n.val).pinH = false ∨ (s.loc n.val).pinL = false → ∃ t, exec (.localEdgeExecute n) s = .next t ∧
      ((t.loc n.val).pinH = false ∨ (t.loc n.val).pinL = false)))

/-- Tier 2. SF4 (R169, R252): the coast window of an enabled string that ends within the tick, or that of the local legs, takes a device in
RUN or COAST to SAFE with the Block ordered set of CAUSE 0x04; a STANDBY does not count it. Where it rests on the model's choices, these are
in log entry 43. -/
def Obligations.CoastWindowActs : Prop :=
  ∀ (s : State) (st : Fin 6) (t0 : BitVec 40),
    (s.running = true → s.sys.role ≠ .standby → s.fw.pause = false → s.strEn st.val = true → (s.string st.val).coastT0 = some t0 →
      s.windowOver t0 = true → ∃ t, exec (.coastWindowExpiry st) s = .next t ∧ InSafe t ∧ PinsLow t ∧ BlockStands t 4 ∧
        (t.string st.val).coastT0 = none ∧ Sticky t (0x16 + st.val)) ∧
    (s.running = true → s.sys.role ≠ .standby → s.fw.pause = false → s.fld.localCoastT0 = some t0 → s.windowOver t0 = true →
      ∃ t, exec .localCoastWindowExpiry s = .next t ∧ InSafe t ∧ PinsLow t ∧ BlockStands t 4 ∧ t.fld.localCoastT0 = none ∧
        Sticky t 0x1C) ∧
    (s.sys.role = .standby → exec (.coastWindowExpiry st) s = .next s ∧ exec .localCoastWindowExpiry s = .next s)

/-- Tier 2. SF5 and its diagnostics (R254, Tables SF-4 and SF-12): one that fails gates every local leg, takes the device to SAFE and,
outside role STANDBY, keeps the Block ordered set of CAUSE 0x03, of CAUSE 0x09 for the clock monitor, and the source 0x1D sticks; one that
passes leaves state, pins and legs and ends its own cause; an uncorrectable error in engine memory is an exception of cause 8, a clean re-
read a transient fault. Where it rests on the model's choices, these are in log entries 43 and 45. -/
def Obligations.SelfDiagnostics : Prop :=
  (∀ (s : State) (c : Fin 8) (crc w : Nat), CanAct s → s.sys.role ≠ .standby →
    let acts (i : Instr) (cause : Nat) : Prop :=
      ∃ t, exec i s = .next t ∧ InSafe t ∧ PinsLow t ∧ BlockStands t cause ∧ (∀ n : Nat, n < 12 → (t.loc n).gBlock = true)
    acts (.clockMonitor true) 9 ∧ acts (.lockstepMismatch true) 3 ∧ acts (.coreSupplyMonitor true) 3 ∧
    acts (.comparatorThresholdCheck c false) 3 ∧ (crc ≠ s.rd 0x4000 1 → acts (.workingCopyCheck crc) 3) ∧
    acts (.eccUncorrectable (.sc2, w) false) 3 ∧ acts (.eccUncorrectable (.workingCopy, w) false) 3 ∧
    acts (.eccUncorrectable (.weave, w) false) 3 ∧ acts (.eccUncorrectable (.netbuf, w) false) 3 ∧
    (s.causePresent 0x1D = false → ∃ t, exec (.clockMonitor true) s = .next t ∧ Sticky t 0x1D)) ∧
  (∀ (s : State) (c : Fin 8) (e : Fin 16) (w : Nat), s.up = true →
    let passes (i : Instr) (P : State → Prop) : Prop :=
      ∃ t, exec i s = .next t ∧ t.sys = s.sys ∧ t.fld = s.fld ∧ t.reg = s.reg ∧ P t
    passes (.clockMonitor false) (fun t => t.saf.clkBad = false) ∧
    passes (.lockstepMismatch false) (fun t => t.saf.lockstepWait = false) ∧
    passes (.coreSupplyMonitor false) (fun t => t.saf.railBad = false) ∧
    passes (.comparatorThresholdCheck c true) (fun t => t.saf.thrFail.getLsbD c.val = false) ∧
    passes (.workingCopyCheck (s.rd 0x4000 1)) (fun t => t.saf.wcBad = false) ∧
    ((s.engine e.val).pc ≤ 8191 → ∃ t, exec (.eccUncorrectable ((.engine e), w) false) s = .next t ∧
      t.engine e.val = { (s.engine e.val).clearBundle.dropMarks with run := .excepted } ∧ t.rdBit (0x3000 + e.val) 0x0C 8 = true) ∧
    (∃ t, exec (.eccUncorrectable (.other, w) false) s = .next t ∧ Sticky t 0xE5 ∧ t.sys.dev = s.sys.dev) ∧
    (s.rd 0x4206 4 + 1 < 2 ^ 32 → ∃ t, exec (.eccUncorrectable ((.engine e), w) true) s = .next t ∧
      t.rd 0x4206 4 = s.rd 0x4206 4 + 1 ∧ t.fld = s.fld ∧ t.sys = s.sys))

/-- Tier 2. Requested states (R23, R24, R28, R31, R270, Tables CM-9 and CM-12): a permitted request answers status 0, waits for its
boundary, the one after next on the ACTIVE of a pair, and shows in 0x1001.02 and 0x1001.04 = 0x06, the state itself unchanged yet; in SAFE
the request 0x03 acknowledges, where no cause of SAFE is left. One that the state does not permit answers 0x04 and sets 0x1001.04 = 0x01,
one to prepare or deblock a STANDBY answers 0x0E and sets 0x04, and no transition is taken up. Where it rests on the model's choices, these
are in log entries 21 and 28. -/
def Obligations.RequestedStates : Prop :=
  (∀ (s : State) (i : Fin 40), MayWrite s i 0x1001 2 →
    let taken (c : Instr) (v : Nat) (at_ : BitVec 32) : Prop :=
      ∃ t, exec c s = .next t ∧ Waits t v at_ 0 ∧ t.rd 0x1001 4 = 6 ∧ t.rd 0x1001 2 = v ∧ t.sys.dev = s.sys.dev ∧
        t.sys.role = s.sys.role ∧ t.fld = s.fld ∧ Status t i 0
    (hasRole (s.sess i.val).roles 14 = true → s.sys.dev = .blocked → s.fw.confirming = false → s.fw.lifecycle ≠ 3 →
      s.sys.role ≠ .standby → taken (.prepare i) 4 s.dueTick) ∧
    (hasRole (s.sess i.val).roles 14 = true → s.sys.dev = .ready → s.sys.role ≠ .standby → taken (.deblock i) 5 s.dueTick) ∧
    (hasRole (s.sess i.val).roles 14 = true → (s.sys.dev = .ready ∨ s.sys.dev = .run ∨ s.sys.dev = .coast) →
      taken (.blockRequest i) 3 s.dueTick) ∧
    (hasRole (s.sess i.val).roles 14 = true → s.sys.dev = .safe → s.safeCause = false →
      taken (.acknowledge i) 3 (s.clk.tick + 1)) ∧
    (hasRole (s.sess i.val).roles 4 = true → s.sys.dev = .blocked → s.fw.confirming = false → taken (.sleepRequest i) 8 s.dueTick)) ∧
  (∀ (s : State) (i : Fin 40), MayWrite s i 0x1001 2 → hasRole (s.sess i.val).roles 14 = true →
    let refused (c : Instr) (st why : Nat) : Prop :=
      ∃ t, exec c s = .next t ∧ t.rd 0x1001 4 = why ∧ t.sys.due = s.sys.due ∧ t.sys.dev = s.sys.dev ∧ t.fld = s.fld ∧ Status t i st
    (s.sys.dev ≠ .blocked → refused (.prepare i) 4 1) ∧
    (s.sys.dev ≠ .ready → refused (.deblock i) 4 1) ∧
    (s.sys.dev = .blocked ∨ s.sys.dev = .commission → refused (.blockRequest i) 4 1) ∧
    (s.sys.role = .standby → s.sys.dev = .ready → refused (.deblock i) 0xE 4))

/-- Tier 2. The collector's entries (R263, R268, R269): force bits follow what is written where their source is listed, an acknowledgement
clears the sticky bits of sources whose cause is absent and no other, and a ladder release ends the blocks it names where no set source at
L3 or above keeps them. Where it rests on the model's choices, these are in log entries 15 and 16. -/
def Obligations.CollectorWrites : Prop :=
  ∀ (s : State) (i : Fin 40) (k : Fin 16) (v : BitVec 16) (m : BitVec 8),
    (MayWrite s i 0x4203 (k.val + 1) → ∃ t, exec (.forceBitWrite i k v) s = .next t ∧
      (∀ n : Nat, n < 16 → t.rdBit 0x4203 (k.val + 1) n =
        if (classSources k.val).testBit n then v.getLsbD n else s.rdBit 0x4203 (k.val + 1) n) ∧ Status t i 0) ∧
    (MayWrite s i 0x4204 (k.val + 1) → ∃ t, exec (.faultAcknowledge i k v) s = .next t ∧
      (∀ n : Nat, n < 16 → t.rdBit 0x4201 (k.val + 1) n =
        (s.rdBit 0x4201 (k.val + 1) n && !(v.getLsbD n && !s.causePresent (16 * k.val + n)))) ∧
      t.rd 0x4200 2 = (if (List.range 16).any (fun n => v.getLsbD n && s.causePresent (16 * k.val + n)) then 3 else 0) ∧
      t.fld = s.fld ∧ t.sys = s.sys ∧ Status t i 0) ∧
    (MayWrite s i 0x4200 3 → s.live = true → 0 < m.toNat → m.toNat ≤ 0x7F →
      ∃ t, exec (.ladderRelease i m) s = .next t ∧
        (∀ b : Nat, b < 7 → (t.rd 0x4200 4).testBit b = ((s.rd 0x4200 4).testBit b && !(m.getLsbD b && !s.heldAtL3 b))) ∧
        t.sys = s.sys ∧ Status t i 0)

/-- Tier 2. Latches, leg status and counters (R33, R146, R233, Table SW-5): a latch clears where its input or comparator is no longer
active, bits [7:2] of a leg's status clear where 1 is written, and a counter takes the value 0 with its overflow flag. Where it rests on the
model's choices, these are in log entries 16 and 17. -/
def Obligations.LatchesAndCounters : Prop :=
  ∀ (s : State) (i : Fin 40) (v : BitVec 8) (w : BitVec 16) (n : Fin 384) (l : Fin 8) (m : Fin 12) (idx sub : Nat) (r : EntryRow),
    (MayWrite s i 0x2790 2 → ∃ t, exec (.tripLatchClear i v) s = .next t ∧
      (∀ j : Nat, j < 8 → t.rdBit 0x2790 2 j = (s.rdBit 0x2790 2 j && !(v.getLsbD j && !s.tripLevel j))) ∧ t.sys = s.sys ∧
      t.fld = s.fld ∧ Status t i 0) ∧
    (MayWrite s i 0x2790 4 → ∃ t, exec (.comparatorLatchClear i v) s = .next t ∧
      (∀ j : Nat, j < 8 → t.rdBit 0x2790 4 j = (s.rdBit 0x2790 4 j && !(v.getLsbD j && !s.compLevel j))) ∧ t.sys = s.sys ∧
      t.fld = s.fld ∧ Status t i 0) ∧
    (MayWrite s i (0x2400 + n.val) (16 + l.val) →
      ∃ t, exec (.legStatusClear i false n ⟨l.val, by omega⟩ w) s = .next t ∧
        (t.leg (n.val * 8 + l.val)).status = (s.leg (n.val * 8 + l.val)).status &&& ~~~(w &&& 0x00FC) ∧
        (∀ h, h ≠ n.val * 8 + l.val → t.leg h = s.leg h) ∧ t.reg = s.reg ∧ Status t i 0) ∧
    (MayWrite s i (0x2600 + m.val) 3 →
      ∃ t, exec (.legStatusClear i true n m w) s = .next t ∧
        (t.leg (0x8000 + m.val)).status = (s.leg (0x8000 + m.val)).status &&& ~~~(w &&& 0x00FC) ∧
        (∀ h, h ≠ 0x8000 + m.val → t.leg h = s.leg h) ∧ t.reg = s.reg ∧ Status t i 0) ∧
    (MayWrite s i idx sub → idx < 0x8000 → entryRow idx sub = some r → r.ctr = true → sub < 256 →
      ∃ t, exec (.counterClear i idx sub) s = .next t ∧ t.rd idx sub = 0 ∧
        Tab.get false (ekey idx sub) t.reg.ctrOvf = false ∧ t.fld = s.fld ∧ t.sys = s.sys ∧ Status t i 0)

/-- Tier 2. Writes that wait for a boundary, and block requests to the group and the system (R27, R117, R187, R214, R257, R282, R299): the
bypass map with the cells that have BYP_EN, the safety confirmation that equals the check value, the bank swap, the planned switch-over and
the steps of the time bases wait for their boundary; a block request moves GBSEQ one on, leaves sealed under the group key on the lanes in
use, and blocks this member at the next boundary. Where it rests on the model's choices, these are in log entries 16, 25, 28 and 165. -/
def Obligations.BoundaryRequests : Prop :=
  (∀ (s : State) (i : Fin 40) (st : Fin 6) (m : BitVec 96) (v : BitVec 32) (e : Fin 16) (d : Int),
    -(2 ^ 31) ≤ d → d < 2 ^ 31 →
    (MayWrite s i (0x2100 + st.val) 12 → ∃ t, exec (.bypassMapWrite i st m) s = .next t ∧
      Shadowed t (0x2100 + st.val) 12 (mapOfBits (if s.sys.dev = .blocked then s.bypKept st.val m
        else s.bypKept st.val m ||| s.bypPending st.val)) ∧
      (t.string st.val).bypClr = (if s.sys.dev = .blocked then s.strMap st.val 12 &&& ~~~m else 0) ∧
      t.fld = { s.fld with strings := t.fld.strings } ∧ (∀ u : Nat, u ≠ st.val → t.string u = s.string u) ∧ t.sys = s.sys ∧
      (s.bypDropped st.val m = true → Sticky t (0xA0 + st.val)) ∧
      Status t i (if m &&& ~~~s.bypKept st.val m = 0 then 0x10 else 0)) ∧
    (MayWrite s i 0x4000 2 → s.sys.dev = .commission → v.toNat = s.rd 0x4000 1 → s.threshSet = true →
      ∃ t, exec (.safetyConfirmation i v) s = .next t ∧ Shadowed t 0x4000 2 v.toNat ∧ t.reg.od = s.reg.od ∧ Status t i 0x10) ∧
    (MayWrite s i 0x4000 2 → s.sys.dev = .commission → v.toNat ≠ s.rd 0x4000 1 →
      ∃ t, exec (.safetyConfirmation i v) s = .next t ∧ t.reg.shadow = s.reg.shadow ∧ t.rd 0x1001 4 = 2 ∧ Status t i 5) ∧
    (MayWrite s i (0x3010 + e.val) 1 → (s.engine e.val).swapPend = false →
      ∃ t, exec (.swapRequest i e) s = .next t ∧ t.engine e.val = { s.engine e.val with swapPend := true } ∧
        Waits t 0x82 s.dueTick (e.val : Int) ∧ t.reg = s.reg ∧ Status t i 0x10) ∧
    (MayWrite s i 0x5000 2 → s.sys.role = .active → s.partnerAble = true →
      s.pair.partner.any (fun h => h.state == devCode s.sys.dev && h.mirrorIn) = true →
      ∃ t, exec (.switchOverRequest i) s = .next t ∧ Waits t 0x81 (s.clk.tick + 2) 0 ∧ t.sys.role = .active ∧ Status t i 0) ∧
    (MayWrite s i 0x1201 4 → s.cfgState = true → s.sys.role ≠ .standby →
      ∃ t, exec (.timeBaseStep i 0 d) s = .next t ∧ Waits t 0x80 s.dueTick d ∧ t.rdBit 0x1201 7 1 = true ∧ Status t i 0) ∧
    (MayWrite s i 0x1202 4 → s.grouped = false → ∃ t, exec (.timeBaseStep i 1 d) s = .next t ∧
      (t.tbs 1).stepPend = (s.tbs 1).stepPend + d ∧ t.rdBit 0x1202 7 1 = true ∧ Status t i 0) ∧
    (MayWrite s i 0x1203 4 → bitsN (s.rd 0x1203 1) 2 0 = 4 → ∃ t, exec (.timeBaseStep i 2 d) s = .next t ∧
      t.tbs 2 = s.tbs 2 ∧ Status t i 5) ∧
    (MayWrite s i 0x1203 4 → bitsN (s.rd 0x1203 1) 2 0 ≠ 4 → ∃ t, exec (.timeBaseStep i 2 d) s = .next t ∧
      (t.tbs 2).stepPend = (s.tbs 2).stepPend + d ∧ t.rdBit 0x1203 7 1 = true ∧ Status t i 0) ∧
    (MayWrite s i 0x1204 4 → s.rd 0x1204 1 % 8 = 0 → ∃ t, exec (.timeBaseStep i 3 d) s = .next t ∧
      (t.tbs 3).stepPend = (s.tbs 3).stepPend + d ∧ t.rdBit 0x1204 7 1 = true ∧ Status t i 0)) ∧
  (∀ (s : State) (i : Fin 40), MayWrite s i 0x5100 6 →
    let asked (c : Instr) (sys : Bool) : Prop :=
      ∃ t, exec c s = .next t ∧ t.grp.gbseq = s.grp.gbseq + 1 ∧ Waits t 0x83 (s.clk.tick + 1) 0 ∧ Sticky t 0xFC ∧ Status t i 0 ∧
        (s.fw.groupKey.isSome = true → ∀ lane : Nat, lane < (if sys then 4 else 2) → s.rdBit 0x5100 7 lane = true →
          ∃ (h : RidgeHdr) (f : BlockReqFrame), TxItem.ridge lane h (.block f) ∈ t.tx ∧ f.systemWide = sys ∧ f.gbseq = s.grp.gbseq + 1 ∧
            f.origin = s.devid ∧ f.key = s.fw.groupKey)
    asked (.groupBlockRequest i) false ∧ asked (.systemBlockRequest i) true)

/-- Tier 2. Coefficients, trace, recorder and observers (R187, R195, R222, R306, R340): the bytes of the inactive bank, the trace's trigger
and re-arm, the persistent entries back at their defaults, the keep-first area cleared in BLOCKED with its counters, and an observer's
maximum or rainflow cleared. Where it rests on the model's choices, these are in log entries 16 and 29. -/
def Obligations.ServiceWrites : Prop :=
  ∀ (s : State) (i : Fin 40) (e : Fin 16) (off : Nat) (bs : List Byte) (c : Fin 192),
    (MayWrite s i (0x3010 + e.val) 2 → off + bs.length ≤ 4096 → (s.engine e.val).swapPend = false →
      ∃ t, exec (.inactiveBankWrite i e off bs) s = .next t ∧
        (t.engine e.val).inactive = Tab.writeBytes off bs (s.engine e.val).inactive ∧
        (t.engine e.val).active = (s.engine e.val).active ∧ t.reg = s.reg ∧ Status t i 0) ∧
    (MayWrite s i 0x3100 3 → s.rdBit 0x3100 1 0 = true → s.rdBit 0x3100 4 1 = false →
      ∃ t, exec (.traceTriggerCommand i) s = .next t ∧ t.rdBit 0x3100 4 1 = true ∧ t.rd 0x3100 5 = s.clk.tick.toNat ∧ Status t i 0) ∧
    (MayWrite s i 0x3100 3 → ∃ t, exec (.traceRearm i) s = .next t ∧ t.rdBit 0x3100 4 1 = false ∧ t.rdBit 0x3100 4 2 = false ∧
      t.cpu.tracePost = none ∧ t.fld = s.fld ∧ Status t i 0) ∧
    (MayWrite s i 0x1002 1 → s.sys.dev = .blocked → ∃ t, exec (.restorePersistentDefaults i) s = .next t ∧
      (∀ idx sub r, sub < 256 → entryRow idx sub = some r → restorable idx sub = true → r.acc ≠ .rwb →
        t.rd idx sub = regDefault (ekey idx sub)) ∧ t.fld = s.fld ∧ Status t i 0) ∧
    (MayWrite s i 0x6000 10 → s.sys.dev = .blocked → ∃ t, exec (.clearKeepFirst i) s = .next t ∧ t.evr.keepFirst = [] ∧
      t.rd 0x6000 5 = 0 ∧ t.rd 0x6000 6 = 0 ∧ t.fld = s.fld ∧ Status t i 0) ∧
    (MayWrite s i (0x6A00 + c.val) 11 → ∃ t, exec (.observerClearMaxTemp i c) s = .next t ∧ t.rd (0x6A00 + c.val) 6 = 0x8000 ∧
      t.rd (0x6A00 + c.val) 7 = s.rd (0x6A00 + c.val) 7 ∧ t.fld = s.fld ∧ Status t i 0) ∧
    (MayWrite s i (0x6A00 + c.val) 11 → ∃ t, exec (.observerClearRainflow i c) s = .next t ∧ t.rd (0x6A00 + c.val) 7 = 0 ∧
      t.rd (0x6A00 + c.val) 8 = 0 ∧ t.rd (0x6A00 + c.val) 6 = s.rd (0x6A00 + c.val) 6 ∧ t.fld = s.fld ∧ Status t i 0)

/-- Tier 2. Images, lifecycle and debug (R351, R358, R365, R366, Tables FW-6, FW-9 and FW-10): an activation without a reason to refuse it
starts the load, the health confirmation of a pending image is noted, Deployed needs its certificates and Returned erases the group
certificates and keys, and a certificate that opens a debug session grants its rights, in BOOT JTAG access alone. Where it rests on the
model's choices, these are in log entries 30 and 132. -/
def Obligations.ImagesAndLifecycle : Prop :=
  ∀ (s : State) (i : Fin 40) (c : DebugCert),
    (MayWrite s i 0x1410 1 → s.activating = false → s.actRefusal = 0 →
      ∃ t, exec (.activate i) s = .next t ∧ t.fw.loading = true ∧ t.rd 0x1410 2 = 1 ∧ t.sys.dev = s.sys.dev ∧ Status t i 0) ∧
    (MayWrite s i 0x1410 1 → s.activating = false → s.actRefusal ≠ 0 →
      ∃ t, exec (.activate i) s = .next t ∧ t.fw = s.fw ∧ t.rd 0x1410 2 = s.actRefusal ∧ Status t i 5) ∧
    (MayWrite s i 0x1410 3 → s.confPending = true → s.rdBit 0x1410 7 7 = true → s.inWindow = true →
      ∃ t, exec (.healthConfirm i) s = .next t ∧ t.fw = { s.fw with confirmed := true } ∧ t.reg = s.reg ∧ Status t i 0) ∧
    (MayWrite s i 0x1400 4 → s.sys.dev = .blocked → s.fw.lifecycle = 1 → s.rd 0x1421 1 ≠ 0 → s.rd 0x1420 3 ≠ 0 → s.rd 0x5100 7 = 0 →
      s.deviceCert = true → ∃ t, exec (.lifecycleDeploy i) s = .next t ∧ t.fw.lifecycle = 2 ∧ Sticky t 0xEA ∧ Status t i 0) ∧
    (MayWrite s i 0x1400 4 → s.sys.dev = .blocked → s.fw.lifecycle = 2 →
      ∃ t, exec (.lifecycleReturn i) s = .next t ∧ t.fw.lifecycle = 3 ∧ t.fw.groupKey = none ∧ t.fw.groupKeyNext = none ∧ t.rd 0x1420 3 = 0 ∧
        t.rd 0x1420 4 = 0 ∧ t.rd 0x1420 5 = 0 ∧ t.rd 0x1420 6 = 0 ∧ Sticky t 0xEA ∧ Status t i 0) ∧
    (s.sessUp i.val = true → hasRole (s.sess i.val).roles 16 = true → s.debugState = true → s.certOpens c = true →
      ∃ t, exec (.debugCertificate i c) s = .next t ∧ t.fw.debugOpen = true ∧
        t.fw.debugPerm = (if s.sys.dev = .boot then certPerm c &&& 1 else certPerm c) ∧ t.fld = s.fld ∧ Status t i 0)

/-- Tier 2. An item of a WRITE whose checks pass and whose entry neither acts nor counts (R303, R304, R307): an RW entry takes the value at
once, an RWB or RWS entry, and an entry of 0x1210 or 0x1100 that its own rule lets wait for the boundary (Table TM-9, R308), keeps it in its
shadow and its value in force unchanged; every other register stays. Where it rests on the model's choices, these are in log entries 15 and
19. -/
def Obligations.ItemWrites : Prop :=
  ∀ (s : State) (i : Fin 40) (w : WItem) (r : EntryRow),
    MayWrite s i w.idx w.sub → w.idx < 0x8000 → s.row w.idx w.sub = some r → itemStatus r w = 0 → r.ctr = false →
    s.actWrite (s.sess i.val).roles w (s.itemNew r w) = none →
    (s.viewed.wr w.idx w.sub (s.itemNew r w)).rulesOk w.idx w.sub = true →
    (atBoundary r.acc w.idx w.sub = false → w.idx ≠ 0x1300 → ∃ t, exec (.dictWrite i w) s = .next t ∧
      t.rd w.idx w.sub = s.itemNew r w % 2 ^ regBits (ekey w.idx w.sub) ∧
      (∀ j k, ekey j k ≠ ekey w.idx w.sub → t.rd j k = s.rd j k) ∧ t.reg.shadow = s.reg.shadow ∧ t.fld = s.fld ∧ Status t i 0) ∧
    (atBoundary r.acc w.idx w.sub = true → ∃ t, exec (.dictWrite i w) s = .next t ∧ Shadowed t w.idx w.sub (s.itemNew r w) ∧
      t.reg.od = s.reg.od ∧ t.fld = s.fld ∧ Status t i 0x10)

/-- Tier 2. A boundary (R16, R17, R62, R115, R255, R304): the tick moves one on and, unless TB0 steps, the boundary by T; every Block that
lasts goes out once more on the driven ports; outside the pause of an activation the A-die monitor's challenge is the one given; in BLOCKED
the domains in use are on. A RESET_N that has been low for 10 µs holds the device in internal reset (R382), with every local pin low.
Without a runtime nothing happens. Where it rests on the model's choices, these are in log entries 2, 61 and 167. -/
def Obligations.BoundaryTurns : Prop :=
  ∀ (s : State) (ch : BitVec 32),
    (s.up = true → s.sys.pins.resetN = true → exec (.boundary ch) s = .next (s.boundaryCycle.boundaryUnits ch)) ∧
    (s.up = true → s.resetHolds = true → ∃ t, exec (.boundary ch) s = .next t ∧ t.sys.dev = .boot ∧ t.sys.intReset = true ∧ PinsLow t ∧
      t.pending = s.pending) ∧
    (s.up = true → s.resetHolds = false → ∃ t, exec (.boundary ch) s = .next t ∧ t.clk.tick = s.clk.tick + 1 ∧ t.pending = s.pending ∧
      ((s.tbs 0).stepPend = 0 → (∀ d ∈ s.sys.due, d.kind ≠ 0x80) → t.clk.bnd = s.clk.bnd + BitVec.ofNat 40 (256 * s.tNs)) ∧
      (∀ b ∈ t.saf.blocks, ∃ ports, TxItem.blockSet ports 1 b ∈ t.tx) ∧
      (t.fw.pause = false → t.clk.challenge = ch ∧ t.clk.challenged = true)) ∧
    (s.up = false → exec (.boundary ch) s = .next s)

/-- Tier 2. t_hb and t_gather (R53, R60, R68, R264, R276): at t_hb a Heartbeat leaves every driven end of every ring in use, and in a pair a
heartbeat both Spar lanes; at t_gather the slot of a configured node whose Response has not come is stale, and outside the pause of an
activation FAULT_N is low exactly where the highest level is 2 or more. Where it rests on the model's choices, these are in log entries 53
and 79. -/
def Obligations.HeartbeatsAndGather : Prop :=
  (∀ s : State, s.up = true → ∃ t, exec .tickHeartbeat s = .next t ∧
    (∀ r ∈ s.rings, ∀ p ∈ s.ringPorts r, TxItem.heartbeat r (s.portEndB p) s.ringHb ∈ t.tx) ∧
    (s.paired = true → ∀ l : Fin 2, ∃ lanes, lanes = BitVec.ofNat 2 (2 ^ l.val) ∧
      TxItem.spar lanes s.sys.straps.pairselB (s.clk.tick.truncate 16) (.hb (s.sparHbOf l)) ∈ t.tx) ∧
    t.reg = s.reg ∧ t.fld = s.fld ∧ t.sys = s.sys ∧ t.cpu = s.cpu ∧ t.clk = s.clk) ∧
  (∀ s : State, s.up = true → ∃ t, exec .tickGather s = .next t ∧ t.clk = { s.clk with gathered := true } ∧
    (∀ n : Nat, n < 384 → (s.slotNode n).isSome = true → (s.slot n).got = false → (t.slot n).stale = true) ∧
    (s.fw.pause = false → t.saf.newOcc = 0 ∧ t.sys.pins.faultN = decide (t.highest < 2)))

/-- Tier 2. Sorter and Level allocator (R207, R208, R209, R211): the ranks hold the available cells once each place, in ascending key and
index, by the keys of t_start once that has passed; the strings follow one another in order; the set in force after an allocation lies
within the available cells, has the size asked for as far as cells are available, and comes of no more swaps than the limit. A blocked
string's set is empty. Where it rests on the model's choices, these are in log entry 160. -/
def Obligations.SorterAndAllocator : Prop :=
  ∀ (s : State) (st : Fin 6) (late : Bool), s.up = true → s.live = true → s.strEn st = true →
    (s.fw.pause = false → (s.string st).sortValid = false → s.sortTurn st = true →
      ∃ t, exec (.sorterComplete st late) s = .next t ∧ (t.string st).sortValid = true ∧ (t.string st).sortLate = (late || (s.string st).sortLate) ∧
        (t.string st).order.Pairwise (fun i j => s.sortKey st i < s.sortKey st j ∨ s.sortKey st i = s.sortKey st j ∧ i ≤ j) ∧
        (∀ i, i ∈ (t.string st).order ↔ ∃ c ∈ s.cellsOf st, s.cellIdx c = i ∧ (s.string st).avail.getLsbD i = true) ∧
        ((s.string st).lateKeys = none → ∀ i, s.sortKey st i = s.keyAt st i) ∧ t.sys = s.sys ∧ t.clk = s.clk) ∧
    (∀ (n : Nat) (dir : Bool), (s.string st).sortValid = true → (s.string st).rdy = false → (s.string st).allocOff = false → (s.string st).req = some (n, dir) →
      ∃ t, exec (.allocationRun st) s = .next t ∧ (t.string st).rdy = true ∧
        (let avail : BitVec 96 := if s.strBlocked st then 0 else (s.string st).avail
         (t.string st).setF &&& ~~~ avail = 0 ∧ (t.string st).nForce = Nat.min n (count96 avail) ∧
         (t.string st).nclamp = decide (count96 avail < n) ∧ (t.string st).swaps ≤ s.rd (0x2100 + st) 7 ∧
         ((∀ i : Nat, i < 96 → avail.getLsbD i = true → i ∈ (s.string st).order) →
           count96 (t.string st).setF = (t.string st).nForce)) ∧
        (∀ e : Nat, e < 16 → (t.engine e).events.getLsbD (4 + st) = true) ∧ t.sys = s.sys)

/-- Tier 2. t_start and t_dl (R172, R199, R22, R191, R254, R255): an engine that is enabled, verified and not in a debug halt enters at
bundle 0 with its registers cleared, and no other runs anew; an engine still at work at t_dl is stopped and its miss counted; a challenge
not answered makes SF5 act. Where it rests on the model's choices, these are in log entry 2. -/
def Obligations.StartAndDeadline : Prop :=
  ∀ s : State, s.up = true →
    (∃ t, exec .tickStart s = .next t ∧ t.clk = s.clk ∧
      ∀ e : Nat, e < 16 → if s.enters e then (t.engine e).run = .running ∧ (t.engine e).pc = 0 ∧ (t.engine e).d = [] ∧ (t.engine e).a = [] ∧
        (t.engine e).st = stReset ∧ (t.engine e).events = 0 ∧ (t.engine e).rstack = [] else (t.engine e).run = (s.engine e).run) ∧
    (∀ (b : Bool) (u : BitVec 8), (s.clk.challenged = false ∨ b = true) → ∃ t, exec (.tickDeadline ⟨b, u⟩) s = .next t ∧
      ∀ e : Nat, e < 16 → (t.engine e).run = if (s.engine e).unfinished then .missed else (s.engine e).run) ∧
    (∀ u : BitVec 8, s.clk.challenged = true → CanAct s → ∃ t, exec (.tickDeadline ⟨false, u⟩) s = .next t ∧ InSafe t ∧ PinsLow t)

/-- Tier 2. The Wales of a ring (R55, R58, R72, R76, R96, R163): once in a tick the regular Wale for the next leaves the commanding end,
with a sequence number one on; a supplementary Wale takes the records queued, without legs cut since (R170), where it ends in time and fits
half the edge budget, and is not sent otherwise. Where it rests on the model's choices, these are in log entries 71 and 75. -/
def Obligations.WalesLeave : Prop :=
  ∀ (s : State) (r : Fin 48) (fits : Bool), s.walesOn r = true →
    (s.waleSent r = false → ∃ t w, exec (.regularWaleSend r) s = .next t ∧ TxItem.wale r (s.cmdEndB r) w ∈ t.tx ∧
      (t.ring r).lastWale = some w ∧ w.hdr.supp = false ∧ w.hdr.tick = s.clk.tick + 1 ∧ w.hdr.seq = (s.ring r).seq + 1 ∧
      w.hdr.tgtT0 = s.clk.bnd + BitVec.ofNat 40 (256 * s.tNs) ∧ w.hdr.devid = s.devid ∧ w.hdr.epoch = s.rd 0x5000 4 ∧
      (∀ q ∈ w.recs, q.pos < 16 ∧ ∃ n, s.nodeSlot (r * 16 + q.pos) = some n ∧ (s.slot n).step = 7 ∧ s.slotCoasts n = false) ∧
      t.reg = s.reg ∧ t.sys = s.sys ∧ t.cpu = s.cpu) ∧
    (s.suppLive r ≠ [] → fits = true → 2 * ((s.ring r).suppEdges + recEdges (s.suppLive r)) ≤ s.edgeBudget r →
      ∃ t w, exec (.supplementaryWaleSend r fits) s = .next t ∧ TxItem.wale r (s.cmdEndB r) w ∈ t.tx ∧ (t.ring r).supp = [] ∧
        (t.ring r).lastWale = some w ∧ w.hdr.supp = true ∧ w.hdr.tick = s.clk.tick ∧ w.hdr.seq = (s.ring r).seq + 1 ∧
        (∀ q ∈ w.recs, q ∈ s.suppLive r) ∧ t.reg = s.reg ∧ t.sys = s.sys) ∧
    (s.suppLive r ≠ [] → fits = false ∨ s.edgeBudget r < 2 * ((s.ring r).suppEdges + recEdges (s.suppLive r)) →
      ∃ t, exec (.supplementaryWaleSend r fits) s = .next t ∧ (t.ring r).supp = [] ∧ t.tx = s.tx ∧ t.sys = s.sys)

/-- Tier 2. Each event of the tick completes where it is due (R17, R58, R72, R163, R208, R209): a boundary with RESET_N high and the runtime
up begins the next tick; the Sorter writes a string of a live cluster once its predecessors are written; the Level allocator answers a
request once the ranks are valid; the regular Wale of a ring in use leaves once in a tick; records queued leave in a supplementary Wale
where it ends in time and fits half the ring's edge budget. Where it rests on the model's choices, these are in log entry 160. -/
def Obligations.TickEventsComplete : Prop :=
  ∀ (s : State) (ch : BitVec 32) (st : Fin 6) (late : Bool) (r : Fin 48) (n : Nat) (dir : Bool), s.up = true →
    (s.sys.pins.resetN = true → ∃ t, exec (.boundary ch) s = .next t ∧ t.clk.tick = s.clk.tick + 1) ∧
    (s.live = true → s.fw.pause = false → s.strEn st = true → (s.string st).sortValid = false →
      (∀ j : Nat, j < st.val → s.strEn j = true → (s.string j).sortValid = true) →
      ∃ t, exec (.sorterComplete st late) s = .next t ∧ (t.string st).sortValid = true ∧
        (t.string st).order.Pairwise (fun i j => s.sortKey st i < s.sortKey st j ∨ s.sortKey st i = s.sortKey st j ∧ i ≤ j)) ∧
    (s.live = true → s.strEn st = true → (s.string st).sortValid = true → (s.string st).req = some (n, dir) → (s.string st).rdy = false →
      (s.string st).allocOff = false → ∃ t, exec (.allocationRun st) s = .next t ∧ (t.string st).rdy = true) ∧
    (s.commands = true → s.fw.pause = false → s.ringEn r = true → s.paired = true ∨ r.val < 24 →
      (s.waleSent r = false → ∃ t w, exec (.regularWaleSend r) s = .next t ∧ TxItem.wale r (s.cmdEndB r) w ∈ t.tx ∧
        w.hdr.supp = false ∧ w.hdr.tick = s.clk.tick + 1) ∧
      (s.suppLive r ≠ [] → 2 * ((s.ring r).suppEdges + recEdges (s.suppLive r)) ≤ s.edgeBudget r →
        ∃ t w, exec (.supplementaryWaleSend r true) s = .next t ∧ TxItem.wale r (s.cmdEndB r) w ∈ t.tx ∧
          w.hdr.supp = true ∧ w.hdr.tick = s.clk.tick))

/-- Tier 2. Responses (R50, R51, R60, R65): the first valid copy of the tick is taken, with its bytes in the CSM's response area; a copy
with a wrong header or of another ring, and one that fails its FCS, counts at its port; a later copy, and one after t_gather, changes
nothing on the field side. Where it rests on the model's choices, these are in log entry 53. -/
def Obligations.ResponsesTaken : Prop :=
  ∀ (s : State) (p : Fin 48) (r : Response) (hdrOk fcsOk : Bool) (n : Nat), s.up = true → s.laneWanted p = true →
    (hdrOk = false ∨ r.ring ≠ s.portRing p →
      exec (.responseReceive p r hdrOk fcsOk) s = .next (s.count 0x2017 (p + 1))) ∧
    (hdrOk = true → r.ring = s.portRing p → s.nodeSlot (r.ring * 16 + r.pos) = some n →
      (fcsOk = true → r.seq = s.clk.tick.truncate 16 → (s.slot n).got = false → s.clk.gathered = false →
        ∃ t, exec (.responseReceive p r hdrOk fcsOk) s = .next t ∧ (t.slot n).resp = some r ∧ (t.slot n).got = true ∧
          (t.slot n).stale = false ∧ (t.slot n).sampleTick = r.seq ∧
          Tab.readBytes t.cpu.csm (n * 64) 60 = respBytes r (s.portEndB p) ∧ t.sys = s.sys ∧ t.clk = s.clk) ∧
      (fcsOk = true → r.seq = s.clk.tick.truncate 16 → (s.slot n).got = true ∨ s.clk.gathered = true →
        ∃ t, exec (.responseReceive p r hdrOk fcsOk) s = .next t ∧ t.fld = s.fld ∧ t.cpu = s.cpu ∧ t.reg = s.reg) ∧
      (fcsOk = false → (s.slot n).got = false →
        ∃ t, exec (.responseReceive p r hdrOk fcsOk) s = .next t ∧ (t.slot n).gotFailed = true ∧ (t.slot n).resp = (s.slot n).resp ∧
          (s.paired = true → s.clk.gathered = false → SparSent s t (.respReq r.ring r.pos s.clk.tick)) ∧ t.cpu = s.cpu))

/-- Tier 2. Heartbeats, Wales and probes of a ring (R58, R59, R68, R69, R278, R283): a Heartbeat counts towards FAR_OK and, from the
partner, as heard; a Wale that fails at the opposite end is resent once with its sequence number, else the ring's lane source is raised; the
probe out takes the place of the tick's Sync at end A, its return leaves end B with the arrival in T_AUX, and a completed pair adds to the
ring's sums outside RUN and COAST. Where it rests on the model's choices, these are in log entries 68, 156 and 176. -/
def Obligations.RingTraffic : Prop :=
  ∀ (s : State) (p r : Fin 48) (h : Heartbeat) (w : Wale) (ep ns : Nat) (rf : BitVec 16) (tb tc : BitVec 40) (sA rB sB : Int) (rows : List ProbeRow), s.up = true →
    (s.laneWanted p = true → ∃ t, exec (.ringHeartbeatReceive p h true) s = .next t ∧
      (t.ring (s.portRing p)).hbTick.getLsbD (if s.paired || p.val % 2 = 0 then 0 else 1) = true ∧
      (s.paired = true → h.devid ≠ s.devid → s.portRing p < 48 → t.pair.ringHbSeen.getLsbD (s.portRing p) = true ∧ h.epoch ≤ t.pair.maxEpoch ∧
        (s.sys.role = .standby → h.role = 1 → t.rd 0x5000 4 = h.epoch % 2 ^ 32)) ∧ t.sys = s.sys ∧ t.cpu = s.cpu) ∧
    (s.paired = false → s.ringEn r = true → r.val < 24 → s.waleOf r w.hdr.seq = some w →
      (s.resendFits r ns = true →
        ∃ t, exec (.waleEndCheck r w.hdr.seq ⟨ep, false, rf⟩ ns false) s = .next t ∧ TxItem.wale r w.hdr.endB w ∈ t.tx ∧ (t.ring r).resent = true ∧
        t.sys = s.sys) ∧
      (∀ again : Bool, s.resendFits r ns = false ∨ again = true → ∃ t, exec (.waleEndCheck r w.hdr.seq ⟨ep, false, rf⟩ ns again) s = .next t ∧
        t.causePresent (laneSrc r) = true ∧ t.tx = s.tx) ∧
      (∃ t, exec (.waleEndCheck r w.hdr.seq ⟨ep, true, 0⟩ ns false) s = .next t ∧ (t.ring r).goodNow = true ∧ t.tx = s.tx)) ∧
    (s.ringEn r = true →
      (s.paired = false → r.val < 24 → s.tb0Valid = true →
        ∃ t, exec (.ringProbe ⟨r, tb, tc⟩) s = .next t ∧ (t.ring r).probeNow = true ∧ t.reg = s.reg ∧
        (∃ f : SyncFrame, f.subtype = 1 ∧ f.tick = s.clk.tick ∧ TxItem.sync r false f ∈ t.tx) ∧
        ∃ f : SyncFrame, f.subtype = 2 ∧ f.tick = s.clk.tick ∧ f.tDep = tc ∧ f.tAux = tb ∧ TxItem.sync r true f ∈ t.tx) ∧
      (s.running = false → (s.ring r).pref.n = 0 → ∃ t, exec (.probeReturn r sA rB sB rows) s = .next t ∧
        (t.ring r).psum = (s.ring r).psum.add (probeCalc sA rB sB rows) ∧ t.tx = s.tx ∧ t.sys = s.sys) ∧
      (s.running = true → (probeCalc sA rB sB rows).drifted (s.ring r).pref = true →
        ∃ t, exec (.probeReturn r sA rB sB rows) s = .next t ∧ t.causePresent (laneSrc r) = true ∧ ((s.ring r).remeasure = false → t.fld = s.fld) ∧
          ((s.ring r).remeasure = true → (t.ring r).remeasure = false ∧ (t.ring r).pref = probeCalc sA rB sB rows) ∧
          t.rd 0x2012 (r + 1) = nsUp (maxI (probeCalc sA rB sB rows).dAB (probeCalc sA rB sB rows).dBA) %
            2 ^ regBits (ekey 0x2012 (r + 1))))

/-- Tier 2. Breaks, bridging and the bypass that is not confirmed (R75, R77, R78, R215, R250, R68): a break that has lasted 2 ticks is
recorded with its place and raises the ring's lane source; bridging starts where it is permitted and ends after 64 ticks whose whole Wale
has reached the opposite end; a late confirmation sets BYP_FAIL, and where SF2 had decided the cell the cluster action follows; a Block of
prepare at a ring end is noted. Where it rests on the model's choices, these are in log entries 54, 72 and 157. -/
def Obligations.BreaksAndBypasses : Prop :=
  ∀ (s : State) (r p : Fin 48) (c : Fin 192) (b : BlockSet) (found relayNs : Nat),
    (s.up = true → s.ringEn r = true → 2 ≤ (s.ring r).badTicks →
      ∃ t, exec (.ringBreakDeclare r found) s = .next t ∧ t.rd 0x2016 (r + 1) = s.breakLoc r found ∧ t.causePresent (laneSrc r) = true ∧ t.sys = s.sys ∧
        t.tx = s.tx) ∧
    (s.up = true → s.commands = true → s.paired = false → s.ringEn r = true → s.rdBit 0x2010 (r + 1) 3 = true → s.rd 0x2016 (r + 1) ≤ 0x10 →
      s.bridgeChecks r relayNs = true → (s.ring r).bridged = false → ∃ t, exec (.bridgingStart r relayNs) s = .next t ∧ (t.ring r).bridged = true ∧ (t.ring r).goodTicks = 0 ∧
        (∀ k, k ≠ r.val → t.ring k = s.ring k) ∧ t.sys = s.sys ∧ t.tx = s.tx) ∧
    (64 ≤ (s.ring r).goodTicks → s.rd 0x2016 (r + 1) ≠ 0xFF → ∃ t, exec (.bridgingEnd r) s = .next t ∧ (t.ring r).bridged = false ∧
      t.rd 0x2016 (r + 1) = 0xFF ∧ t.tx = s.tx ∧ t.sys = s.sys) ∧
    (s.cellType c ≠ 0 → (s.strMap (s.cellStr c) 12).getLsbD (s.cellIdx c) = true → (s.cell c).bypConf = false → (s.cell c).bypFail = false →
      s.bypassLate c = true → ∃ t, exec (.bypassFail c) s = .next t ∧ (t.cell c).bypFail = true ∧
        (CanAct s → s.commands = true → (s.string (s.cellStr c)).sf2.getLsbD (s.cellIdx c) = true →
          InSafe t ∧ PinsLow t ∧ BlockStands t 8)) ∧
    (s.sys.preparing = true → s.laneWanted p = true → b.wellFormed = true → b.scope = 0 → b.cause = 7 →
      ∃ t, exec (.blockArrivalAtRingEnd p b) s = .next t ∧
        (t.ring (s.portRing p)).blockSeen.getLsbD (if s.paired || p.val % 2 = 0 then 0 else 1) = true ∧ t.reg = s.reg ∧ t.tx = s.tx)

/-- Tier 2. Lanes and their modules (R45 to R48, R81, Tables DL-3 and DL-19): each lock event changes its own status bit, UP follows from
RXSLP, LOS, LOL and BLK_LOCK, a port's loss of block lock counts, and a sleeping receiver takes neither lock nor loss of signal; the values
polled from a module stand in the port's entries, and a TX fault, an alarm flag or a module that does not acknowledge raises the ring's lane
source. Where it rests on the model's choices, these are in log entries 47 and 155. -/
def Obligations.LanesAndModules : Prop :=
  (∀ (s : State) (l : Fin 54),
    let sets (c : Instr) (i : Nat) (b : Bool) : Prop := ∃ t, exec c s = .next t ∧ (t.laneBits l).testBit i = b ∧
      t.laneUp l = laneUpOf (t.laneBits l) ∧ (∀ j : Nat, j < 9 → j ≠ i → j ≠ 0 → (t.laneBits l).testBit j = (s.laneBits l).testBit j) ∧ t.fld = s.fld ∧
      t.sys = s.sys ∧ t.tx = s.tx
    let asleep := (s.laneBits l).testBit 7 = true
    (¬ asleep → (s.laneBits l).testBit 3 = false → sets (.blockLockAchieved l) 2 true) ∧
    ((s.laneBits l).testBit 2 = true → sets (.blockLockLoss l) 2 false) ∧
    (¬ asleep → sets (.losAssert l) 4 true) ∧ sets (.losRelease l) 4 false ∧ sets (.cdrLockLoss l) 3 true ∧
    (¬ asleep → sets (.cdrLockAchieved l) 3 false) ∧
    (asleep → exec (.blockLockAchieved l) s = .next s ∧ exec (.losAssert l) s = .next s ∧ exec (.cdrLockAchieved l) s = .next s)) ∧
  (∀ (s : State) (p : Fin 48) (temp vcc bias txp rxp flags : Nat) (txFault : Bool),
    s.up = true → s.portBit p 6 = false →
    (∃ t, exec (.modulePoll p true temp vcc bias txp rxp flags txFault) s = .next t ∧
      t.rd (0x2020 + p) 1 = temp % 65536 ∧ t.rd (0x2020 + p) 2 = vcc % 65536 ∧ t.rd (0x2020 + p) 3 = bias % 65536 ∧
      t.rd (0x2020 + p) 4 = txp % 65536 ∧ t.rd (0x2020 + p) 5 = rxp % 65536 ∧ t.rd (0x2020 + p) 6 = flags % 2 ^ 32 ∧
      t.portBit p 5 = (txFault || bitsN flags 31 16 != 0) ∧
      ((txFault || bitsN flags 31 16 != 0) = true → t.causePresent (s.laneSource p) = true) ∧
      t.fld = { s.fld with i2cSel := t.fld.i2cSel, txFault := t.fld.txFault, modRetry := t.fld.modRetry } ∧ t.fld.txFault.getLsbD p = txFault ∧
      t.fld.modRetry.getLsbD p = false ∧
      Tab.get 0 (2 * (p.val / 12) + (if p.val % 12 < 8 then 0 else 1)) t.fld.i2cSel = 2 ^ (p.val % 12 % 8) ∧
      TxItem.i2cRead (p.val / 12) 0x51 96 10 (s.rdBit 0x2019 (p.val / 12 + 1) 0) ∈ t.tx) ∧
    (∃ t, exec (.modulePoll p false temp vcc bias txp rxp flags txFault) s = .next t ∧
      t.fld = { s.fld with i2cSel := t.fld.i2cSel, modRetry := t.fld.modRetry } ∧
      (s.fld.modRetry.getLsbD p = false → t.fld.modRetry.getLsbD p = true ∧ t.reg = s.reg) ∧
      (s.fld.modRetry.getLsbD p = true → t.fld.modRetry.getLsbD p = false ∧ t.causePresent (s.laneSource p) = true)))

/-- Tier 2. Management of a node (R65, R88, R247, R248): a reply with the outstanding tag completes the request, an identity is judged by
R88 and its result stands in the slot's entry; without a reply the request is resent three times and then the management source of the
slot's strings is raised; a threshold that reads back wrong triggers SF2 for the cells that the node serves. Where it rests on the model's
choices, these are in log entries 49 and 73. -/
def Obligations.ManagementOfNodes : Prop :=
  ∀ (s : State) (n : Fin 384) (q : MgmtReq) (status : Nat) (data : List Byte) (i : NodeIdent) (a b : Int),
    ((s.slot n).req = some q → s.up = true →
      (∃ t, exec (.mgmtReply n q.tag status data (some i) true) s = .next t ∧ (t.slot n).req = none ∧
        (q.op = 2 → (t.slot n).ident = some i ∧ t.rd (0x2400 + n) 7 = s.identCheck n i) ∧ t.sys = s.sys ∧ t.tx = s.tx)) ∧
    ((s.slot n).req = some q → q.resends < 3 → ∃ t, exec (.mgmtTimeout n) s = .next t ∧
      (t.slot n).req = some { q with resends := q.resends + 1 } ∧ TxItem.mgmt n q.tag q.op q.addr q.data ∈ t.tx ∧ t.reg = s.reg) ∧
    ((s.slot n).req = some q → 3 ≤ q.resends → ∃ t, exec (.mgmtTimeout n) s = .next t ∧ (t.slot n).req = none ∧ (t.slot n).step = 0 ∧
      (∀ st ∈ s.slotStrs n, t.causePresent (0xB6 + st) = true) ∧ t.tx = s.tx) ∧
    (s.live = true → s.commands = true → (s.slotNode n).isSome = true → (s.slot n).ident.isSome = true → (s.slot n).rewrite = false →
      a ≠ s.ovth n false ∨ b ≠ s.ovth n true → ∃ t, exec (.thresholdReadback n a b) s = .next t ∧
        (∀ c ∈ s.cellList, s.mvSlot c = n.val ∨ (s.cellType c = 3 ∧ s.lvSlot c = n.val) → (t.cell c).sf2 = true) ∧
        (∀ st ∈ s.slotStrs n, t.causePresent (0xB0 + st) = true) ∧ t.sys = s.sys ∧ t.tx = s.tx)

/-- Tier 2. Spar messages (R60, R59, R76, R197, R276, R283, R288): a heartbeat shows the partner, its epoch and its safety check value; the
own copy of a Response goes on request and the partner's is used where the own has failed; a Wale reported as failed is resent; bridged
portions and Blocks go out on the ports; a mirror frame waits for the next start. A message that fails its check is discarded (R277). Where
it rests on the model's choices, these are in log entries 88, 89, 95 and 188. -/
def Obligations.SparMessages : Prop :=
  ∀ (s : State) (lane1 : Bool) (h : SparHb) (arrival : BitVec 40) (r : Fin 48) (pos : Fin 16) (n : Nat) (x : Response) (w : Wale) (b : BlockSet)
    (rings : BitVec 48) (part : Fin 17) (k : BitVec 32) (content : List Byte) (v : SparIn), s.up = true → s.paired = true →
    let u := s.sparPass (laneOf v)
    (∃ t, exec (.sparHeartbeat lane1 h arrival true) s = .next t ∧ t.pair.partner = some h ∧ h.epoch ≤ t.pair.maxEpoch ∧
      t.pair.sparRx.getLsbD (if lane1 then 1 else 0) = true ∧ t.rdBit 0x4000 4 2 = (h.safetyChk == s.rd 0x4000 1) ∧
      (s.sys.role = .standby → h.role = 1 → t.rd 0x5000 4 = h.epoch % 2 ^ 32) ∧ t.sys = s.sys ∧ t.fld = s.fld) ∧
    (v.ok = false → ∀ (seq : BitVec 16) (ep ns : Nat) (pass un : Bool), ∃ t, t = s.sparFail (laneOf v) false ∧ t.fld = s.fld ∧ t.sys = s.sys ∧ t.tx = s.tx ∧
      exec (.responseRequest r pos ⟨k, v⟩) s = .next t ∧ exec (.responseRelay r pos x v un) s = .next t ∧
      exec (.waleCheckReport r seq ep pass ⟨ns, v⟩) s = .next t ∧ exec (.bridgedPortion r ⟨w, v⟩) s = .next t ∧
      exec (.blockNotice ⟨b, v⟩ rings) s = .next t ∧ exec (.mirrorFrame part k ⟨content, v⟩) s = .next t) ∧
    (v.ok = true → s.nodeSlot (r * 16 + pos) = some n → (s.slot n).resp = some x → (s.slot n).got = true → (s.slot n).fromPartner = false →
      exec (.responseRequest r pos ⟨s.clk.tick, v⟩) s = .next (u.sendSpar (.relay r pos false x))) ∧
    (v.ok = true → s.nodeSlot (r * 16 + pos) = some n → x.seq = s.clk.tick.truncate 16 → x.ring = r.val → x.pos = pos.val → (s.slot n).gotFailed = true →
      (s.slot n).got = false → ∃ t, exec (.responseRelay r pos x v false) s = .next t ∧ (t.slot n).resp = some x ∧ (t.slot n).got = true ∧
        (t.slot n).fromPartner = true ∧ (t.slot n).recovered = true ∧ t.tx = s.tx ∧ t.sys = s.sys) ∧
    (∀ ns : Nat, v.ok = true → s.commands = true → s.waleOf r w.hdr.seq = some w → (s.ring r).resent = false → s.resendFits r ns = true →
      ∃ t, exec (.waleCheckReport r w.hdr.seq (s.rd 0x5000 4) false ⟨ns, v⟩) s = .next t ∧ TxItem.wale r w.hdr.endB w ∈ t.tx ∧ t.reg = u.reg ∧
        (t.ring r).resent = true) ∧
    (v.ok = true → s.sys.role = .standby → s.ringEn r = true → w.hdr.bridge = true →
      ∃ t, exec (.bridgedPortion r ⟨w, v⟩) s = .next t ∧ TxItem.wale r (s.portEndB r) w ∈ t.tx ∧ (t.ring r).portionAt = some s.clk.tick ∧ (t.ring r).bridgeLane1 = v.lane1 ∧ t.reg = u.reg) ∧
    (v.ok = true → b.wellFormed = true → rings &&& s.driven ≠ 0 → exec (.blockNotice ⟨b, v⟩ rings) s = .next (u.send (.blockSet (rings &&& s.driven) 8 b))) ∧
    (v.ok = true → s.sys.role = .standby → content.length ≤ 4096 → ∃ t, exec (.mirrorFrame part k ⟨content, v⟩) s = .next t ∧
      Tab.get none part.val t.pair.mirrorNext = some (k, content) ∧ t.reg = u.reg ∧ t.fld = s.fld ∧ t.cpu = s.cpu)

/-- Tier 2. Forwards (R31, R122, R265, R277, R282, R289, R354): a STANDBY takes up the transition that a forward names and acknowledges it;
a forward seen already is only acknowledged; an ACTIVE refuses all but the pause notices; an acknowledgement ends the resending that a
timeout of 4 ticks asks for, on the other lane, and one that refuses a prepare raises 0xF0 on the ACTIVE. A configuration forward applies
once its segments are whole; a forward that fails its check is discarded and not acknowledged. Where it rests on the model's choices, these
are in log entries 89, 90, 92, 138 and 188. -/
def Obligations.ForwardsTaken : Prop :=
  ∀ (s : State) (f k : BitVec 32) (d : Int) (e : Fin 16) (st : Nat) (p : Package) (c0 content : List Byte) (w : Fwd) (v : SparIn),
    s.up = true → s.paired = true →
    let u := s.sparPass (laneOf v)
    let o (x : BitVec 32) : Over (BitVec 32) := ⟨x, v⟩
    let g : CfgSeg := ⟨0, true, content, v⟩
    let takes (c : Instr) (kind : Nat) (arg : Int) : Prop := v.ok = true → s.pair.fseqSeen.contains f = false → s.sys.role = .standby →
      ∃ t, exec c s = .next t ∧ Waits t kind k arg ∧ SparSent s t (.ack f 0) ∧ f ∈ t.pair.fseqSeen ∧ t.sys.dev = s.sys.dev ∧ t.fld = s.fld
    let waits (c : Instr) (j : CfgJob) : Prop := v.ok = true → s.pair.fseqSeen.contains f = false → s.sys.role = .standby → k ≠ 0 → s.isDue k = false →
      (∀ q ∈ s.pair.cfgIn, q.first ≠ f) →
      ∃ t, exec c s = .next t ∧ (⟨k, s.reg.accSeq, j⟩ : CfgDue) ∈ t.sys.cfgDue ∧ SparSent s t (.ack f 0) ∧ t.reg.od = u.reg.od ∧ t.fld = s.fld
    (s.confPending = false → s.fw.lifecycle ≠ 3 → takes (.fwdPrepare (o f) k) 4 0) ∧ takes (.fwdDeblock (o f) k) 5 0 ∧
    takes (.fwdBlock (o f) k) 0x83 0 ∧ takes (.fwdSwitchOver (o f) k) 0x81 0 ∧ takes (.fwdTb0Step (o f) k d) 0x80 d ∧
    takes (.cfgFwdBankSwap (o f) k e) 0x82 (e.val : Int) ∧
    waits (.cfgFwdWriteItems f k g) (.items (itemsOf content.length content)) ∧
    waits (.cfgFwdYelm f k g) (.items (itemsOf content.length content)) ∧
    (packageOf content = some p → waits (.cfgFwdEnginePackage f k e g) (.package e p)) ∧
    waits (.cfgFwdBankContents f k e g) (.bank e content) ∧
    (v.ok = true → s.pair.fseqSeen.contains f = false → s.sys.role = .standby → (∀ q ∈ s.pair.cfgIn, q.first ≠ f) →
      ∃ t, exec (.cfgFwdBankContents f k e ⟨0, false, content, v⟩) s = .next t ∧ (⟨f, 0, false, content⟩ : CfgPart) ∈ t.pair.cfgIn ∧
        t.sys = s.sys ∧ SparSent s t (.ack f 0)) ∧
    (v.ok = true → s.pair.fseqSeen.contains f = false → s.sys.role = .standby → k ≠ 0 → s.isDue k = false →
      s.pair.cfgIn = [⟨f - 1, 0, false, c0⟩] → ∃ t, exec (.cfgFwdBankContents f k e ⟨1, true, content, v⟩) s = .next t ∧
        (⟨k, s.reg.accSeq, .bank e (c0 ++ content)⟩ : CfgDue) ∈ t.sys.cfgDue ∧ t.pair.cfgIn = [] ∧ SparSent s t (.ack f 0)) ∧
    (v.ok = false → ∃ t, t = s.sparFail (laneOf v) false ∧ t.sys = s.sys ∧ t.tx = s.tx ∧ exec (.fwdDeblock (o f) k) s = .next t ∧
      exec (.cfgFwdBankContents f k e g) s = .next t ∧ exec (.forwardAck (o f) st) s = .next t) ∧
    (v.ok = true → s.pair.fseqSeen.contains f = false →
      (∃ t, exec (.fwdPauseBegin (o f) k) s = .next t ∧ t.pair.partnerPause = true ∧ SparSent s t (.ack f 0) ∧ t.reg = u.reg) ∧
      (∃ t, exec (.fwdPauseEnd (o f) k) s = .next t ∧ t.pair.partnerPause = false ∧ SparSent s t (.ack f 0) ∧ t.reg = u.reg) ∧
      (s.sys.role = .active → ∃ t, exec (.fwdBlock (o f) k) s = .next t ∧ t.sys = s.sys ∧ SparSent s t (.ack f 0xE))) ∧
    (v.ok = true → s.pair.fseqSeen.contains f = true → exec (.fwdDeblock (o f) k) s = .next (u.sendSpar (.ack f 0))) ∧
    (v.ok = true → ∃ t, exec (.forwardAck (o f) st) s = .next t ∧ (∀ x ∈ t.pair.fwds, x ∈ s.pair.fwds ∧ x.fseq ≠ f) ∧ t.tx = s.tx ∧
      (st = 0 → t.reg = u.reg) ∧
      (st ≠ 0 → s.sys.role = .active → w ∈ s.pair.fwds → w.fseq = f → w.item.isPrepare = true → t.causePresent 0xF0 = true)) ∧
    (s.pair.fwds.find? (fun x => x.fseq == f && s.fwdOld x) = some w → ∃ t, exec (.forwardTimeout f) s = .next t ∧
      t.tx = s.tx ++ [.spar (s.sparLanes 1) s.sys.straps.pairselB (s.clk.tick.truncate 16) w.item] ∧
      (∀ x ∈ t.pair.fwds, x.fseq = f → x.sentAt = s.clk.tick) ∧ t.sys = s.sys ∧ t.reg = s.reg ∧ t.fld = s.fld) ∧
    (s.pair.fwds.find? (fun x => x.fseq == f && s.fwdOld x) = none → exec (.forwardTimeout f) s = .next s)

/-- Tier 2. Roles and alignment of a pair (R29, R121, R122, R273, R278, R279, R283, R284, R290): a STANDBY that has heard no ACTIVE long
enough assumes the role with an epoch above every one it knows; a takeover does so too, counts itself and makes RUN COAST; it fails where a
condition fails; an ACTIVE that must gives way, its local pins low; PAIR_ALIGN and PAIR_CHK follow what the members exchange. Where it rests
on the model's choices, these are in log entries 93 and 96. -/
def Obligations.RolesAndAlignment : Prop :=
  (∀ s : State, s.up = true → s.paired = true →
    let active (t : State) : Prop := t.sys.role = .active ∧ t.sys.pins.active = true ∧ t.rd 0x5000 4 = s.newEpoch % 2 ^ 32 ∧ t.clk.tick = s.clk.tick
    (s.sys.role = .standby → s.fw.pause = false → (if s.sys.straps.pairselB then 256 else 64) ≤ s.pair.noActive →
      ∃ t, exec .activeAssume s = .next t ∧ active t ∧ t.sys.dev = s.sys.dev) ∧
    (s.sys.role = .standby → s.fw.pause = false → s.rd 0x5000 3 ≤ s.pair.hbMissed ∨ s.pair.handover = true →
      ∃ t, exec .failureDeclare s = .next t ∧ t.pair = { s.pair with failed := true } ∧ t.sys = s.sys ∧ t.reg = s.reg) ∧
    (s.sys.role = .standby → s.fw.pause = false → s.pair.failed = true → s.mayTakeOver = true →
      ∃ t, exec .takeover s = .next t ∧ active t ∧ t.causePresent 0xF1 = true ∧ t.sys.dev = (if s.sys.dev = .run then .coast else s.sys.dev)) ∧
    (s.sys.role = .standby → s.fw.pause = false → s.pair.failed = true → s.mayTakeOver = false →
      ∃ t, exec .takeover s = .next t ∧ t.sys = s.sys ∧ t.pair.failed = false ∧ t.fld = s.fld) ∧
    (s.sys.role = .active → s.mustGiveWay = true → s.fw.pause = false → ∃ t, exec .roleDemote s = .next t ∧ t.sys.role = .standby ∧ t.sys.pins.active = false ∧
      PinsLow t ∧ t.sys.dev = s.sys.dev) ∧
    (s.sys.role = .active → s.rdBit 0x5000 7 0 = true → ∃ t, exec .partnerActiveRise s = .next t ∧ t.sys.pins.partnerActive = true ∧
      t.pair.demote = true ∧ t.sys.role = .active ∧ t.reg = s.reg ∧ t.fld = s.fld)) ∧
  (∀ s : State, s.up = true → s.paired = true →
    (s.sys.role = .standby → 8 ≤ s.pair.alignBad → ∃ t, exec .pairAlignLoss s = .next t ∧ t.rdBit 0x1200 5 2 = false ∧
      (t.tbs 0).stepPend = (s.tbs 0).stepPend + divRound (s.rdInt 0x1201 6 32) 256 ∧ t.pair.alignBad = 0 ∧ t.sys = s.sys ∧ t.fld = s.fld) ∧
    (s.sys.role = .standby → 64 ≤ s.pair.alignGood → ∃ t, exec .pairAlignSet s = .next t ∧ t.rdBit 0x1200 5 2 = true ∧ t.sys = s.sys ∧
      t.fld = s.fld ∧ t.pair = s.pair) ∧
    (8 ≤ s.pair.chkBad → ∃ t, exec .pairChkMismatch s = .next t ∧ t.causePresent 0xF4 = true ∧ t.rdBit 0x1001 5 8 = true ∧
      (s.sys.dev = .ready → t.sys.dev = .blocked) ∧ t.sys.role = s.sys.role))

/-- Tier 2. Time and digests of the group (R124, R125, R292, R294, R298): a time message of the leader on the better path sets TB1's offset,
positive for a TB1 that is ahead, a large one UNSYNC, and goes on with one hop more to the other lanes, across the trunk once; probes
measure a link; the first copy of a newer digest is kept, one that fails its length or check counts for its lane, a duplicate of the own
DEVID is flagged; the flags end after 64 ticks and a member after 3 without its digest. Where it rests on the model's choices, these are in
log entries 100, 101, 102 and 168. -/
def Obligations.GroupTimeAndDigests : Prop :=
  ∀ (s : State) (rge : Bool) (l : Fin 4) (tL a t1 t2 t3 t4 : BitVec 40) (corr : Int) (leader lgrp hops : Nat) (ref trunk : Bool) (link : Fin 4) (d : Digest)
    (m : Fin 512) (q : BitVec 16), s.up = true →
    let head (lane : Nat) : RidgeHdr := { hops := hops + 1, onRgw := lane == 1, src := leader, grp := lgrp, seq := q }
    let mine (lane : Nat) : RidgeHdr := { s.ridgeHdr with onRgw := lane == 1 }
    (s.grouped = true → leader ≠ s.devid → s.rdBit 0x5100 7 l = true →
      ∃ t, exec (.timeMessage ⟨l, true, q⟩ tL corr leader lgrp hops ref trunk a) s = .next t ∧
      (∀ o : Fin 4, o ≠ l → s.rdBit 0x5100 7 o = true → (o.val < 2 → hops + 1 < s.hopLimit) → (2 ≤ o.val → hops + 1 < 63) →
        (l.val < 2 → o.val < 2 ∨ trunk = false) →
        ∃ c, TxItem.ridge o (head o) (.time tL c leader lgrp ref (trunk || decide (2 ≤ l.val ∨ 2 ≤ o.val))) ∈ t.tx) ∧
      (s.timeUsed leader lgrp ref = true → s.pathBetter l hops = true →
        let off := tbDiff (tL + BitVec.ofInt 40 (corr + Tab.get 0 l.val s.grp.linkDelay)) a
        t.rd 0x1202 6 = ofSigned 32 (clampI (-2147483648) 2147483647 (-off)) ∧ t.grp.tb1Hops = hops ∧
        (s.led = true → 256000 < off.natAbs → t.rdBit 0x1200 5 4 = true)) ∧ t.sys = s.sys ∧ t.fld = s.fld) ∧
    (s.rdBit 0x1200 5 4 = true → 64 ≤ s.grp.unsyncGood → ∃ t, exec .unsyncClear s = .next t ∧ t.rdBit 0x1200 5 4 = false ∧ t.sys = s.sys) ∧
    (s.rdBit 0x5100 7 link = true →
      (∃ t x, exec (.linkProbeSend link) s = .next t ∧ TxItem.ridge link (mine link) (.probe 0 x 0 0) ∈ t.tx ∧ t.reg = s.reg) ∧
      (∃ t x, exec (.linkProbeRequest ⟨link, true, q⟩ t1 t2) s = .next t ∧ TxItem.ridge link (mine link) (.probe 1 t1 t2 x) ∈ t.tx ∧ t.reg = s.reg) ∧
      (∃ t, exec (.linkProbeReply ⟨link, true, q⟩ t1 t2 t3 t4) s = .next t ∧
        Tab.get 0 link.val t.grp.linkDelay = Int.fdiv (tbDiff t4 t1 - tbDiff t3 t2) 2 ∧ t.tx = s.tx ∧ t.reg = s.reg)) ∧
    (s.grouped = true → d.lenOk = true → d.crcOk = true → d.devid ≠ s.devid →
      (∀ o, (s.member d.devid).dig = some o → 0 < (d.seq - o.seq).toInt) →
      ∃ t, exec (.digestFrame rge d hops) s = .next t ∧ (t.member d.devid).dig = some d ∧ (t.member d.devid).absent = 0 ∧
        (t.goesOn rge hops = true →
          TxItem.ridge (linkOf (!rge)) { hops := hops + 1, onRgw := rge, src := d.devid, grp := d.grp, seq := d.seq } (.digest d) ∈ t.tx) ∧ t.fld = s.fld ∧ t.sys.dev = s.sys.dev) ∧
    (s.grouped = true → d.lenOk = false ∨ d.crcOk = false → ∃ t, exec (.digestFrame rge d hops) s = .next t ∧
      Tab.get 0 (linkOf rge) t.grp.laneFails = Tab.get 0 (linkOf rge) s.grp.laneFails + 1 ∧ t.grp.members = s.grp.members ∧ t.reg = s.reg) ∧
    (s.grouped = true → d.lenOk = true → d.crcOk = true → d.devid = s.devid → s.dupDigest d = true →
      ∃ t, exec (.digestFrame rge d hops) s = .next t ∧ t.rdBit 0x1001 5 11 = true ∧ t.causePresent 0xFD = true ∧ t.tx = s.tx) ∧
    (s.rdBit 0x1001 5 11 = true → 64 ≤ s.grp.dupTicks → ∃ t, exec .dupDevidClear s = .next t ∧ t.rdBit 0x1001 5 11 = false ∧ t.sys = s.sys) ∧
    ((s.member m).dig.isSome = true → 3 ≤ (s.member m).absent → ∃ t, exec (.memberAbsent m) s = .next t ∧ (t.member m).dig = none ∧
      t.fld = s.fld ∧ t.sys = s.sys)

/-- Tier 2. Proxy traffic and block requests (R291, R293, R299, R301, R302, R326, R347): a request for this device is executed under the
entry session's roles and answered, every frame goes on but at its originator, and what fails its tag or its length is counted; an answer
reaches the session that waits for it; a proxy session ends with its entry session or in time; a block request acts once per originator and
GBSEQ, and a gateway carries a system-wide one on. Where it rests on the model's choices, these are in log entries 18, 97, 98, 99, 166 and
189. -/
def Obligations.GroupRequests : Prop :=
  ∀ (s : State) (v : ProxyVia) (stag tag : BitVec 16) (roles : BitVec 8) (p : Pdu) (r : Reply) (n : Note) (j : Fin 8) (k : Fin 40) (i : Nat)
    (f : BlockReqFrame) (rge : Bool) (g leader hs hl : Nat) (present : List Nat),
    let here (orig dest : Nat) : Prop := s.proxyHeard = true ∧ orig ≠ s.devid ∧ dest = s.devid ∧ v.lenOk = true
    let taken (orig dest : Nat) : Prop := here orig dest ∧ s.fw.pause = false ∧ s.prxAccepts orig v.ctr v.key = true
    let onward (t : State) (orig kind : Nat) (ro : BitVec 8) (tg : BitVec 16) (re : Option Reply) (pd : Option Pdu) : Prop :=
      s.goesOn v.fromRge v.hops = true →
        TxItem.ridge (linkOf (!v.fromRge)) { hops := v.hops + 1, onRgw := v.fromRge, src := orig, grp := v.grp, seq := v.seq }
          (.proxy kind v.target v.entry stag ro tg v.seal re pd) ∈ t.tx
    let via : EthOut := s.ethOut (s.sess stag.toNat).onEs
    (s.proxyHeard = true → v.entry ≠ s.devid → v.target ≠ s.devid → v.lenOk = true →
      ∃ t, exec (.proxyRequest v.hop v.target v.entry stag roles tag p v.seal) s = .next t ∧ onward t v.entry 0 roles tag none (some p) ∧ t = { s with tx := t.tx } ∧
        (s.goesOn v.fromRge v.hops = false → t = s)) ∧
    (taken v.entry v.target → s.rdBit 0x1001 5 11 = false → s.prxFind v.entry stag = some i →
      (s.sess i).kept tag = none → ∃ t, exec (.proxyRequest v.hop v.target v.entry stag roles tag .heartbeat v.seal) s = .next t ∧
        (∀ o : Fin 2, s.rdBit 0x5100 7 o = true → TxItem.ridge o { s.ridgeHdr with onRgw := o.val == 1 }
          (.proxy 1 s.devid v.entry stag roles tag ⟨s.sealCtr + 1, s.fw.groupKey⟩ (some s.pduHeartbeat) none) ∈ t.tx) ∧ (t.member v.entry).lastPrxCtr = v.ctr ∧
        onward t v.entry 0 roles tag none (some .heartbeat) ∧ (t.sess i).kept tag = some s.pduHeartbeat ∧ t.reg = s.reg) ∧
    (here v.target v.entry → s.fw.pause = false → s.tagOk v.key = false → ∃ t, exec (.proxyReply v.hop v.ends stag tag r v.seal) s = .next t ∧ t.grp.sealFails = s.grp.sealFails + 1 ∧
      onward t v.target 1 0 tag (some r) none ∧ t.net = s.net) ∧
    (s.proxyHeard = true → v.target ≠ s.devid → v.lenOk = false → ∃ t, exec (.proxyReply v.hop v.ends stag tag r v.seal) s = .next t ∧
      Tab.get 0 (linkOf v.fromRge) t.grp.laneFails = Tab.get 0 (linkOf v.fromRge) s.grp.laneFails + 1 ∧ t.net = s.net ∧ t.tx = s.tx) ∧
    (taken v.target v.entry → stag.toNat < 8 → s.sessUp stag.toNat = true →
      ((s.sess stag.toNat).waiting.contains tag = true → ∃ t, exec (.proxyReply v.hop v.ends stag tag r v.seal) s = .next t ∧
        TxItem.reply via stag.toNat tag r ∈ t.tx ∧ (t.sess stag.toNat).waiting.contains tag = false ∧ t.reg = s.reg) ∧
      (∃ t, exec (.proxyNotification v.hop v.ends stag n v.seal) s = .next t ∧ TxItem.notify via stag.toNat n.id n.body ∈ t.tx ∧
        (t.member v.target).lastPrxCtr = v.ctr ∧ onward t v.target 2 0 (BitVec.ofNat 16 n.id) (some n.body) none ∧ t.reg = s.reg)) ∧
    (taken v.entry v.target → s.prxFind v.entry stag = some i →
      ∃ t, exec (.proxyClose v.hop v.ends stag v.seal) s = .next t ∧ t.sess i = Session.init ∧ onward t v.entry 3 0 0 none none ∧ t.fld = s.fld ∧ t.sys = s.sys) ∧
    (s.sessUp j.val = true → (s.sess j).waiting.contains tag = true → ∃ t, exec (.proxyAnswerTimeout j tag) s = .next t ∧
      TxItem.reply (s.ethOut (s.sess j).onEs) j tag (refuse 0xF) ∈ t.tx ∧ (t.sess j).waiting.contains tag = false ∧ t.reg = s.reg) ∧
    (8 ≤ k.val → (s.sess k).isOpen = true → ∃ t, exec (.proxySessionTimeout k) s = .next t ∧ t.sess k = Session.init ∧ t.sys = s.sys ∧ t.fld = s.fld) ∧
    (s.up = true → s.grouped = true → f.lenOk = true → f.origin ≠ s.devid → s.blkAccepts f = true → f.ogrp = s.rd 0x5100 1 → f.systemWide = false →
      ((s.member f.origin).lastGb ≠ some f.gbseq → ∃ t, exec (.groupBlockFrame rge f) s = .next t ∧ Waits t 0x83 (s.clk.tick + 1) 0 ∧
        Sticky t 0xFC ∧ (t.member f.origin).lastBlkCtr = f.ctr ∧ (t.member f.origin).lastGb = some f.gbseq ∧ t.fld = s.fld) ∧
      ((s.member f.origin).lastGb = some f.gbseq → ∃ t, exec (.groupBlockFrame rge f) s = .next t ∧ t.sys = s.sys ∧ t.reg = s.reg)) ∧
    (s.up = true → s.rdBit 0x5100 7 2 = true → f.lenOk = true → f.origin ≠ s.devid → s.blkAccepts f = true → f.ogrp ≠ s.rd 0x5100 1 → f.systemWide = true →
      (s.member f.origin).lastSb ≠ some f.gbseq → ∃ t, exec (.systemBlockFrame 2 f) s = .next t ∧ Waits t 0x83 (s.clk.tick + 1) 0 ∧ Sticky t 0xFC ∧
        (∀ o : Fin 4, o ≠ 2 → s.rdBit 0x5100 7 o = true → f.hops + 1 < 63 →
          TxItem.ridge o { blockHdr { f with hops := f.hops + 1 } with onRgw := o.val == 1 } (.block { f with hops := f.hops + 1 }) ∈ t.tx)) ∧
    (s.up = true → s.rdBit 0x5100 7 2 = true → ∃ t, exec (.trunkSummary false g leader hs hl present true) s = .next t ∧
      Tab.get [] g t.grp.summaries = leader :: hs :: hl :: present ∧ t.reg = s.reg ∧ t.sys = s.sys)

/-- Tier 2. Requests of a session (R315, R316, R318 to R322, R325, R326): an open session's request for this device is executed once and its
reply kept by tag, a repeated tag is answered from the reply kept; reads leave the state as it is; locks, yelms and subscriptions do what
their PDUs say. Where it rests on the model's choices, these are in log entries 18, 134 and 191. -/
def Obligations.SessionRequests : Prop :=
  ∀ (s : State) (i : Fin 8) (tag : BitVec 16) (target : Nat) (ri : List RItem) (ws : List WItem) (sc : Scope) (tick : BitVec 32) (n period : Nat),
    s.sessUp i.val = true → target = 0xFFFF ∨ target = s.devid → (s.sess i).waiting.contains tag = false →
    let answers (c : Instr) (u : State) (r : Reply) : Prop := exec c s = .next ((u.keepReply i tag r).sendReply i tag r)
    let via : EthOut := s.ethOut (s.sess i).onEs
    (∀ r, (s.sess i).kept tag = some r → exec (.write i tag target ws) s = .next (s.sendReply i tag r)) ∧
    ((s.sess i).kept tag = none →
      answers (.read i tag target ri) s (s.readReply .force ri) ∧ answers (.shadowRead i tag target ri) s (s.readReply .shadow ri) ∧
      answers (.descRead i tag target ri) s (s.readReply .desc ri) ∧ answers (.heartbeat i tag target) s s.pduHeartbeat ∧
      (itemBytes ws + 8 * ws.length ≤ 1012 → answers (.write i tag target ws) (s.writeItems (s.sess i) ws).1
        (writeReply (s.writeItems (s.sess i) ws).2)) ∧
      (scopeOk sc = true → (s.sess i).holds sc = false → s.lockHolder i sc = none →
        answers (.lock i tag target sc) (s.setSess i ((s.sess i).grant sc)) (refuse 0)) ∧
      (∀ j, scopeOk sc = true → (s.sess i).holds sc = false → s.lockHolder i sc = some j → answers (.lock i tag target sc) s ⟨7, j, []⟩) ∧
      (scopeOk sc = true → (s.sess i).holdsAs sc = true → answers (.unlock i tag target sc) (s.setSess i ((s.sess i).drop sc)) (refuse 0)) ∧
      (scopeOk sc = true → (s.sess i).yelm = none → (s.sess i).holds sc = true → ∃ t r, exec (.yelmOpen i tag target sc) s = .next t ∧
        r.status = 0 ∧ TxItem.reply via i tag r ∈ t.tx ∧ (t.sess i).yelm.any (fun y => y.items.isEmpty && decide (y.scope = sc ∧ y.id = r.arg)) = true ∧
        t.reg = s.reg) ∧
      (∀ y, (s.sess i).yelm = some y → ∃ t, exec (.yelmAdd i tag target ws) s = .next t ∧
        (t.sess i).yelm = some (s.addItems (s.sess i) y ws).1 ∧ t.reg = s.reg ∧ t.fld = s.fld) ∧
      (∀ y, (s.sess i).yelm = some y → s.activating = false → s.yelmWindow tick = true →
        (s.net.yelms.filter (fun z => z.sess == i.val && z.alive)).length < 4 → s.net.yelms.length < 16 → s.yelmCheck (s.sess i).roles y.items = none →
        ∃ t, exec (.yelmCommit i tag target tick) s = .next t ∧ (t.sess i).yelm = none ∧ t.net.yelms.length = s.net.yelms.length + 1 ∧
          (∃ z ∈ t.net.yelms, z.target = tick ∧ z.items = y.items ∧ z.sess = y.sess) ∧ TxItem.reply via i tag ⟨0x10, y.id, []⟩ ∈ t.tx ∧ t.reg.od = s.reg.od) ∧
      (∀ y, (s.sess i).yelm = some y → s.activating = false → s.yelmWindow tick = false →
        answers (.yelmCommit i tag target tick) s (refuse 0xB)) ∧
      (n ≤ 15 → 0 < period → period ≤ 65535 → 1000 * s.rd 0x6100 4 ≤ period * s.tNs → ri.length ≤ 32 → (s.sess i).subs.length < 16 → s.subsOpen < 64 →
        (s.sess i).subs.any (fun q => q.num == n) = false → 8 + (ri.map s.noteLen).foldl (· + ·) 0 ≤ 1012 →
        ∃ t, exec (.subscribeOpen i tag target n period ri) s = .next t ∧
          (t.sess i).subs = (s.sess i).subs ++ [⟨n, period, ri, s.clk.tick + 1, none⟩] ∧ t.reg = s.reg) ∧
      ((s.sess i).subs.any (fun q => q.num == n) = true → ∃ t, exec (.subscribeClose i tag target n) s = .next t ∧
        (t.sess i).subs = (s.sess i).subs.filter (fun q => q.num != n) ∧ t.reg = s.reg))

/-- Tier 2. Sessions and transfers (R311 to R314, R325 to R327, R348 to R350): a client that authenticates takes a free session with the
roles of its certificate, any other is refused with an alert and counted, a ninth with internal_error; a notification sends the values of
its boundary; a FILE transfer for this device opens where nothing refuses it, takes each segment once and judges an image by its header, its
CRC-32C and its digest, and an aborted or failed image leaves its slot EMPTY; a session that ends is free again. Where it rests on the
model's choices, these are in log entries 131, 133, 159 and 200. -/
def Obligations.SessionsAndTransfers : Prop :=
  ∀ (s : State) (i : Fin 8) (k : Fin 40) (u : Fin 16) (tag : BitVec 16) (v : HostVia) (addr port serial size seg : Nat) (roles : BitVec 8)
    (chain : ClientChain) (prov suite valid full : Bool) (bytes : List Byte) (q : Subscr) (file : FileRef) (crc : BitVec 32)
    (f : FileX) (n : BitVec 32 × List ItemRes),
    (s.portHeard v addr = true → s.clientOk roles prov chain suite valid full = true → s.endPeer addr port = s →
      ((s.sess i).isOpen = false → (∀ j : Nat, j < i.val → (s.sess j).isOpen = true) →
        ∃ t, exec (.dtlsHandshake v addr port roles serial prov chain suite valid full) s = .next t ∧ (t.sess i).isOpen = true ∧
          (t.sess i).roles = roles &&& 0x1F ∧ (t.sess i).serial = serial ∧ (t.sess i).onEs = (v.port == .es) ∧
          (∀ j, j ≠ i.val → t.sess j = s.sess j) ∧ t.sys = s.sys ∧ t.fld = s.fld) ∧
      ((∀ j : Nat, j < 8 → (s.sess j).isOpen = true) →
        ∃ t, exec (.dtlsHandshake v addr port roles serial prov chain suite valid full) s = .next t ∧
          TxItem.alert (s.ethOut (v.port == .es)) addr port .internalError ∈ t.tx ∧ t.net.sessions = s.net.sessions ∧ t.fld = s.fld)) ∧
    (s.portHeard v addr = true → s.clientOk roles prov chain suite valid full = false →
      ∃ t, exec (.dtlsHandshake v addr port roles serial prov chain suite valid full) s = .next t ∧
        TxItem.alert (s.ethOut (v.port == .es)) addr port .refused ∈ t.tx ∧ t.net.sessions = s.net.sessions ∧ t.fld = s.fld) ∧
    ((s.sess k).subs.find? (fun x => x.num == u.val) = some q → q.held = some n →
      ∃ t, exec (.subscriptionNotify k u true) s = .next t ∧
        (t.sess k).subs.find? (fun x => x.num == u.val) = some { q with held := none } ∧
        (s.sessUp k.val = true → k.val < 8 → s.derated = false → TxItem.notify (s.ethOut (s.sess k).onEs) k u ⟨0, n.1.toNat, n.2⟩ ∈ t.tx) ∧
        t.fld = s.fld ∧ t.sys = s.sys) ∧
    (s.sessUp i.val = true → (s.sess i).kept tag = none →
      let via : EthOut := s.ethOut (s.sess i).onEs
      let takes (c : Instr) (st arg : Nat) (p : State → Prop) : Prop := ∃ t, exec c s = .next t ∧ TxItem.reply via i tag ⟨st, arg, []⟩ ∈ t.tx ∧ p t
      (file.target ≠ 0xFFFF → file.target ≠ s.devid → takes (.fileAbort i ⟨tag, file⟩) 0xF 0 (fun t => t.reg = s.reg ∧ t.fw = s.fw ∧ t.fld = s.fld)) ∧
      (file.target = 0xFFFF ∨ file.target = s.devid →
        (s.fileRefusal (s.sess i) file.fileId true = 0 → takes (.fileOpen i tag file true size) 0 0 (fun t =>
          (t.sess i).file = some (s.fileNew file.fileId true size) ∧ t.reg = s.reg ∧ t.fld = s.fld)) ∧
        (s.fileRefusal (s.sess i) file.fileId true ≠ 0 → takes (.fileOpen i tag file true size) (s.fileRefusal (s.sess i) file.fileId true) 0
          (fun t => (t.sess i).file = (s.sess i).file ∧ t.fw = s.fw ∧ t.reg = s.reg)) ∧
        ((s.sess i).transfer file.fileId = some f →
          let g : FileX := { f with segs := Tab.set [] seg bytes f.segs }
          let h : ImgHdr := imgOf g.bytes
          (f.toDevice = true → f.id ≠ 1 → bytes.length ≤ 992 → Tab.get [] seg f.segs = [] → takes (.fileData i tag seg bytes file) 0 seg
            (fun t => (t.sess i).file = some g ∧ t.reg = s.reg ∧ t.fw = s.fw)) ∧
          (f.toDevice = true → f.id = 1 → f.hdr = none → bytes.length ≤ 992 → Tab.get [] seg f.segs = [] → 512 ≤ g.bytes.length →
            (s.hdrCheck h f.size = 0 → takes (.fileData i tag seg bytes file) 0 seg (fun t => (t.sess i).file = some { g with hdr := some h } ∧
              t.inactiveSlot = ⟨1, some h, g.bytes.drop 512⟩ ∧ t.rd 0x1403 1 = 0 ∧ t.fld = s.fld)) ∧
            (s.hdrCheck h f.size ≠ 0 → takes (.fileData i tag seg bytes file) 0x12 seg (fun t => (t.sess i).file = none ∧
              t.inactiveSlot = FwSlot.empty ∧ t.rd 0x1403 1 = s.hdrCheck h f.size ∧ t.fld = s.fld))) ∧
          (∀ r, f.id = 1 → f.hdr = some r → f.whole crc = true →
            (digestOk r (f.bytes.drop 512) = true → takes (.fileClose i tag file.target file.fileId crc) 0 0 (fun t =>
              t.inactiveSlot = ⟨2, some r, f.bytes.drop 512⟩ ∧ (t.sess i).file = none ∧ t.fld = s.fld)) ∧
            (digestOk r (f.bytes.drop 512) = false → takes (.fileClose i tag file.target file.fileId crc) 0x12 0 (fun t =>
              t.inactiveSlot = FwSlot.empty ∧ t.rd 0x1403 1 = 8 ∧ (t.sess i).file = none ∧ t.fld = s.fld))) ∧
          (f.id = 1 → f.hdr = none ∨ f.whole crc = false → takes (.fileClose i tag file.target file.fileId crc) 0x12 0 (fun t =>
            t.inactiveSlot = FwSlot.empty ∧ (t.sess i).file = none ∧ t.reg = s.reg ∧ t.fld = s.fld)) ∧
          takes (.fileAbort i ⟨tag, file⟩) 0 0 (fun t => (t.sess i).file = none ∧ (f.id = 1 → t.inactiveSlot = FwSlot.empty) ∧ t.reg = s.reg)))) ∧
    ((s.sess i).isOpen = true →
      (∃ t, exec (.sessionTimeout i) s = .next t ∧ t.sess i = Session.init ∧ t.sys = s.sys ∧ t.fld = s.fld ∧ t.cpu = s.cpu) ∧
      (s.sessUp i.val = true → ∃ t, exec (.sessionClose i) s = .next t ∧ t.sess i = Session.init ∧ (∀ j, j ≠ i.val → t.sess j = s.sess j) ∧
        t.sys = s.sys ∧ t.fld = s.fld))

/-- Tier 2. Network time (R118, R127 to R130, R308): HSR frames for others go on once, a Sync with its residence and the link's delay added;
a copy of a frame that has come is counted; PTP messages of the master steer TB3, and a port answers delay requests and measures its link; a
new master or none leaves TB3 on its last increment with PTP_LOCK clear. Where it rests on the model's choices, these are in log entries 68,
105, 106, 158 and 190. -/
def Obligations.NetworkTime : Prop :=
  ∀ (s : State) (e1 : Bool) (frame gm : Nat) (raw rx tx t4 : PtpStamp) (origin corr t2 t3 : Int) (x : PtpStamp) (ds : PtpDs)
    (h : HsrFrame) (src : Nat) (q : BitVec 16) (wrong : Bool),
    let red (b : HsrFrame) : RedFrame := ⟨src, q, wrong, b⟩
    let passed (b : HsrFrame) : State := s.redNote e1 false (red b)
    let free (t : State) : Prop := (s.tbMode 3 = 5 → t.rdBit 0x1204 7 3 = true) ∧ t.rdBit 0x1200 5 3 = false
    let res : Int := Int.fdiv ((s.txStamp e1 tx.tb3 - s.rxStamp (!e1) rx.tb3) * 65536) 1000
    (s.clocked = true → s.rd 0x1100 1 = 2 →
      (∃ t, exec (.hsrForward e1 true (red h)) s = .next t ∧ t.tx = s.tx ∧ t.clk = s.clk ∧ t.sys = s.sys ∧
        (s.redFind (red h) = none → h ≠ .supervision → t.reg = s.reg)) ∧
      (s.hsrRound e1 (red h) = true → exec (.hsrForward e1 false (red h)) s = .next s) ∧
      (s.hsrRound e1 (red h) = false →
        exec (.hsrForward e1 false (red (.plain frame))) s = .next ((passed (.plain frame)).send (.ethForward e1 (.plain frame))) ∧
        exec (.hsrForward e1 false (red (.sync frame false corr rx tx))) s = .next ((passed (.sync frame false corr rx tx)).send
          (.ethForward e1 (.sync frame false (corr + res + 65536 * (s.linkMean (!e1) : Int)) rx tx))) ∧
        ∃ t, exec (.hsrForward e1 false (red (.sync frame true corr rx tx))) s = .next t ∧
          TxItem.ethForward e1 (.sync frame true corr rx tx) ∈ t.tx ∧ t.reg = s.reg ∧
          ∀ q2, let f : RedFrame := ⟨src, q2, wrong, .followUp frame origin⟩
            t.hsrRound e1 f = false → ∃ u, exec (.hsrForward e1 false f) t = .next u ∧
              TxItem.ethForward e1 (.followUp frame (origin + res)) ∈ u.tx)) ∧
    (s.clocked = true → s.rd 0x1100 1 = 1 → ∃ t, exec (.hsrForward e1 true (red h)) s = .next t ∧ t.tx = s.tx ∧ t.sys = s.sys ∧
      ((s.redFind (red h)).isSome = true → s.rd 0x1101 3 + 1 < 2 ^ 32 → t.rd 0x1101 3 = s.rd 0x1101 3 + 1) ∧
      (wrong = true → s.rd 0x1101 6 + 1 < 2 ^ 32 → t.rd 0x1101 6 = s.rd 0x1101 6 + 1)) ∧
    (s.up = true → s.rd 0x1100 1 = 1 → ∃ t, exec .prpSupervisionSend s = .next t ∧
      TxItem.prpSupervision ⟨true, true, false, .prp s.net.redSeq⟩ ∈ t.tx ∧ t.net.redSeq = s.net.redSeq + 1 ∧ t.reg = s.reg) ∧
    (s.up = true → s.fw.pause = false →
      (gm ≠ s.rd 0x1208 8 → gm < 2 ^ 64 → ∃ t, exec (.grandmasterChange gm) s = .next t ∧ t.rd 0x1208 8 = gm ∧ t.clk.ptpChanging = true ∧ free t ∧ t.sys = s.sys) ∧
      (s.ptpOn e1 = true → s.ownBetter ds = true → ∃ t, exec (.ptpAnnounceReceive e1 (s.rd 0x1208 2) ds.gmid (ds.priority1, ds.priority2) ds.quality) s = .next t ∧ t.portState e1 = 6 ∧
        t.sys = s.sys ∧ t.fld = s.fld) ∧
      (s.ptpOn e1 = true → s.ownBetter ds = false → s.clk.ptpBest = none → s.ptpOn (!e1) = false → ds.gmid < 2 ^ 64 →
        ∃ t, exec (.ptpAnnounceReceive e1 (s.rd 0x1208 2) ds.gmid (ds.priority1, ds.priority2) ds.quality) s = .next t ∧ t.portState e1 = 9 ∧ t.clk.ptpBest = some ds ∧
          t.rd 0x1208 8 = ds.gmid) ∧
      (∃ t, exec .announceTimeout s = .next t ∧ t.clk.ptpBest = none ∧ t.clk.noMaster = true ∧ free t ∧
        (s.ptpOn e1 = true → t.portState e1 = if s.rd 0x1208 5 = 0 then 6 else 4)) ∧
      (s.ptpOn e1 = true → Tab.get none (ptpPort e1) s.clk.ptpReqAt = some x →
        ∃ t, exec (.pdelayRespReceive e1 t2 t3 t4.tb3 t4.tb0) s = .next t ∧ t.rd 0x1208 (10 + ptpPort e1) =
        (clampI 0 4294967295 (Int.fdiv (s.rxStamp e1 t4.tb3 - x.tb3 - 1000 * (t3 - t2)) 2000)).toNat ∧ t.sys = s.sys ∧ t.tx = s.tx) ∧
      (s.ptpOn e1 = true → ∃ t, exec .ptpMessageInterval s = .next t ∧ TxItem.pdelayReq e1 ∈ t.tx ∧ (s.portState e1 = 6 → TxItem.ptpAnnounce e1 ∈ t.tx) ∧
        (Tab.get none (ptpPort e1) t.clk.ptpReqAt).isSome = true ∧ t.reg = s.reg)) ∧
    (s.ptpHeard e1 (s.rd 0x1208 2) = true →
      (∃ t, exec (.ptpSyncReceive e1 (s.rd 0x1208 2) raw origin corr true) s = .next t ∧
        t.clk.ptpTwoStep = some ⟨s.rxStamp e1 raw.tb3 - corrPs corr, raw.tb0⟩ ∧ t.reg = s.reg) ∧
      (let off := Int.fdiv (s.rxStamp e1 raw.tb3 - 1000 * origin - corrPs corr - 1000 * (s.linkMean e1 : Int)) 1000
       ∃ t, exec (.ptpSyncReceive e1 (s.rd 0x1208 2) raw origin corr false) s = .next t ∧
         t.rd 0x1208 9 = ofSigned 32 (clampI (-2147483648) 2147483647 off) ∧
         (s.tbMode 3 = 5 → s.clk.ptpChanging = false → t.rdBit 0x1200 5 3 = decide (off.natAbs ≤ 100)) ∧ t.sys = s.sys) ∧
      (s.clk.ptpTwoStep = some x →
       let off := Int.fdiv (x.tb3 - 1000 * origin - corrPs corr - 1000 * (s.linkMean e1 : Int)) 1000
       ∃ t, exec (.ptpFollowUpReceive e1 (s.rd 0x1208 2) origin corr) s = .next t ∧ t.clk.ptpTwoStep = none ∧
         t.rd 0x1208 9 = ofSigned 32 (clampI (-2147483648) 2147483647 off) ∧ t.sys = s.sys)) ∧
    (s.clocked = true → s.ptpOn e1 = true → ∃ t, exec (.pdelayReqReceive e1 rx tx) s = .next t ∧ t.reg = s.reg ∧
      (if s.rd 0x1208 6 = 1 then TxItem.pdelayRespTwo e1 (s.rxStamp e1 rx.tb3) ∈ t.tx ∧ TxItem.pdelayRespFup e1 (s.txStamp e1 tx.tb3) ∈ t.tx
       else TxItem.pdelayResp e1 (s.txStamp e1 tx.tb3 - s.rxStamp e1 rx.tb3) ∈ t.tx))

/-- Tier 2. Bases, compare channels, references, PLLs and gates (R120, R131 to R137, R141, R142): each read of a base extends it; a channel
that reaches its target counts and, without repeat, is done; the ADPLL follows the best valid reference and enters holdover without one; the
fall-back clocks only after a loss and returns outside RUN and COAST; a gate follows its source. Where it rests on the model's choices,
these are in log entries 62, 186 and 204. -/
def Obligations.ClocksFollow : Prop :=
  ∀ (s : State) (c : Fin 8) (k : Fin 5) (m : Fin 8) (b : Bool), k.val ≠ 0 →
    (s.up = true → s.fw.pause = false → ∃ t, exec .tbExtend s = .next t ∧
      (∀ j : Nat, j < 4 → t.rd (0x1201 + j) 5 = (t.tbs j).epoch * 4294967296 + ((s.tbVis j).extractLsb' 8 32).toNat ∨ 4294967296 ≤ (t.tbs j).epoch) ∧
      t.sys = s.sys ∧ t.tx = s.tx) ∧
    (s.up = true → s.cmpDue c = true → s.rdBit (0x1240 + c) 1 12 = false → ∃ t, exec (.compareMatch c) s = .next t ∧
      (s.rd (0x1240 + c) 5 + 1 < 2 ^ 32 → t.rd (0x1240 + c) 5 = s.rd (0x1240 + c) 5 + 1) ∧ Tab.get none c.val t.clk.cmpTgt = none ∧
      (s.rdBit (0x1240 + c) 1 7 = true → ∃ pin w, TxItem.comparePulse c pin w ∈ t.tx) ∧ t.sys = s.sys) ∧
    (s.clocked = true →
      (s.refValid k = true → ∃ t, exec (.referenceInvalid k) s = .next t ∧ t.refValid k = false ∧
        (s.adpllRef = k.val → t.adpllRef = t.bestRef ∧ t.rdBit 0x1210 6 6 = (t.bestRef == 0)) ∧ t.sys = s.sys) ∧
      (s.refValid k = false → ∃ t, exec (.referenceValid k) s = .next t ∧ t.refValid k = true ∧
        (s.adpllRef = 0 → t.adpllRef = t.bestRef) ∧ t.sys = s.sys) ∧
      (s.rdBit 0x1210 5 0 = true → s.bestRef ≠ 0 → s.bestRef ≠ s.adpllRef → ∃ t, exec .revertiveSwitch s = .next t ∧ t.adpllRef = s.bestRef ∧ t.sys = s.sys) ∧
      (s.adpllRef ≠ 0 → ∃ t, exec .adpllLock s = .next t ∧ t.rdBit 0x1210 6 7 = true ∧ t.sys = s.sys) ∧
      (s.bestRef = 0 → ∃ t, exec .adpllHoldover s = .next t ∧ t.adpllRef = 0 ∧ t.rdBit 0x1210 6 6 = true ∧ t.rdBit 0x1200 5 7 = true ∧ t.sys = s.sys) ∧
      (s.rdBit 0x1210 6 7 = true → ∃ t, exec .adpllLockLoss s = .next t ∧ t.rdBit 0x1210 6 7 = false ∧
        (s.bestRef ≠ 0 → t.clk.adpllLoss = true) ∧ t.sys = s.sys) ∧
      (s.fallbackRef ≠ 0 → ∃ t, exec .fallbackPllLock s = .next t ∧ t.rdBit 0x1211 1 7 = true ∧ t.sys = s.sys) ∧
      (s.rdBit 0x1211 1 7 = true → ∃ t, exec .fallbackPllLockLoss s = .next t ∧ t.rdBit 0x1211 1 7 = false ∧
        (s.onFallback = true → t.rdBit 0x1200 5 0 = false ∧ ∀ j : Nat, j < 8 → t.gateIs false j = false) ∧ t.sys = s.sys) ∧
      (gateThere b m = true → s.outSource b m = false → ∃ t, exec (.outputGateClose b m) s = .next t ∧ t.gateIs b m = false ∧ t.sys = s.sys) ∧
      (gateThere b m = true → s.outEn b m = true → s.outSource b m = true → s.outLong = true → ∃ t, exec (.outputGateOpen b m) s = .next t ∧ t.gateIs b m = true ∧
        t.sys = s.sys)) ∧
    (s.up = true → s.onFallback = true → s.running = false → s.rdBit 0x1210 6 7 = true → ∃ t, exec .fallbackReturn s = .next t ∧ t.onFallback = false ∧
      t.clk.adpllLoss = false ∧ t.sys = s.sys)

/-- Tier 2. The analogue front end, the observers and the background passes (R221 to R223, R239 to R242, R328, R335, R342, R343, R389): the
third disagreement of a pair in a row is counted, raises its source and begins arbitration; slices are calibrated in turn, one that fails is
replaced by the spare for good; an observer's window stands in its entries; the stores and PD0's counts go into MRAM while it may be
written; a pass records its duration, and one that overruns is counted; a narrow eye raises its lane's source. Where it rests on the model's
choices, these are in log entries 87, 108, 110, 163, 164 and 198. -/
def Obligations.FrontEndAndBackground : Prop :=
  (∀ (s : State) (k : Fin 4) (ev od : List (Option Int)) (a b : Int) (sp : Option Int) (ok : Bool) (off gain : Int) (c : Fin 192)
    (ticks cap esr von conf : Nat) (tj : Int) (f0 f1 f2 : Bool) (h : Fin 64),
    let cal := s.fld.cal
    let n := Nat.min ticks (s.clk.tick - (s.cell c).obsFrom).toNat
    (s.rdBit 0x2700 1 0 = true → s.rd (0x2709 + k) 1 ≠ 0xFF → (s.cpair k).arb = false → (s.cpair k).invalid = true → s.rd (0x2709 + k) 5 ≠ 5 →
      ∃ t, exec (.adcRound k ev od sp) s = .next t ∧ (t.cpair k).invalid = false ∧ (t.cpair k).dis = 0 ∧ t.rd (0x2709 + k) 5 = s.rd (0x2709 + k) 5 ∧
        t.sys = s.sys) ∧
    (s.rdBit 0x2700 1 0 = true → s.rd (0x2709 + k) 1 ≠ 0xFF → (s.cpair k).arb = false → (s.cpair k).invalid = false →
      s.rd (0x2709 + k) 5 = 0 →
      let code (j : Nat) (v : Int) : Int := s.adcCode (s.rd (0x2709 + k) 1) (s.sliceOf (2 * k.val + j)) v
      let differ := s.rd (0x2709 + k) 2 < (code 0 a - code 1 b).natAbs
      (¬ differ → ∃ t, exec (.adcRound k (some a :: ev) (some b :: od) sp) s = .next t ∧ t.rd (0x2709 + k) 5 = 0 ∧ (t.cpair k).dis = 0 ∧ t.sys = s.sys ∧
        t.tx = s.tx) ∧
      (differ → (s.cpair k).dis < 2 → ∃ t, exec (.adcRound k (some a :: ev) (some b :: od) sp) s = .next t ∧ t.rd (0x2709 + k) 5 = 1 ∧
        (t.cpair k).dis = (s.cpair k).dis + 1 ∧ t.sys = s.sys) ∧
      (differ → 2 ≤ (s.cpair k).dis → s.rdBit 0x2700 1 3 = false → ∃ t, exec (.adcRound k (some a :: ev) (some b :: od) sp) s = .next t ∧
        t.rd (0x2709 + k) 5 = 2 ∧ (t.cpair k).arb = true ∧ (t.cpair k).invalid = true ∧ t.causePresent (0xC0 + k) = true ∧ t.sys = s.sys)) ∧
    (s.calRuns = true →
      (cal.phase = .idle → ∃ t, exec (.adcCalibration false ok off gain) s = .next t ∧ t.fld.cal.next = (cal.next + 1) % 9 ∧ t.fld.cal.slice = cal.next ∧
        t.fld.cal.phase = (if cal.next = 8 then .out else .stepIn) ∧ t.sys = s.sys ∧ t.tx = s.tx) ∧
      (cal.phase = .out → sliceFailed true off gain = false → ∃ t, exec (.adcCalibration true true off gain) s = .next t ∧
        Tab.get none cal.slice t.fld.slices = some (off, gain) ∧ t.fld.cal = { cal with phase := if cal.slice = 8 then .idle else .stepBack } ∧
        bitsN (t.rd 0x2700 1) 11 8 = 15 ∧ t.sys = s.sys) ∧
      (cal.phase = .out → sliceFailed true off gain = true → cal.slice < 8 → ∃ t, exec (.adcCalibration true true off gain) s = .next t ∧
        bitsN (t.rd 0x2700 1) 7 4 = cal.slice ∧ t.rdBit 0x2700 1 2 = true ∧ t.rdBit 0x2700 1 3 = true ∧
        t.rdBit 0x2700 1 (12 + cal.slice) = true ∧ t.causePresent 0xC4 = true ∧ t.fld.cal.phase = .idle ∧ t.sys = s.sys)) ∧
    (s.rdBit 0x2700 1 0 = true → s.rd (0x2709 + k) 1 = 0xFF → cal.phase = .stepIn → cal.slice < 8 → cal.slice / 2 = k.val →
      ∃ t, exec (.adcRound k ev od sp) s = .next t ∧ t.fld.cal = { cal with phase := .out } ∧ bitsN (t.rd 0x2700 1) 7 4 = cal.slice ∧
        bitsN (t.rd 0x2700 1) 11 8 = cal.slice ∧ t.sys = s.sys) ∧
    (s.coresFree = true → s.derated = false →
      (s.cellType c = 0 ∨ s.strEn (s.cellStr c) = false → ∃ t, exec (.observerUpdate c ticks cap esr von conf tj f0 f1 f2 [h]) s = .next t ∧
        t.rd (0x6A00 + c) 9 = 0 ∧ (∀ sub : Nat, sub < 9 → t.rd (0x6A00 + c) sub = s.rd (0x6A00 + c) sub) ∧ t.saf = s.saf) ∧
      (s.cellType c ≠ 0 → s.strEn (s.cellStr c) = true → ∃ t, exec (.observerUpdate c ticks cap esr von conf tj f0 f1 f2 [h]) s = .next t ∧
        t.rd (0x6A00 + c) 4 = von % 2 ^ 32 ∧ t.rd (0x6A00 + c) 9 = n % 2 ^ 32 ∧
        (1000 ≤ n → t.rd (0x6A00 + c) 1 = cap % 2 ^ 32 ∧ t.rd (0x6A00 + c) 3 = esr % 2 ^ 32) ∧
        (n < 1000 → t.rd (0x6A00 + c) 1 = s.rd (0x6A00 + c) 1 ∧ t.rd (0x6A00 + c) 3 = s.rd (0x6A00 + c) 3) ∧
        t.rd (0x6A00 + c) 10 = bitIf f0 0 + bitIf f1 1 + bitIf f2 2 ∧ (s.rd (0x6A00 + c) 8 < 0xFFFFFFFF → t.rd (0x6A00 + c) 8 = s.rd (0x6A00 + c) 8 + 1) ∧
        t.rd (0x6A00 + c) 7 = rainBin (s.rd (0x6A00 + c) 7) h % 2 ^ 2048 ∧
        t.fld = { s.fld with cells := t.fld.cells } ∧ (t.cell c).obsFrom = s.clk.tick ∧ t.sys = s.sys))) ∧
  (∀ (s : State) (ms n minutes h v : Nat) (sf4 : Bool) (l : Fin 56) (e : EyeRead),
    (s.coresFree = true → s.mramLock = false → ∃ t, exec .rainflowSave s = .next t ∧ t.evr.rainDue = false ∧
      t.evr.copy1 = ({ s with evr.rainDue := true } : State).saveUnit ∧ t.evr.copy1.ok = true ∧ (s.oldCopy = false → t.evr.copy2 = t.evr.copy1) ∧ t.reg = s.reg ∧ t.fld = s.fld) ∧
    (s.coresFree = true → s.mramLock = true → ∃ t, exec .rainflowSave s = .next t ∧ t.evr.rainDue = true ∧ t.evr.copy1 = s.evr.copy1 ∧ t.evr.copy2 = s.evr.copy2) ∧
    (s.mramLock = false → exec .aonSave s = .next { s with evr.aonSaved := (s.evr.pcc, s.evr.opTime) }) ∧
    (s.mramLock = true → exec .aonSave s = .next s ∧ exec .repeatFlush s = .next s) ∧
    (s.up = true → s.mramLock = false → ∃ t, exec .repeatFlush s = .next t ∧ t.evr.keepFirst = saveReps s.evr.keepFirst ∧
      t.evr.circ = saveReps s.evr.circ ∧ t.reg = s.reg ∧ t.fld = s.fld) ∧
    (s.scrubOn = true → ∃ t, exec (.scrubPass ms n sf4) s = .next t ∧ t.rd 0x6080 1 = Nat.min 0xFFFF ms ∧
      (s.rd 0x6080 2 + n < 2 ^ 32 → t.rd 0x6080 2 = s.rd 0x6080 2 + n) ∧
      (s.rd 0x6080 3 + 1 < 2 ^ 32 → t.rd 0x6080 3 = s.rd 0x6080 3 + (if 400 < ms ∨ (sf4 = true ∧ 200 < ms) then 1 else 0)) ∧ t.sys = s.sys) ∧
    (s.scrubOn = true → s.mramLock = false → ∃ t, exec (.mramRefresh minutes) s = .next t ∧ t.rd 0x6080 4 = s.evr.opTime % 2 ^ 64 ∧
      (s.rd 0x6080 3 + 1 < 2 ^ 32 → t.rd 0x6080 3 = s.rd 0x6080 3 + (if 20 < minutes then 1 else 0)) ∧ t.sys = s.sys) ∧
    (s.coresFree = true → s.derated = false → e.wide = h → ∃ t, exec (.eyeMonitor l e v) s = .next t ∧
      t.rd 0x6090 (l + 1) = 256 * Nat.min 255 h + Nat.min 255 v ∧
      (eyeNarrow h v = true → l.val < 54 → t.causePresent (s.laneSource l) = true) ∧ t.sys = s.sys ∧ t.fld.slots = s.fld.slots))

/-- Tier 2. Die temperatures and the backup store (R377, R386 to R389): the readings stand in their entries with the highest as the die
temperature; three readings in a row set a level and three below the release threshold clear them; a shutdown gates, enters SAFE and takes
the power off; MRAM is written again once every sensor is back in its range; the charge temperature has its bits. Where it rests on the
model's choices, these are in log entries 112 and 113. -/
def Obligations.TemperaturesAct : Prop :=
  ∀ (s : State) (temps : List Int) (st : Straps) (temp : Int),
    (s.railsUp = true → s.up = true → ∃ t, exec (.tempRead temps) s = .next t ∧
      (∀ i : Nat, i < 10 → t.rd 0x1331 (i + 1) = ofSigned 16 (temps.getD i 0)) ∧ t.rdInt 0x1330 1 16 = hottestOf ((List.range 10).map (fun i => t.rdInt 0x1331 (i + 1) 16)) ∧
      t.sys = s.sys ∧ t.fld = s.fld) ∧
    (s.up = true →
      (3 ≤ s.pw.thWarn → s.rdBit 0x1330 2 0 = false → ∃ t, exec .thermalWarn s = .next t ∧ t.rdBit 0x1330 2 0 = true ∧ t.causePresent 0xE6 = true ∧ t.sys = s.sys) ∧
      (3 ≤ s.pw.thDerate → s.derated = false → ∃ t, exec .thermalDerate s = .next t ∧ t.derated = true ∧ Sticky t 0xE6 ∧ t.sys = s.sys) ∧
      (3 ≤ s.pw.thRel → s.rdBit 0x1330 2 0 = true ∨ s.derated = true → ∃ t, exec .thermalRelease s = .next t ∧ t.derated = false ∧
        t.rdBit 0x1330 2 0 = false ∧ t.sys = s.sys) ∧
      (CanAct s → s.tooHot = true → (∀ d ∈ s.sys.due, d.kind ≠ 0x84) → ∃ t, exec .thermalShutdown s = .next t ∧ InSafe t ∧
        t.sys.pins.rstoutN = false ∧ Waits t 0x84 (s.clk.tick + 2) 0 ∧ (s.sys.role ≠ .active → PinsLow t ∧ BlockStands t 8))) ∧
    (s.pw.thermalOff = true → s.rdInt 0x1331 9 16 < 16 * (s.rd 0x1330 7 : Int) → ∃ t, exec (.thermalRestart st) s = .next t ∧ t.sys.dev = .boot ∧
      t.pw.bootCause = 5 ∧ t.pw.thermalOff = false ∧ t.sys.straps = st) ∧
    (s.mramLock = true → (∀ i : Nat, i < 10 → -368 ≤ s.rdInt 0x1331 (i + 1) 16 ∧ s.rdInt 0x1331 (i + 1) 16 ≤ 1968) →
      ∃ t, exec .mramUnlock s = .next t ∧ t.mramLock = false ∧ t.sys = s.sys ∧ t.fld = s.fld) ∧
    (s.railsUp = true →
      (-640 ≤ temp → temp ≤ 2000 → ∃ t, exec (.ntcRead temp) s = .next t ∧ t.rdInt 0x1300 7 16 = temp ∧ t.rdBit 0x1300 1 8 = false ∧
        (temp < 0 ∨ 720 < temp → t.rdBit 0x1300 1 7 = true) ∧ (32 ≤ temp → temp ≤ 688 → t.rdBit 0x1300 1 7 = false) ∧ t.fld = s.fld) ∧
      (temp < -640 ∨ 2000 < temp → ∃ t, exec (.ntcRead temp) s = .next t ∧ t.rd 0x1300 7 = 0x8000 ∧ t.rdBit 0x1300 1 8 = true ∧ t.fld = s.fld))

/-- Tier 2. Supplies and SLEEP (R371 to R376, R378, R379, R389): the rails stand in their entries with RAIL_WARN, PD0 moves between its
supplies, a qualified fall of PGOOD_MAIN goes to backup, a loss of both gates and enters SAFE, the end of the hold-up time asks for a block;
an accepted sleep request ends the sessions and puts the device to sleep, from which a pin or the timer boots it anew. Where it rests on the
model's choices, these are in log entries 86, 114 and 116. -/
def Obligations.SuppliesAndSleep : Prop :=
  ∀ (s : State) (mv : List Nat) (v low high : Nat) (st : Straps),
    (s.railsUp = true → s.sys.dev ≠ .sleep → s.pw.thermalOff = false → ∃ t, exec (.railVoltageRefresh mv) s = .next t ∧
      (∀ i : Nat, i < 11 → t.rd 0x1301 (i + 1) = Nat.min 0xFFFF (mv.getD i 0)) ∧
      t.rdBit 0x1300 1 9 = (List.range 11).any (fun i => railOut i (mv.getD i 0)) ∧ t.sys = s.sys ∧ t.fld = s.fld) ∧
    (3000 ≤ v → s.pw.aonB = false → ∃ t, exec (.aonSwitch v) s = .next t ∧ t.pw.aonB = true ∧ t.rdBit 0x1300 1 3 = true ∧ t.sys = s.sys) ∧
    (s.pw.aonB = true → ∃ t, exec .aonReturn s = .next t ∧ t.pw.aonB = false ∧ t.rdBit 0x1300 1 3 = false ∧ t.sys = s.sys) ∧
    (low < 2000 → exec (.pgoodMainFall low) s = .next s) ∧
    (2000 ≤ low → s.onBackup = false → s.sys.pins.pgoodBkup = true → ∃ t, exec (.pgoodMainFall low) s = .next t ∧ t.onBackup = true ∧
      t.rdBit 0x1300 1 4 = true ∧ t.sys.pins.pselBkup = true ∧ t.sys.pins.pselMain = false ∧ t.causePresent 0xE7 = true ∧ t.sys.dev = s.sys.dev) ∧
    (CanAct s → ∃ t, exec .supplyLoss s = .next t ∧ InSafe t ∧ PinsLow t ∧ BlockStands t 8) ∧
    (s.onBackup = true → s.rdBit 0x1300 1 4 = true → s.up = true → s.sys.role ≠ .active ∨ s.partnerAble = false →
      ∃ t, exec .holdupExpiry s = .next t ∧ t.rdBit 0x1300 1 4 = false ∧ t.rdBit 0x1300 1 5 = true ∧ Waits t 0x83 (s.clk.tick + 1) 0 ∧ t.sys.dev = s.sys.dev) ∧
    (s.onBackup = true → s.rd 0x1300 3 ≤ high → ∃ t, exec (.mainReturn high) s = .next t ∧ t.onBackup = false ∧ t.sys.pins.pselMain = true ∧
      t.sys.pins.pselBkup = false ∧ t.sys.dev = s.sys.dev) ∧
    (s.sys.dev = .blocked → s.sleepDue = true → ∃ t, exec .sleepEntry s = .next t ∧ t.sys.dev = .sleep ∧ PinsLow t ∧ t.sys.pins.safeN = false ∧
      t.pw.domains = 0 ∧ t.sys.due = [] ∧ ∀ i : Nat, i < 40 → (t.sess i).isOpen = false) ∧
    (s.sys.dev = .sleep → 1000 ≤ high → ∃ t, exec (.wakePin high st) s = .next t ∧ t.sys.dev = .boot ∧ t.pw.bootCause = 4 ∧ t.sys.straps = st) ∧
    (s.sys.dev = .sleep → 0 < s.rd 0x1310 1 → ∃ t, exec (.wakeTimer st) s = .next t ∧ t.sys.dev = .boot ∧ t.pw.bootCause = 4 ∧
      t.evr.opTime = s.evr.opTime + 1000000 * s.rd 0x1310 1 ∧ t.rd 0x1310 2 = Nat.min 0xFFFFFFFF (s.rd 0x1310 1))

/-- Tier 2. Resets, the watchdog and BOOT (R254, R258, R273, R298, R328, R363, R364, R366, R369, R370, R380, R382 to R385): a rail below its
threshold, a watchdog expiry or a service before every core has marked itself alive asserts the internal reset with every local pin low; its
end starts a cold boot with its cause and the straps sampled; a slot that passes its checks starts; at the end of BOOT tick 0 begins at the
boundary given, in BLOCKED where the safety set is confirmed, else in COMMISSION, or in SAFE where BIST or the check of the working copy has
failed. Where it rests on the model's choices, these are in log entries 57, 58, 59, 167, 193, 194 and 201. -/
def Obligations.ResetsAndBoot : Prop :=
  (∀ (s : State) (rail : Fin 11) (mv low : Nat) (st : Straps) (a b c : Bool),
    let held (t : State) (cause : Nat) : Prop := t.sys.intReset = true ∧ t.sys.dev = .boot ∧ t.pw.bootCause = cause ∧ PinsLow t ∧
      t.cpu.csm = [] ∧ t.fld.nodes = s.fld.nodes ∧ t.evr.pcc = s.evr.pcc
    let boots (t : State) (cause : Nat) : Prop := t.sys.intReset = false ∧ t.sys.dev = .boot ∧ t.pw.bootCause = cause ∧ t.sys.straps = st ∧
      t.evr.pcc = Nat.min 0xFFFFFFFF (s.evr.pcc + 1) ∧ t.clk.tick = 0 ∧ PinsLow t ∧ t.fw.lifecycle = s.fw.lifecycle
    (railLow rail mv = true → rail.val < 9 → s.sys.dev ≠ .sleep → ∃ t, exec (.railUndervoltage rail mv) s = .next t ∧ held t 6) ∧
    (s.sys.intReset = true → s.pw.wdPending = false → s.pw.bootCause = 6 → ∃ t, exec (.powerOn st) s = .next t ∧ boots t 6) ∧
    (∃ t, exec .resetNLow s = .next t ∧ PinsLow t ∧ (∀ n : Nat, n < 12 → (t.loc n).gReset = true) ∧ t.sys.dev = s.sys.dev ∧ t.reg = s.reg) ∧
    (low < 10 → ∃ t, exec (.resetNRise low st) s = .next t ∧ (s.rd 0x1320 4 + 1 < 2 ^ 32 → t.rd 0x1320 4 = s.rd 0x1320 4 + 1) ∧ t.sys.dev = s.sys.dev ∧
      t.clk = s.clk) ∧
    (10 ≤ low → low < 30000000 → ∃ t, exec (.resetNRise low st) s = .next t ∧ boots t 1) ∧
    (30000000 ≤ low → ∃ t, exec (.resetNRise low st) s = .next t ∧ boots t 2 ∧ t.rd 0x1320 3 = Nat.min 0xFFFFFFFF (low / 1000000)) ∧
    (s.watchdogOn = true → exec (.watchdogService true true true) s = .next s ∧
      ((a && b && c) = false → ∃ t, exec (.watchdogService a b c) s = .next t ∧ held t 3 ∧ t.pw.wdPending = true) ∧
      (∃ t, exec .watchdogExpiry s = .next t ∧ held t 3 ∧ t.pw.wdPending = true)) ∧
    (s.pw.wdPending = true → s.sys.intReset = true → ∃ t, exec (.watchdogResetEnd st) s = .next t ∧ boots t 3) ∧
    (s.sys.intReset = false → s.pw.thermalOff = false → s.sys.dev ≠ .sleep → s.sys.pins.resetN = true →
      exec .rstoutNRelease s = .next { s with sys.pins.rstoutN := true })) ∧
  (∀ (s : State) (hA hB : SlotRead) (r1 r2 ok : Bool) (h : ImgHdr) (pay : List Byte) (cert : Option DebugCert) (bt : BitVec 16) (bad : List (BitVec 32)) (c : BootChecks) (tb0 : BitVec 40),
    (s.sys.dev = .boot → s.sys.intReset = false →
      (∃ t, exec (.bistComplete ok) s = .next t ∧ t = { s with sys.bistOk := ok }) ∧
      (s.sys.imgStarted = false → ∀ b, s.bootNamed r1 r2 = some b →
        let u : State := { s with fw.runB := b }
        let rd (c : Bool) : SlotRead := if c then hB else hA
        (u.slotStarts u.runSlot (rd b) = true → exec (.slathImageStart hA hB r1 r2) s = .next { u with sys.imgStarted := true }) ∧
        (u.slotStarts u.runSlot (rd b) = false →
          (u.inactiveSlot.status = 6 → u.slotStarts u.inactiveSlot (rd (!b)) = true → ∃ t, exec (.slathImageStart hA hB r1 r2) s = .next t ∧
            t.sys.imgStarted = true ∧ t.fw.runB = (!b) ∧ t.runSlot.status = 3 ∧ t.inactiveSlot.status = 7 ∧ t.fw.fwFallback = true ∧ t.rd 0x1410 2 = 6) ∧
          (u.inactiveSlot.status ∉ [5, 6] → ∃ t, exec (.slathImageStart hA hB r1 r2) s = .next t ∧ t.fw.romDone = true ∧ t.sys = s.sys ∧
            t.runSlot.status = 7 ∧ t.reg = s.reg))) ∧
      (s.sys.imgStarted = false → s.bootNamed r1 r2 = none → exec (.slathImageStart hA hB r1 r2) s = .next { s with fw.romDone := true }) ∧
      (s.sys.imgStarted = false → s.fw.romDone = true → s.sys.straps.bootsel = true → s.fw.lifecycle ≤ 1 → s.hdrStart h = 0 →
        digestOk h pay = true → gcmOk h pay = true →
        ∃ t, exec (.jtagImageLoad h pay cert) s = .next t ∧ t.fw.slotA = ⟨3, some h, pay⟩ ∧ t.fw.runB = false ∧ t.sys.imgStarted = true ∧ t.reg = s.reg) ∧
      (s.sys.imgStarted = true → s.sys.bistOk = true → c.workOk = true → s.saf.bootSf5 = 0 → s.saf.bootOcc = [] → s.sys.pins.trip = 0 → s.sys.pins.flt = 0 →
        ∃ t, exec (.bootEnd bt bad c tb0) s = .next t ∧ t.clk.tick = 0 ∧ t.clk.bnd = tb0 ∧
        t.sys.role = (if t.paired then .standby else .solo) ∧ t.sys.dev = (if t.confirmed then .blocked else .commission) ∧ t.grp.boottag = bt ∧
        t.sys.pins.safeN = true ∧ t.rd 0x1320 2 = s.pw.bootCause % 256 ∧ ∀ n : Nat, n < 12 → (t.loc n).gReset = false) ∧
      (s.sys.imgStarted = true → s.sys.bistOk = false ∨ c.workOk = false → s.fw.pause = false →
        ∃ t, exec (.bootEnd bt bad c tb0) s = .next t ∧ InSafe t ∧ PinsLow t)) ∧
    (s.debugState = true → s.pw.thermalOff = false → s.fw.lifecycle ≤ 1 → ∃ t, exec (.jtagDebugOpen cert) s = .next t ∧ t.fw.debugOpen = true ∧
      t.sys = s.sys ∧ t.fld = s.fld) ∧
    (s.debugState = true → s.pw.thermalOff = false → 2 ≤ s.fw.lifecycle → cert = none → ∃ t, exec (.jtagDebugOpen cert) s = .next t ∧ t.fw = s.fw ∧ t.sys = s.sys))

/-- Tier 2. Activation and confirmation (R352 to R354, R356, R358, R361): a sound load waits for its pause, a bad one makes the slot
INVALID; the pause ends the sessions; the new runtime runs from the other slot with its confirm window open; the health checks confirm on
their own, and a window that ends without confirmation falls back to the other slot. Where it rests on the model's choices, these are in log
entries 66, 123, 169 and 203. -/
def Obligations.ActivationRuns : Prop :=
  ∀ (s : State) (cores stores started migrated : Bool),
    (s.fw.loading = true → s.fw.loaded = false → s.up = true →
      (s.loads = true → exec (.loadComplete true) s = .next { s with fw.loaded := true }) ∧
      ∀ ok : Bool, (ok && s.loads) = false → ∃ t, exec (.loadComplete ok) s = .next t ∧ t.fw.loading = false ∧ t.inactiveSlot.status = 7 ∧ t.rd 0x1410 2 = 0x16 ∧ t.sys = s.sys ∧ t.fld = s.fld) ∧
    (s.fw.loading = true → s.fw.loaded = true → s.up = true → ∃ t, exec .activationPauseBegin s = .next t ∧ t.fw.pause = true ∧ t.fw.fbPause = false ∧
      t.fw.loading = false ∧ t.fw.pauseTick = s.clk.tick ∧ t.rd 0x1410 2 = 2 ∧ (∀ i : Nat, i < 40 → (t.sess i).isOpen = false) ∧ t.sys = s.sys) ∧
    (s.fw.pause = true → s.fw.fbPause = false → s.startsOk started migrated = true → ∃ t, exec (.runtimeRestart started migrated) s = .next t ∧
      t.fw.pause = false ∧ t.fw.confirming = true ∧ t.fw.runB = (!s.fw.runB) ∧ t.runSlot.status = 4 ∧ t.inactiveSlot.status = 5 ∧
      t.rd 0x1410 2 = 3 ∧ t.clk.challenged = true ∧ t.clk.tick = s.clk.tick) ∧
    (s.fw.confirming = true → s.fw.pause = false → s.up = true → ∃ t, exec (.healthAutoConfirm ⟨cores, stores⟩) s = .next t ∧
      t.rd 0x1410 7 = s.healthBits cores stores ∧ t.fw.confirmed = (s.fw.confirmed || ((s.healthBits cores stores).testBit 7 && s.rd 0x1410 5 == 0 && s.inWindow)) ∧
      t.sys = s.sys ∧ t.fld = s.fld) ∧
    (s.fw.confirming = true → s.fw.confirmed = false → s.fw.pause = false → s.up = true →
      (∀ i : Nat, i < 40 → (s.sess i).file.all (fun f => f.id != 1) = true) → ∃ t, exec .confirmWindowExpiry s = .next t ∧
      t.fw.runB = (!s.fw.runB) ∧ t.fw.confirming = false ∧ t.fw.pause = true ∧ t.fw.fbPause = true ∧ t.inactiveSlot.status = 7 ∧ t.runSlot.status = 3 ∧
      Sticky t 0xE9 ∧ t.clk.tick = s.clk.tick)

/-- Tier 2. A node's ticks, headers and records (R84, R89 to R99, R107): it samples and answers where it has TB0 and a boundary; it powers
up in N-OFF, or in N-BYPASS with its cells closed; a Sync of its source end steers it, and missing ones move the source and end the lock; an
acceptable record is taken for its boundary and a late one counts. It passes every frame on, what it holds first. A node without power does
nothing. Where it rests on the model's choices, these are in log entries 46, 146, 147, 148, 151 and 179. -/
def Obligations.NodeTicksAndRecords : Prop :=
  ∀ (s : State) (n : Fin 768) (meas tj : List Int) (la lb : Bool) (i : NodeIdent) (cl : BitVec 2) (fb : Bool) (f : SyncFrame) (lt ar : BitVec 40)
    (fwd : Nat) (h : WaleHdr) (r : NodeRec),
    let x := s.node n
    let only (t : State) : Prop := (∀ m, m ≠ n.val → t.node m = s.node m) ∧ t.sys = s.sys ∧ t.reg = s.reg
    (∃ t, exec (.nodePowerUp n i cl) s = .next t ∧ (t.node n).powered = true ∧ (t.node n).ident = some i ∧ only t ∧ t.tx = s.tx ∧
      (t.node n).ns = (if (cl.getLsbD 0 && (cl.getLsbD 1 || decide (i.cells ≤ 1))) = true then .bypass else .off)) ∧
    (x.powered = false → exec (.nodeSample n meas tj la lb) s = .next s ∧ exec (.nodeSyncReceive n fb f lt fwd true) s = .next s ∧
      exec (.nodeWaleHeader n (n.val / 16) h) s = .next s ∧ exec (.nodeRegularRecord n h r ar) s = .next s) ∧
    (x.powered = true →
      (x.boundary.nr.tb0Lock = true → x.boundary.nx.boundary.isSome = true → ∃ t q, exec (.nodeSample n meas tj la lb) s = .next t ∧
        TxItem.nodeResponse n q ∈ t.tx ∧ q.ring = n.val / 16 ∧ q.pos = n.val % 16 ∧ q.meas = x.boundary.measured meas ∧ q.tj = tj ∧
        q.seq = x.boundary.nx.tick.extractLsb' 0 16 ∧ q.epochSeen = x.boundary.nc.epochSeen ∧ only t) ∧
      (fb = x.nr.tsrcB → x.nr.mandate = none → x.nr.tb0Lock = false → f.subtype = 0 →
        let want := f.tDep + BitVec.ofNat 40 (if fb then x.nr.dlyB else x.nr.dlyA)
        let d := tbDiff want (x.tb0At lt)
        ∃ t, exec (.nodeSyncReceive n fb f lt fwd true) s = .next t ∧ (t.node n).nx.tper = f.tper ∧ (t.node n).tb0At lt = want ∧
          (t.node n).nr.tb0Lock = (decide (d.natAbs ≤ 25) && decide (7 ≤ x.np.syncGood)) ∧ only t ∧
          t.tx = s.tx ++ x.np.fwd.heldA.map (TxItem.nodeForward n false) ++ x.np.fwd.heldB.map (TxItem.nodeForward n true) ++
            [TxItem.nodeForward n (!fb) (.sync f true)]) ∧
      (fb = x.nr.tsrcB → x.nr.mandate = none → x.nr.tb0Lock = true → f.subtype = 0 →
        let d := tbDiff (f.tDep + BitVec.ofNat 40 (if fb then x.nr.dlyB else x.nr.dlyA)) (x.tb0At lt)
        256 < d.natAbs → x.nc.tberr + 1 < 2 ^ 32 → ∃ t, exec (.nodeSyncReceive n fb f lt fwd true) s = .next t ∧ only t ∧
          (t.node n).nc.tberr = x.nc.tberr + 1 ∧ (t.node n).np.tbOff = x.np.tbOff ∧
          (t.node n).nr.tb0Lock = decide (x.np.syncBad < 3)) ∧
      (4 ≤ (if x.nr.tsrcB then x.np.missB else x.np.missA) → x.nr.mandate = none ∨ x.nr.tsrcB = x.nr.mandateB →
        ∃ t, exec (.nodeTsrcSwitch n) s = .next t ∧ (t.node n).nr.tsrcB = !x.nr.tsrcB ∧ only t) ∧
      ((if x.nr.tsrcB then x.np.missB else x.np.missA) < 4 ∨ (x.nr.mandate ≠ none ∧ x.nr.tsrcB ≠ x.nr.mandateB) →
        ∃ t, exec (.nodeTsrcSwitch n) s = .next t ∧ t.node n = x ∧ only t) ∧
      (x.np.gotA = false → x.np.gotB = false → 10000000 ≤ (Nat.min x.np.missA x.np.missB + 1) * x.nx.tper → ∃ t, exec (.nodeSyncLoss n) s = .next t ∧ (t.node n).nr.tb0Lock = false ∧
        (t.node n).ns = (if x.active then .block else x.ns) ∧ only t) ∧
      (x.hdrOk n.val h = true → h.supp = false → r.pos = n.val % 16 → x.recOk r = true → x.seqOk h = true → x.tickOk h = true → x.dup h = false →
        (x.lateRec h (x.tb0At ar) = false → ∃ t p, exec (.nodeRegularRecord n h r ar) s = .next t ∧ (t.node n).nx.pend = some p ∧ p.tick = h.tick ∧
          p.edges = r.edges ∧ p.tgt = h.tgtT0 ∧ (t.node n).nr.mandate = some h.devid ∧ (t.node n).nc.wseq = h.seq ∧ only t) ∧
        (x.lateRec h (x.tb0At ar) = true → x.nc.late + 1 < 2 ^ 32 → ∃ t, exec (.nodeRegularRecord n h r ar) s = .next t ∧ (t.node n).nc.late = x.nc.late + 1 ∧
          (t.node n).nx.pend = x.nx.pend ∧ only t)))

/-- Tier 2. A node's legs and protections (R61, R64, R84, R99 to R112): an edge in N-RUN puts its state under the interlock; a tick without
a record coasts on the pattern held or blocks the node; a Block in its scope, a driver fault and an over-voltage act at once; a bypass
command cuts the cell's legs and an off-state test gives its results. A frame or set heard is passed on. Only the node changes. Where it
rests on the model's choices, these are in log entries 46, 145, 150, 154, 170 and 182. -/
def Obligations.NodeLegsAndFaults : Prop :=
  ∀ (s : State) (n : Fin 768) (l : Fin 8) (swt : Option Nat) (devid : Nat) (fb bsuv : Bool) (p : CoastPat) (b : BlockSet) (v : Int) (held : Nat) (k : Fin 3) (k5 : Fin 5)
    (cell : Fin 2) (a1 a2 a3 a4 : List Int), (s.node n).powered = true →
    let x := s.node n
    let acts (c : Instr) (q : Node → Prop) : Prop := ∃ t, exec c s = .next t ∧ q (t.node n) ∧ (∀ m, m ≠ n.val → t.node m = s.node m) ∧ t.sys = s.sys ∧
      t.reg = s.reg ∧ t.tx = s.tx
    let hears (c : Instr) (f : NodeFrame) (waits : Bool) (q : Node → Prop) : Prop := ∃ t, exec c s = .next t ∧ q (t.node n) ∧ (∀ m, m ≠ n.val → t.node m = s.node m) ∧
      t.sys = s.sys ∧ t.reg = s.reg ∧ (waits = false ∨ x.sending (!fb) = false → t.tx = s.tx ++ [.nodeForward n (!fb) f]) ∧
      (waits = true → x.sending (!fb) = true → t.tx = s.tx ∧ (t.node n).np.fwd = (x.hold (!fb) f).np.fwd)
    (∀ u, let k := (x.atStep l u).1
      ((x.leg l).lastStep = none → 2 * (1000 * tbDiff u x.t0 - k * (256 * (x.gran : Int))).natAbs ≤ 256 * x.gran) ∧
      ∀ j, (x.leg l).lastStep = some j → j < k) ∧
    (∀ e rest, x.ns = .run → (x.leg l).edges = e :: rest → (x.leg l).delayed = none →
      acts (.nodeEdgeExecute n l swt) (fun y => let p := x.atStep l (x.t0 + BitVec.ofNat 40 e.offset)
        (y.leg l).st = ((x.leg l).edge p.2 x.nr.ilkdt e.st).1.st ∧ (y.leg l).lastStep = some p.1 ∧
        (y.leg l).swts = swtsOf (x.leg l) (y.leg l) p.2 swt ∧
        (y.leg l).edges = rest ∧ (y.leg l).strength = x.strength e.strength ∧ ∀ j, j ≠ l.val → y.leg j = x.leg j)) ∧
    (x.ns = .run → x.nx.gotRegular = false → acts (.nodeCoastStart n) (fun y => y.ns = (if x.nr.patValid then .coast else .block))) ∧
    (∀ at_ u ent, x.ns = .coast → x.legDead l = false → (x.leg l).coastAt = some at_ → patNextEnt x.nx.pat l at_ = some (u, ent) → x.nx.pend = none →
      (∀ c, x.nx.coastT0 = some c → tbDiff u c < 256000 * (x.nr.coastwin : Int)) → acts (.nodeCoastEntry n l) (fun y => (y.leg l).coastAt = some u ∧ (y.leg l).st = ((x.leg l).edge (x.atStep l u).2 x.nr.ilkdt ent.st).1.st)) ∧
    (x.ns = .coast → x.windowOver (tbNs x.t0 x.nx.tper) = true → acts (.nodeCoastWindowExpiry n) (fun y => y.ns = .block ∧ y.nr.blkcause = 2)) ∧
    (CoastOk p = true → x.entitled devid = true → hears (.nodeCoastPattern n devid fb p true) (.coast devid p true) true (fun y => y.nr.patValid = true ∧
      (x.ns ≠ .coast → y.nx.pat = p) ∧ (x.ns = .coast → y.nx.patNext = some p ∧ y.nx.pat = x.nx.pat))) ∧
    (b.wellFormed = true → b.scope ≤ 1 → x.inScope b = true → x.active = true → hears (.nodeBlockSet ⟨n, fb⟩ b) (.blockSet b) false (fun y => y.ns = .block ∧ y.nr.blkcause = 1 ∧
      ∀ j : Nat, j < 8 → (y.leg j).st = .off ∨ (y.leg j).st = .highZ)) ∧
    (b.wellFormed = false ∨ 1 < b.scope → x.nc.blkinv + 1 < 2 ^ 32 → hears (.nodeBlockSet ⟨n, fb⟩ b) (.blockSet b) false (fun y => y.ns = x.ns ∧ y.nc.blkinv = x.nc.blkinv + 1 ∧ y.legs = x.legs)) ∧
    acts (.nodeDriverFault n l bsuv true) (fun y => (y.leg l).st = .highZ ∧ (y.leg l).edges = [] ∧ y.nr.legflt.getLsbD l = true ∧
      y.nr.bsuv.getLsbD l = (bsuv || x.nr.bsuv.getLsbD l)) ∧
    (200 ≤ held → x.nr.ovth0 < v → x.active = true → acts (.nodeOvervoltage n false v held) (fun y => y.ns = .fault ∧ y.nr.fltcause.getLsbD 0 = true)) ∧
    (x.active = true → acts (.nodeFaultCause n k) (fun y => y.ns = .fault ∧ y.nr.fltcause.getLsbD (2 + k) = true)) ∧
    ((k5.val = 0 ∧ v < x.nr.ovth0) ∨ (k5.val = 1 ∧ v < x.nr.ovth1) ∨ k5.val = 4 → acts (.nodeFaultCauseClear n k5 v) (fun y =>
      y.nr.fltcause.getLsbD k5 = false ∧ y.ns = x.ns)) ∧
    (x.nx.cmdNow = 1 → acts (.nodeBypassCommand n) (fun y =>
      (∀ j : Nat, j < 2 → x.nx.argNow.getLsbD j = true → y.nr.bypHeld.getLsbD j = true) ∧
      (y.allBypassed = true → x.ns ≠ .off → ¬ (x.ns = .fault ∧ x.nx.faultNow = true) → y.ns = .bypass) ∧
      ∀ j : Nat, j < 8 → y.legDead j = true → ((y.leg j).st = .off ∨ (y.leg j).st = .highZ) ∧ (y.leg j).edges = [])) ∧
    (x.nr.bypHeld.getLsbD cell = true → acts (.nodeBypassConfirm n cell) (fun y => y.nr.bypstat.getLsbD (2 + cell) = true)) ∧
    (x.nx.cmdNow = 2 → x.ns = .ready → acts (.nodeOsdCommand n) (fun y => y.nr.osdRun = true ∧ y.np.osdValid = false)) ∧
    (x.nr.osdRun = true → acts (.nodeOsdComplete n a1 a2 a3 a4) (fun y => y.nr.osdRun = false ∧ y.np.osdValid = true ∧
      y.np.osd.toNat = osdWord x.np.osdLegs a1 a2 a3 a4))

/-- Tier 2. Management at a node (R54, R65, R84, R86, R87): a request under a new tag is executed and its reply waits for the next slot; the
tag of the last one only has its reply resent; configuration is refused in N-RUN and N-COAST and from a device without the mandate. Where it
rests on the model's choices, these are in log entries 152, 153 and 171. -/
def Obligations.NodeManagement : Prop :=
  ∀ (s : State) (n : Fin 768) (fb to_ : Bool) (devid addr cnt op st : Nat) (src : MgmtFrom) (tag : BitVec 8) (data bs : List Byte) (v : Bool) (i : NodeIdent),
    (s.node n).powered = true →
    let x := s.node n
    let acts (c : Instr) (f : NodeFrame) (q : Node → Prop) : Prop := ∃ t, exec c s = .next t ∧ q (t.node n) ∧ (∀ m, m ≠ n.val → t.node m = s.node m) ∧
      t.sys = s.sys ∧ t.reg = s.reg ∧ (x.sending (!fb) = false → t.tx = s.tx ++ [.nodeForward n (!fb) f]) ∧
      (x.sending (!fb) = true → t.tx = s.tx ∧ (t.node n).np.fwd = (x.hold (!fb) f).np.fwd)
    let waits (y : Node) (status : Nat) (d : List Byte) : Prop := y.np.mgmtReply = some (fb, tag, status, d) ∧
      y.np.mgmtLast = (if status = 0 then some (fb, tag, status, d) else x.np.mgmtLast)
    (src.tag = tag → x.np.mgmtLast.all (fun q => q.2.1 != tag) = true →
      (cnt ≤ 256 → x.regBytes addr cnt = some bs → acts (.nodeMgmtRead n fb src addr cnt) (.mgmt src.devid tag 0 addr cnt []) (fun y => waits y 0 bs ∧ y.nr = x.nr ∧ y.legs = x.legs)) ∧
      (256 < cnt → acts (.nodeMgmtRead n fb src addr cnt) (.mgmt src.devid tag 0 addr cnt []) (fun y => waits y 1 [] ∧ y.nr = x.nr)) ∧
      acts (.nodeMgmtWrite n fb devid tag addr data) (.mgmt devid tag 1 addr data.length data) (fun y => waits y (x.regWrite devid addr data.length (beNat data 0)).2 [] ∧
        y.nr = (x.regWrite devid addr data.length (beNat data 0)).1.nr) ∧
      (x.ident = some i → acts (.nodeIdentityRead n fb src) (.mgmt src.devid tag 2 0 0 []) (fun y => waits y 0 (identBytes i) ∧ y.nr = x.nr)) ∧
      acts (.nodeMgmtReservedOp n fb src op) (.mgmt src.devid tag op 0 0 []) (fun y => waits y 5 [] ∧ y.nr = x.nr ∧ y.legs = x.legs) ∧
      (x.entitled devid = true → x.following = false → acts (.nodeSrst n fb devid tag) (.mgmt devid tag 1 0x100 2 (beBytes 2 2)) (fun y => waits y 0 [] ∧ y.nr.cfgDone = false ∧
        y.nr.tb0Lock = false ∧ y.nr.mandate = none ∧ (y.ns = .off ∨ y.ns = .bypass))) ∧
      (x.following = true → acts (.nodeSrst n fb devid tag) (.mgmt devid tag 1 0x100 2 (beBytes 2 2)) (fun y => waits y 4 [] ∧ y.nr = x.nr ∧ y.ns = x.ns)) ∧
      (x.entitled devid = true → x.cfgWritable = true → acts (.nodeCfgDone n fb devid tag v) (.mgmt devid tag 1 0x100 2 (beBytes (if v then 1 else 0) 2)) (fun y => waits y 0 [] ∧ y.nr.cfgDone = v ∧
        y.ns = (if v then x.ns else .off))) ∧
      (x.entitled devid = false → acts (.nodeCfgDone n fb devid tag v) (.mgmt devid tag 1 0x100 2 (beBytes (if v then 1 else 0) 2)) (fun y => waits y 4 [] ∧ y.nr = x.nr ∧ y.ns = x.ns))) ∧
    (x.np.mgmtLast = some (to_, tag, st, data) → acts (.nodeMgmtWrite n fb devid tag addr bs) (.mgmt devid tag 1 addr bs.length bs) (fun y =>
      y = { x with np.mgmtReply := some (fb, tag, st, data), np.fwd := y.np.fwd })) ∧
    (x.np.mgmtReply = some (to_, tag, st, data) →
      (∃ t, exec (.nodeMgmtReplySend n true) s = .next t ∧ t.tx = s.tx ++ [.nodeReply n to_ tag st data] ∧ (t.node n).np.mgmtReply = none ∧ t.reg = s.reg) ∧
      exec (.nodeMgmtReplySend n false) s = .next s)

/-- Tier 2. Internal events (R28, R37 to R39, R41, R195, R202): a requester that withdraws after its grant costs one counted dead cycle, the
owner of the cycle being granted before a holder and a holder before the background ranking; a first beat makes a holder, the last ends it;
a request that has waited longer than the watch counts for its class and raises 0xE4; prepare ends in READY with every set in force empty
where no condition is set, else in BLOCKED with 0x1001.04 = 0x02; the trace stops at the end of its ticks; a rising pin triggers the trace
where the trigger names it. Where it rests on the model's choices, these are in log entries 78, 140 and 162. -/
def Obligations.InternalEvents : Prop :=
  ∀ (s : State) (cyc : Nat) (who : Requester) (rq : List Requester) (cycles : List (List (Requester × Nat))) (waited beats : Nat) (pin : Fin 16)
    (diagOk partnerSaw : Bool),
    let entry := s.rd 0x3202 (cyc % 128 + 1)
    let held := s.cpu.csmHold.map (·.1)
    (s.up = true → (s.csmCycles cyc cycles).csmGrant (cyc + cycles.length) (who :: rq) = some who ∨
        (s.csmCycles cyc cycles).cpu.csmHold.any (fun h => h.1 == who) = true → s.rd 0x3200 5 + 1 < 2 ^ 32 →
      ∃ t, exec (.csmRequestWithdraw cyc cycles who rq) s = .next t ∧ t.rd 0x3200 5 = s.rd 0x3200 5 + 1 ∧ t.fld = s.fld ∧
        ∀ h ∈ t.cpu.csmHold, h.1 ≠ who) ∧
    (s.up = true → (s.csmCycles cyc cycles).csmGrant (cyc + cycles.length) (who :: rq) ≠ some who →
      (s.csmCycles cyc cycles).cpu.csmHold.any (fun h => h.1 == who) = false →
      ∃ t, exec (.csmRequestWithdraw cyc cycles who rq) s = .next t ∧ t.reg = s.reg ∧ ∀ h ∈ t.cpu.csmHold, h.1 ≠ who) ∧
    ((∃ q ∈ held ++ rq, ownsCycle entry q = true) → ∃ q ∈ held ++ rq, ownsCycle entry q = true ∧ s.csmGrant cyc rq = some q) ∧
    ((∀ q ∈ held ++ rq, ownsCycle entry q = false) → ∀ h rest, held = h :: rest → s.csmGrant cyc rq = some h) ∧
    ((∀ q ∈ rq, ownsCycle entry q = false) → held = [] → ∀ q, s.csmGrant cyc rq = some q →
      q ∈ rq ∧ (s.rd 0x3200 3).testBit q.cls = false ∧ ∀ p ∈ rq, (s.rd 0x3200 3).testBit p.cls = false → bgRank q ≤ bgRank p) ∧
    (held = [] → s.csmGrant cyc [who] = some who → 2 ≤ beats → (s.csmCycle cyc [(who, beats)]).cpu.csmHold = [(who, beats - 1)]) ∧
    (∀ b rest, s.cpu.csmHold = (who, b) :: rest → (∀ h ∈ rest, h.1 ≠ who) → s.csmGrant cyc [] = some who →
      (s.csmCycle cyc []).cpu.csmHold = (if b ≤ 1 then rest else (who, b - 1) :: rest)) ∧
    (s.up = true → 1 ≤ who.cls → who.cls ≤ 6 → s.rd 0x3200 2 < waited → s.rd 0x3203 who.cls + 1 < 2 ^ 32 →
      ∃ t, exec (.arbiterStarvation who waited) s = .next t ∧ t.rd 0x3203 who.cls = s.rd 0x3203 who.cls + 1 ∧ Sticky t 0xE4 ∧ t.fld = s.fld) ∧
    (waited ≤ s.rd 0x3200 2 → exec (.arbiterStarvation who waited) s = .next s) ∧
    (s.sys.preparing = true → s.sys.dev = .blocked → s.pathTested partnerSaw = true →
      ∃ t, exec (.prepareComplete ⟨diagOk, partnerSaw⟩) s = .next t ∧ t.sys.preparing = false ∧ t.rdBit 0x1001 5 2 = !diagOk ∧
        (t.rd 0x1001 5 = 0 → t.sys.dev = .ready ∧ t.rd 0x1001 4 = 0 ∧
          ∀ st : Nat, st < 6 → (t.string st).setF = 0 ∧ (t.string st).nForce = 0) ∧
        (t.rd 0x1001 5 ≠ 0 → t.sys.dev = .blocked ∧ t.rd 0x1001 4 = 2)) ∧
    (s.cpu.tracePost = some 0 → ∃ t, exec .traceStop s = .next t ∧ t.rdBit 0x3100 4 2 = true ∧ t.rdBit 0x3100 4 0 = false ∧
      t.cpu.tracePost = none ∧ t.fld = s.fld ∧ t.saf = s.saf) ∧
    (∃ t, exec (.gpioRise pin) s = .next t ∧ t.sys.pins.gpio.getLsbD pin = true ∧ t.fld = s.fld ∧
      (s.up = true → bitsN (s.rd 0x3100 1) 14 11 = pin → bitsN (s.rd 0x3100 1) 7 4 = 4 → s.rdBit 0x3100 1 0 = true → s.rdBit 0x3100 4 1 = false →
        t.rdBit 0x3100 4 1 = true ∧ t.rd 0x3100 5 = s.clk.tick.toNat) ∧
      (bitsN (s.rd 0x3100 1) 14 11 ≠ pin → t.reg = s.reg ∧ t.cpu = s.cpu))

/-- Tier 2, stated. R25: an acknowledge in SAFE while any cause is still present is refused; 0x1001.04 says so (0x03, Table CM-12), every
sticky bit stays as it was, and the device stays in SAFE with no transition taken up. -/
def Obligations.AcknowledgeWithACauseIsRefused : Prop :=
  ∀ (s : State) (i : Fin 40), MayWrite s i 0x1001 2 → hasRole (s.sess i.val).roles 14 = true → s.sys.dev = .safe → s.safeCause = true →
    ∃ t, exec (.acknowledge i) s = .next t ∧ t.rd 0x1001 4 = 3 ∧ (∃ st, st ≠ 0 ∧ Status t i st) ∧
      (∀ k : Nat, 1 ≤ k → k ≤ 16 → t.rd 0x4201 k = s.rd 0x4201 k) ∧ t.sys = s.sys ∧ t.fld = s.fld ∧ t.saf = s.saf

/-- Tier 2, stated. R94 and R98: a node accepts a Wale header where HCRC passes, RING is that of arrival and EPOCH is not below EPOCH_SEEN;
a higher EPOCH raises EPOCH_SEEN at once, with a record that is unusable too, and a Wale of lower epoch is discarded. In N-RUN a node
accepts a supplementary record whole where checks 1 to 3 of R95 and those of R98 hold: WSEQ takes its SEQ, its sender becomes the mandate
holder, and a resent copy is discarded; any other is discarded whole and counted in SUPREJ. Where it rests on the model's choices, these are
in log entry 181. -/
def Obligations.HeadersAndSupplementaryRecords : Prop :=
  ∀ (s : State) (n : Fin 768) (ring : Nat) (h : WaleHdr) (r : NodeRec) (arrival : BitVec 40), (s.node n).powered = true →
    let x := s.node n
    let accepted (g : Nat) : Prop := h.hcrcOk = true ∧ h.ring = g ∧ x.nc.epochSeen ≤ h.epoch
    let discarded (y : Node) : Prop := y.legs = x.legs ∧ y.nc.wseq = x.nc.wseq ∧ y.nc.wseqEpoch = x.nc.wseqEpoch ∧ y.nr.mandate = x.nr.mandate ∧
      y.nx.pend = x.nx.pend ∧ y.ns = x.ns
    let others (t : State) : Prop := (∀ m, m ≠ n.val → t.node m = s.node m) ∧ t.sys = s.sys ∧ t.reg = s.reg ∧ OnlyForwards n s t
    (accepted ring → ∃ t, exec (.nodeWaleHeader n ring h) s = .next t ∧ (t.node n).nc.epochSeen = h.epoch ∧ others t ∧
      (h.supp = false → h.tick = x.nx.tick + 1 → (t.node n).nc.nenPend = some (h.tick, h.nen.getLsbD (n % 16), h.state))) ∧
    (¬ accepted ring → ∃ t, exec (.nodeWaleHeader n ring h) s = .next t ∧ (t.node n).nc.epochSeen = x.nc.epochSeen ∧
      (t.node n).nc.nenPend = x.nc.nenPend ∧ (t.node n).nx.pendBoundary = x.nx.pendBoundary ∧ discarded (t.node n) ∧ others t) ∧
    (accepted (n / 16) → h.supp = false → r.pos = n % 16 → r.rcrcOk = false → ∃ t, exec (.nodeRegularRecord n h r arrival) s = .next t ∧
      (t.node n).nc.epochSeen = h.epoch ∧ discarded (t.node n) ∧ others t) ∧
    (h.epoch < x.nc.epochSeen → ∃ t, exec (.nodeRegularRecord n h r arrival) s = .next t ∧
      t.node n = { x with np.fwd := (t.node n).np.fwd } ∧ others t) ∧
    (h.supp = true → r.pos = n % 16 →
      let ok : Prop := accepted (n / 16) ∧ x.recOk r = true ∧
        (∀ e, x.nc.wseqEpoch = some e → e < h.epoch ∨ (e = h.epoch ∧ 0 < (h.seq - x.nc.wseq).toInt)) ∧
        x.ns = .run ∧ h.tick = x.nx.tick ∧ (tbDiff h.tgtT0 x.t0).natAbs ≤ 256 ∧
        (∀ e ∈ r.edges, 1200 * 256 ≤ tbDiff (h.tgtT0 + BitVec.ofNat 40 e.offset) (x.tb0At arrival)) ∧
        (∀ l : Nat, l < 8 → (x.leg l).execd + ((x.leg l).merged l r.edges).length ≤ 8)
      (ok → ∃ t, exec (.nodeSupplementaryRecord n h r arrival) s = .next t ∧ (t.node n).nc.epochSeen = h.epoch ∧
        (t.node n).nc.wseq = h.seq ∧ (t.node n).nr.mandate = some h.devid ∧ others t ∧
        (∀ l : Nat, l < 8 → x.legDead l = false → ((t.node n).leg l).edges = (x.leg l).merged l r.edges) ∧
        ∀ again, ∃ u, exec (.nodeSupplementaryRecord n h r again) t = .next u ∧ (u.node n).legs = (t.node n).legs) ∧
      (¬ ok → ∃ t, exec (.nodeSupplementaryRecord n h r arrival) s = .next t ∧ discarded (t.node n) ∧ others t ∧
        (x.nc.suprej + 1 < 2 ^ 32 → (t.node n).nc.suprej = x.nc.suprej + 1)))

/-- Tier 3. Every step keeps the store of the entries canonical (R304, R306): the keys listed rise strictly, no entry listed equals its
default, and every value fits the width of its entry, whatever the command and the state. -/
def Obligations.EveryStepKeepsTheEntriesCanonical : Prop :=
  ∀ s t : State, EntriesCanonical s → step s = .next t → EntriesCanonical t

/-- Tier 3. R83: a node drives a switch on only in N-RUN and N-COAST. Every step keeps every leg of every node in any other state both-off,
or in high impedance. -/
def Obligations.EveryStepKeepsIdleNodesOff : Prop :=
  ∀ s t : State, IdleNodesOff s → step s = .next t → IdleNodesOff t

/-- Tier 2. The commands that wait are touched by no command's effect: a step takes one from the front and leaves the rest in their order.
-/
def Obligations.CommandsWaitInOrder : Prop :=
  ∀ (c : Instr) (s t : State), exec c s = .next t → t.pending = s.pending

/-- Tier 1. The state right after reset (R22, R304, R306): BOOT, nothing waits, every entry at its default, SAFE_N low, no node driven, and
the invariants of the machine. Where it rests on the model's choices, these are in log entries 6, 7 and 9. -/
def Obligations.ResetState : Prop :=
  EntriesCanonical State.reset ∧ IdleNodesOff State.reset ∧ State.reset.pending = [] ∧ State.reset.sys.dev = .boot ∧
  State.reset.sys.pins.safeN = false ∧ State.reset.tx = [] ∧ (∀ idx sub : Nat, State.reset.rd idx sub = regDefault (ekey idx sub)) ∧
  PinsLow State.reset ∧ ∀ n : Fin 768, (State.reset.node n).powered = false
end

