-- ==== Sys2Proof/Laws/Tab.lean ====
section
/-! SUPPORT. Laws of tables: a read after a write of the same key gives the value written, a write leaves every other key
alone, and every table operation keeps the canonical form. -/

namespace Sys2Proof.Machine

@[simp] theorem Tab.get_erase_same {α : Type} (d : α) (k : Nat) (m : Tab α) : Tab.get d k (Tab.erase k m) = d := by
  induction m with
  | nil => rfl
  | cons e t ih =>
    by_cases h : e.1 = k
    · simpa [Tab.erase, h] using ih
    · simpa [Tab.erase, Tab.get, h] using ih

theorem Tab.get_erase_ne {α : Type} (d : α) {j k : Nat} (h : j ≠ k) (m : Tab α) :
    Tab.get d j (Tab.erase k m) = Tab.get d j m := by
  induction m with
  | nil => rfl
  | cons e t ih =>
    by_cases hk : e.1 = k
    · have : ¬ e.1 = j := fun hj => h (hj.symm.trans hk)
      simp [Tab.erase, Tab.get, hk, ih]
      intro hkj; exact absurd hkj.symm h
    · rw [Tab.erase, if_neg hk]
      by_cases hj : e.1 = j
      · rw [Tab.get, Tab.get, if_pos hj, if_pos hj]
      · rw [Tab.get, Tab.get, if_neg hj, if_neg hj, ih]

@[simp] theorem Tab.get_ins_same {α : Type} (d : α) (k : Nat) (v : α) (m : Tab α) :
    Tab.get d k (Tab.ins k v (Tab.erase k m)) = v := by
  induction m with
  | nil => simp [Tab.erase, Tab.ins, Tab.get]
  | cons e t ih =>
    by_cases hk : e.1 = k
    · simpa [Tab.erase, hk] using ih
    · by_cases hl : k < e.1
      · simp [Tab.erase, Tab.ins, Tab.get, hk, hl]
      · simpa [Tab.erase, Tab.ins, Tab.get, hk, hl] using ih

theorem Tab.get_ins_ne {α : Type} (d : α) {j k : Nat} (h : j ≠ k) (v : α) (m : Tab α) :
    Tab.get d j (Tab.ins k v m) = Tab.get d j m := by
  induction m with
  | nil => simp [Tab.ins, Tab.get, Ne.symm h]
  | cons e t ih =>
    by_cases hl : k < e.1
    · simp [Tab.ins, Tab.get, hl, Ne.symm h]
    · rw [Tab.ins, if_neg hl]
      by_cases hj : e.1 = j
      · rw [Tab.get, Tab.get, if_pos hj, if_pos hj]
      · rw [Tab.get, Tab.get, if_neg hj, if_neg hj, ih]

/-- A read after a write of the same key gives the value written. -/
@[simp] theorem Tab.get_set_same {α : Type} [DecidableEq α] (d : α) (k : Nat) (v : α) (m : Tab α) :
    Tab.get d k (Tab.set d k v m) = v := by
  by_cases h : v = d
  · subst h; simp [Tab.set]
  · simp [Tab.set, h]

/-- A write leaves every other key alone. -/
theorem Tab.get_set_ne {α : Type} [DecidableEq α] (d : α) {j k : Nat} (h : j ≠ k) (v : α) (m : Tab α) {d' : α} :
    Tab.get d j (Tab.set d' k v m) = Tab.get d j m := by
  by_cases hv : v = d'
  · simp [Tab.set, hv, Tab.get_erase_ne d h]
  · simp [Tab.set, hv, Tab.get_ins_ne d h, Tab.get_erase_ne d h]

/-- A read after a write of any key. -/
theorem Tab.get_set {α : Type} [DecidableEq α] (d : α) (j k : Nat) (v : α) (m : Tab α) :
    Tab.get d j (Tab.set d k v m) = if j = k then v else Tab.get d j m := by
  by_cases h : j = k
  · subst h; simp
  · simp [h, Tab.get_set_ne d h]

@[simp] theorem Tab.erase_ins {α : Type} (k : Nat) (v : α) (m : Tab α) : Tab.erase k (Tab.ins k v m) = Tab.erase k m := by
  induction m with
  | nil => simp [Tab.ins, Tab.erase]
  | cons e t ih =>
    by_cases hl : k < e.1
    · simp [Tab.ins, Tab.erase, hl]
    · by_cases hk : e.1 = k <;> simp [Tab.ins, Tab.erase, hl, hk, ih]

@[simp] theorem Tab.erase_erase {α : Type} (k : Nat) (m : Tab α) : Tab.erase k (Tab.erase k m) = Tab.erase k m := by
  induction m with
  | nil => rfl
  | cons e t ih => by_cases hk : e.1 = k <;> simp [Tab.erase, hk, ih]

/-- The later of two writes of a key stands. -/
@[simp] theorem Tab.set_set {α : Type} [DecidableEq α] (d : α) (k : Nat) (v w : α) (m : Tab α) :
    Tab.set d k w (Tab.set d k v m) = Tab.set d k w m := by
  by_cases hv : v = d <;> by_cases hw : w = d <;> simp [Tab.set, hv, hw]

/-- Every key listed in a table is above `k`. -/
def Tab.above {α : Type} (k : Nat) (m : Tab α) : Prop := ∀ e ∈ m, k < e.1

theorem Tab.wf_cons {α : Type} [DecidableEq α] (d : α) (e : Nat × α) (t : Tab α) :
    Tab.wf d (e :: t) = true ↔ e.2 ≠ d ∧ Tab.above e.1 t ∧ Tab.wf d t = true := by
  induction t generalizing e with
  | nil => simp [Tab.wf, Tab.above]
  | cons e' t ih =>
    have h2 := ih e'
    constructor
    · intro h
      simp [Tab.wf] at h
      refine ⟨h.1.1, ?_, h.2⟩
      intro x hx
      rcases List.mem_cons.mp hx with rfl | hx
      · exact h.1.2
      · exact Nat.lt_trans h.1.2 ((h2.mp h.2).2.1 x hx)
    · rintro ⟨h1, h3, h4⟩
      simp [Tab.wf, h1, h4, h3 e' (by simp)]

theorem Tab.mem_erase {α : Type} {k : Nat} {e : Nat × α} {m : Tab α} (h : e ∈ Tab.erase k m) : e ∈ m ∧ e.1 ≠ k := by
  induction m with
  | nil => simp [Tab.erase] at h
  | cons x t ih =>
    by_cases hk : x.1 = k
    · simp [Tab.erase, hk] at h
      exact ⟨List.mem_cons_of_mem _ (ih h).1, (ih h).2⟩
    · simp [Tab.erase, hk] at h
      rcases h with rfl | h
      · exact ⟨by simp, hk⟩
      · exact ⟨List.mem_cons_of_mem _ (ih h).1, (ih h).2⟩

theorem Tab.mem_ins {α : Type} {k : Nat} {v : α} {e : Nat × α} {m : Tab α} (h : e ∈ Tab.ins k v m) :
    e = (k, v) ∨ e ∈ m := by
  induction m with
  | nil => simpa [Tab.ins] using h
  | cons x t ih =>
    by_cases hl : k < x.1
    · simpa [Tab.ins, hl] using h
    · simp [Tab.ins, hl] at h
      rcases h with rfl | h
      · exact Or.inr (by simp)
      · rcases ih h with rfl | h
        · exact Or.inl rfl
        · exact Or.inr (List.mem_cons_of_mem _ h)

theorem Tab.wf_erase {α : Type} [DecidableEq α] (d : α) (k : Nat) {m : Tab α} (h : Tab.wf d m = true) :
    Tab.wf d (Tab.erase k m) = true := by
  induction m with
  | nil => rfl
  | cons e t ih =>
    obtain ⟨h1, h2, h3⟩ := (Tab.wf_cons d e t).mp h
    by_cases hk : e.1 = k
    · simpa [Tab.erase, hk] using ih h3
    · simp only [Tab.erase, hk, if_false]
      exact (Tab.wf_cons d e _).mpr ⟨h1, fun x hx => h2 x (Tab.mem_erase hx).1, ih h3⟩

theorem Tab.wf_ins {α : Type} [DecidableEq α] (d : α) (k : Nat) (v : α) (hv : v ≠ d) {m : Tab α}
    (h : Tab.wf d m = true) (hk : ∀ e ∈ m, e.1 ≠ k) : Tab.wf d (Tab.ins k v m) = true := by
  induction m with
  | nil => simp [Tab.ins, Tab.wf, hv]
  | cons e t ih =>
    obtain ⟨h1, h2, h3⟩ := (Tab.wf_cons d e t).mp h
    by_cases hl : k < e.1
    · simp only [Tab.ins, hl, if_true]
      refine (Tab.wf_cons d _ _).mpr ⟨hv, ?_, h⟩
      intro x hx
      rcases List.mem_cons.mp hx with rfl | hx
      · exact hl
      · exact Nat.lt_trans hl (h2 x hx)
    · simp only [Tab.ins, hl, if_false]
      have he : e.1 < k := by
        have := hk e (by simp)
        omega
      refine (Tab.wf_cons d _ _).mpr ⟨h1, ?_, ih h3 (fun x hx => hk x (List.mem_cons_of_mem _ hx))⟩
      intro x hx
      rcases Tab.mem_ins hx with rfl | hx
      · exact he
      · exact h2 x hx

/-- A write keeps the canonical form. -/
theorem Tab.wf_set {α : Type} [DecidableEq α] (d : α) (k : Nat) (v : α) {m : Tab α} (h : Tab.wf d m = true) :
    Tab.wf d (Tab.set d k v m) = true := by
  by_cases hv : v = d
  · simpa [Tab.set, hv] using Tab.wf_erase d k h
  · simp only [Tab.set, hv, if_false]
    exact Tab.wf_ins d k v hv (Tab.wf_erase d k h) (fun e he => (Tab.mem_erase he).2)

/-- A word write keeps the canonical form. -/
theorem Tab.wf_writeLE (a v n : Nat) {m : Tab Byte} (h : Tab.wf 0 m = true) : Tab.wf 0 (Tab.writeLE a v n m) = true := by
  induction n generalizing a v m with
  | zero => exact h
  | succ n ih => exact ih (a + 1) (v / 256) (Tab.wf_set 0 a _ h)

/-- A write of a list of bytes keeps the canonical form. -/
theorem Tab.wf_writeBytes (a : Nat) (bs : List Byte) {m : Tab Byte} (h : Tab.wf 0 m = true) :
    Tab.wf 0 (Tab.writeBytes a bs m) = true := by
  induction bs generalizing a m with
  | nil => exact h
  | cons b t ih => exact ih (a + 1) (Tab.wf_set 0 a b h)

/-- A word write leaves every byte outside it alone. -/
theorem Tab.get_writeLE_out (j a v n : Nat) (m : Tab Byte) (h : j < a ∨ a + n ≤ j) :
    Tab.get 0 j (Tab.writeLE a v n m) = Tab.get 0 j m := by
  induction n generalizing a v m with
  | zero => rfl
  | succ n ih =>
    rw [Tab.writeLE, ih (a + 1) (v / 256) _ (by omega), Tab.get_set_ne 0 (by omega)]

/-- A word read after a write of the same bytes gives the value written, cut to the bytes. -/
theorem Tab.readLE_writeLE (a v n : Nat) (m : Tab Byte) : Tab.readLE (Tab.writeLE a v n m) a n = v % 256 ^ n := by
  induction n generalizing a v m with
  | zero => simp [Tab.readLE, Nat.mod_one]
  | succ n ih =>
    simp only [Tab.writeLE, Tab.readLE]
    rw [ih (a + 1) (v / 256), Tab.get_writeLE_out a (a + 1) _ _ _ (by omega)]
    simp only [Tab.get_set_same, BitVec.toNat_ofNat]
    have h : v % 256 ^ (n + 1) = v % 256 + 256 * (v / 256 % 256 ^ n) := by
      rw [Nat.pow_succ, Nat.mul_comm (256 ^ n) 256, Nat.mod_mul]
    simpa using h.symm

/-- Changing every value keeps the keys above a bound. -/
theorem Tab.above_mapKV {α : Type} [DecidableEq α] (d : α) (f : Nat → α → α) (k : Nat) {m : Tab α} (h : Tab.above k m) :
    Tab.above k (Tab.mapKV d f m) := by
  induction m with
  | nil => exact h
  | cons e t ih =>
    have ht : Tab.above k t := fun x hx => h x (List.mem_cons_of_mem _ hx)
    by_cases hf : f e.1 e.2 = d
    · simpa [Tab.mapKV, hf] using ih ht
    · intro x hx
      simp only [Tab.mapKV, hf, if_false] at hx
      rcases List.mem_cons.mp hx with rfl | hx
      · exact h e (by simp)
      · exact ih ht x hx

/-- Changing every value keeps the canonical form. -/
theorem Tab.wf_mapKV {α : Type} [DecidableEq α] (d : α) (f : Nat → α → α) {m : Tab α} (h : Tab.wf d m = true) :
    Tab.wf d (Tab.mapKV d f m) = true := by
  induction m with
  | nil => rfl
  | cons e t ih =>
    obtain ⟨_, h2, h3⟩ := (Tab.wf_cons d e t).mp h
    by_cases hf : f e.1 e.2 = d
    · simpa [Tab.mapKV, hf] using ih h3
    · simp only [Tab.mapKV, hf, if_false]
      exact (Tab.wf_cons d _ _).mpr ⟨hf, Tab.above_mapKV d f e.1 h2, ih h3⟩

end Sys2Proof.Machine
end

