-- ==== Sys2Proof/Laws/State.lean ====
section
/-! SUPPORT. One lemma per field and per update of the state: what each named update changes, and that it leaves every other
field alone. Later proofs rewrite with these and unfold no record update. -/

namespace Sys2Proof.Machine

section
variable (s : State)

@[simp] theorem State.ring_setRing_same (k : Nat) (x : RingSt) : (s.setRing k x).ring k = x := by simp [State.ring, State.setRing]
theorem State.ring_setRing (j k : Nat) (x : RingSt) : (s.setRing k x).ring j = if j = k then x else s.ring j := by
  simp [State.ring, State.setRing, Tab.get_set]
@[simp] theorem State.setRing_setRing (k : Nat) (x y : RingSt) : (s.setRing k x).setRing k y = s.setRing k y := by simp [State.setRing]
@[simp] theorem State.pending_setRing (k : Nat) (x : RingSt) : (s.setRing k x).pending = s.pending := rfl
@[simp] theorem State.fresh_setRing (k : Nat) (x : RingSt) : (s.setRing k x).fresh = s.fresh := rfl
@[simp] theorem State.tx_setRing (k : Nat) (x : RingSt) : (s.setRing k x).tx = s.tx := rfl
@[simp] theorem State.sys_setRing (k : Nat) (x : RingSt) : (s.setRing k x).sys = s.sys := rfl
@[simp] theorem State.reg_setRing (k : Nat) (x : RingSt) : (s.setRing k x).reg = s.reg := rfl
@[simp] theorem State.clk_setRing (k : Nat) (x : RingSt) : (s.setRing k x).clk = s.clk := rfl
@[simp] theorem State.txFault_setRing (k : Nat) (x : RingSt) : (s.setRing k x).fld.txFault = s.fld.txFault := rfl
@[simp] theorem State.modDark_setRing (k : Nat) (x : RingSt) : (s.setRing k x).fld.modDark = s.fld.modDark := rfl
@[simp] theorem State.i2cSel_setRing (k : Nat) (x : RingSt) : (s.setRing k x).fld.i2cSel = s.fld.i2cSel := rfl
@[simp] theorem State.slots_setRing (k : Nat) (x : RingSt) : (s.setRing k x).fld.slots = s.fld.slots := rfl
@[simp] theorem State.nodes_setRing (k : Nat) (x : RingSt) : (s.setRing k x).fld.nodes = s.fld.nodes := rfl
@[simp] theorem State.legs_setRing (k : Nat) (x : RingSt) : (s.setRing k x).fld.legs = s.fld.legs := rfl
@[simp] theorem State.priors_setRing (k : Nat) (x : RingSt) : (s.setRing k x).fld.priors = s.fld.priors := rfl
@[simp] theorem State.locals_setRing (k : Nat) (x : RingSt) : (s.setRing k x).fld.locals = s.fld.locals := rfl
@[simp] theorem State.localPat_setRing (k : Nat) (x : RingSt) : (s.setRing k x).fld.localPat = s.fld.localPat := rfl
@[simp] theorem State.localCoastT0_setRing (k : Nat) (x : RingSt) : (s.setRing k x).fld.localCoastT0 = s.fld.localCoastT0 := rfl
@[simp] theorem State.localReleased_setRing (k : Nat) (x : RingSt) : (s.setRing k x).fld.localReleased = s.fld.localReleased := rfl
@[simp] theorem State.strings_setRing (k : Nat) (x : RingSt) : (s.setRing k x).fld.strings = s.fld.strings := rfl
@[simp] theorem State.cells_setRing (k : Nat) (x : RingSt) : (s.setRing k x).fld.cells = s.fld.cells := rfl
@[simp] theorem State.ain_setRing (k : Nat) (x : RingSt) : (s.setRing k x).fld.ain = s.fld.ain := rfl
@[simp] theorem State.ainPrev_setRing (k : Nat) (x : RingSt) : (s.setRing k x).fld.ainPrev = s.fld.ainPrev := rfl
@[simp] theorem State.pairs_setRing (k : Nat) (x : RingSt) : (s.setRing k x).fld.pairs = s.fld.pairs := rfl
@[simp] theorem State.cal_setRing (k : Nat) (x : RingSt) : (s.setRing k x).fld.cal = s.fld.cal := rfl
@[simp] theorem State.slices_setRing (k : Nat) (x : RingSt) : (s.setRing k x).fld.slices = s.fld.slices := rfl
@[simp] theorem State.cpu_setRing (k : Nat) (x : RingSt) : (s.setRing k x).cpu = s.cpu := rfl
@[simp] theorem State.saf_setRing (k : Nat) (x : RingSt) : (s.setRing k x).saf = s.saf := rfl
@[simp] theorem State.pair_setRing (k : Nat) (x : RingSt) : (s.setRing k x).pair = s.pair := rfl
@[simp] theorem State.grp_setRing (k : Nat) (x : RingSt) : (s.setRing k x).grp = s.grp := rfl
@[simp] theorem State.net_setRing (k : Nat) (x : RingSt) : (s.setRing k x).net = s.net := rfl
@[simp] theorem State.evr_setRing (k : Nat) (x : RingSt) : (s.setRing k x).evr = s.evr := rfl
@[simp] theorem State.fw_setRing (k : Nat) (x : RingSt) : (s.setRing k x).fw = s.fw := rfl
@[simp] theorem State.pw_setRing (k : Nat) (x : RingSt) : (s.setRing k x).pw = s.pw := rfl
@[simp] theorem State.slot_setRing (j k : Nat) (x : RingSt) : (s.setRing k x).slot j = s.slot j := rfl
@[simp] theorem State.node_setRing (j k : Nat) (x : RingSt) : (s.setRing k x).node j = s.node j := rfl
@[simp] theorem State.leg_setRing (j k : Nat) (x : RingSt) : (s.setRing k x).leg j = s.leg j := rfl
@[simp] theorem State.loc_setRing (j k : Nat) (x : RingSt) : (s.setRing k x).loc j = s.loc j := rfl
@[simp] theorem State.string_setRing (j k : Nat) (x : RingSt) : (s.setRing k x).string j = s.string j := rfl
@[simp] theorem State.cell_setRing (j k : Nat) (x : RingSt) : (s.setRing k x).cell j = s.cell j := rfl
@[simp] theorem State.engine_setRing (j k : Nat) (x : RingSt) : (s.setRing k x).engine j = s.engine j := rfl
@[simp] theorem State.sess_setRing (j k : Nat) (x : RingSt) : (s.setRing k x).sess j = s.sess j := rfl
@[simp] theorem State.tbs_setRing (j k : Nat) (x : RingSt) : (s.setRing k x).tbs j = s.tbs j := rfl
@[simp] theorem State.member_setRing (j k : Nat) (x : RingSt) : (s.setRing k x).member j = s.member j := rfl
@[simp] theorem State.rd_setRing (k : Nat) (x : RingSt) (idx sub : Nat) : (s.setRing k x).rd idx sub = s.rd idx sub := rfl

@[simp] theorem State.slot_setSlot_same (k : Nat) (x : SlotSt) : (s.setSlot k x).slot k = x := by simp [State.slot, State.setSlot]
theorem State.slot_setSlot (j k : Nat) (x : SlotSt) : (s.setSlot k x).slot j = if j = k then x else s.slot j := by
  simp [State.slot, State.setSlot, Tab.get_set]
@[simp] theorem State.setSlot_setSlot (k : Nat) (x y : SlotSt) : (s.setSlot k x).setSlot k y = s.setSlot k y := by simp [State.setSlot]
@[simp] theorem State.pending_setSlot (k : Nat) (x : SlotSt) : (s.setSlot k x).pending = s.pending := rfl
@[simp] theorem State.fresh_setSlot (k : Nat) (x : SlotSt) : (s.setSlot k x).fresh = s.fresh := rfl
@[simp] theorem State.tx_setSlot (k : Nat) (x : SlotSt) : (s.setSlot k x).tx = s.tx := rfl
@[simp] theorem State.sys_setSlot (k : Nat) (x : SlotSt) : (s.setSlot k x).sys = s.sys := rfl
@[simp] theorem State.reg_setSlot (k : Nat) (x : SlotSt) : (s.setSlot k x).reg = s.reg := rfl
@[simp] theorem State.clk_setSlot (k : Nat) (x : SlotSt) : (s.setSlot k x).clk = s.clk := rfl
@[simp] theorem State.txFault_setSlot (k : Nat) (x : SlotSt) : (s.setSlot k x).fld.txFault = s.fld.txFault := rfl
@[simp] theorem State.modDark_setSlot (k : Nat) (x : SlotSt) : (s.setSlot k x).fld.modDark = s.fld.modDark := rfl
@[simp] theorem State.i2cSel_setSlot (k : Nat) (x : SlotSt) : (s.setSlot k x).fld.i2cSel = s.fld.i2cSel := rfl
@[simp] theorem State.rings_setSlot (k : Nat) (x : SlotSt) : (s.setSlot k x).fld.rings = s.fld.rings := rfl
@[simp] theorem State.nodes_setSlot (k : Nat) (x : SlotSt) : (s.setSlot k x).fld.nodes = s.fld.nodes := rfl
@[simp] theorem State.legs_setSlot (k : Nat) (x : SlotSt) : (s.setSlot k x).fld.legs = s.fld.legs := rfl
@[simp] theorem State.priors_setSlot (k : Nat) (x : SlotSt) : (s.setSlot k x).fld.priors = s.fld.priors := rfl
@[simp] theorem State.locals_setSlot (k : Nat) (x : SlotSt) : (s.setSlot k x).fld.locals = s.fld.locals := rfl
@[simp] theorem State.localPat_setSlot (k : Nat) (x : SlotSt) : (s.setSlot k x).fld.localPat = s.fld.localPat := rfl
@[simp] theorem State.localCoastT0_setSlot (k : Nat) (x : SlotSt) : (s.setSlot k x).fld.localCoastT0 = s.fld.localCoastT0 := rfl
@[simp] theorem State.localReleased_setSlot (k : Nat) (x : SlotSt) : (s.setSlot k x).fld.localReleased = s.fld.localReleased := rfl
@[simp] theorem State.strings_setSlot (k : Nat) (x : SlotSt) : (s.setSlot k x).fld.strings = s.fld.strings := rfl
@[simp] theorem State.cells_setSlot (k : Nat) (x : SlotSt) : (s.setSlot k x).fld.cells = s.fld.cells := rfl
@[simp] theorem State.ain_setSlot (k : Nat) (x : SlotSt) : (s.setSlot k x).fld.ain = s.fld.ain := rfl
@[simp] theorem State.ainPrev_setSlot (k : Nat) (x : SlotSt) : (s.setSlot k x).fld.ainPrev = s.fld.ainPrev := rfl
@[simp] theorem State.pairs_setSlot (k : Nat) (x : SlotSt) : (s.setSlot k x).fld.pairs = s.fld.pairs := rfl
@[simp] theorem State.cal_setSlot (k : Nat) (x : SlotSt) : (s.setSlot k x).fld.cal = s.fld.cal := rfl
@[simp] theorem State.slices_setSlot (k : Nat) (x : SlotSt) : (s.setSlot k x).fld.slices = s.fld.slices := rfl
@[simp] theorem State.cpu_setSlot (k : Nat) (x : SlotSt) : (s.setSlot k x).cpu = s.cpu := rfl
@[simp] theorem State.saf_setSlot (k : Nat) (x : SlotSt) : (s.setSlot k x).saf = s.saf := rfl
@[simp] theorem State.pair_setSlot (k : Nat) (x : SlotSt) : (s.setSlot k x).pair = s.pair := rfl
@[simp] theorem State.grp_setSlot (k : Nat) (x : SlotSt) : (s.setSlot k x).grp = s.grp := rfl
@[simp] theorem State.net_setSlot (k : Nat) (x : SlotSt) : (s.setSlot k x).net = s.net := rfl
@[simp] theorem State.evr_setSlot (k : Nat) (x : SlotSt) : (s.setSlot k x).evr = s.evr := rfl
@[simp] theorem State.fw_setSlot (k : Nat) (x : SlotSt) : (s.setSlot k x).fw = s.fw := rfl
@[simp] theorem State.pw_setSlot (k : Nat) (x : SlotSt) : (s.setSlot k x).pw = s.pw := rfl
@[simp] theorem State.ring_setSlot (j k : Nat) (x : SlotSt) : (s.setSlot k x).ring j = s.ring j := rfl
@[simp] theorem State.node_setSlot (j k : Nat) (x : SlotSt) : (s.setSlot k x).node j = s.node j := rfl
@[simp] theorem State.leg_setSlot (j k : Nat) (x : SlotSt) : (s.setSlot k x).leg j = s.leg j := rfl
@[simp] theorem State.loc_setSlot (j k : Nat) (x : SlotSt) : (s.setSlot k x).loc j = s.loc j := rfl
@[simp] theorem State.string_setSlot (j k : Nat) (x : SlotSt) : (s.setSlot k x).string j = s.string j := rfl
@[simp] theorem State.cell_setSlot (j k : Nat) (x : SlotSt) : (s.setSlot k x).cell j = s.cell j := rfl
@[simp] theorem State.engine_setSlot (j k : Nat) (x : SlotSt) : (s.setSlot k x).engine j = s.engine j := rfl
@[simp] theorem State.sess_setSlot (j k : Nat) (x : SlotSt) : (s.setSlot k x).sess j = s.sess j := rfl
@[simp] theorem State.tbs_setSlot (j k : Nat) (x : SlotSt) : (s.setSlot k x).tbs j = s.tbs j := rfl
@[simp] theorem State.member_setSlot (j k : Nat) (x : SlotSt) : (s.setSlot k x).member j = s.member j := rfl
@[simp] theorem State.rd_setSlot (k : Nat) (x : SlotSt) (idx sub : Nat) : (s.setSlot k x).rd idx sub = s.rd idx sub := rfl

@[simp] theorem State.node_setNode_same (k : Nat) (x : Node) : (s.setNode k x).node k = x := by simp [State.node, State.setNode]
theorem State.node_setNode (j k : Nat) (x : Node) : (s.setNode k x).node j = if j = k then x else s.node j := by
  simp [State.node, State.setNode, Tab.get_set]
@[simp] theorem State.setNode_setNode (k : Nat) (x y : Node) : (s.setNode k x).setNode k y = s.setNode k y := by simp [State.setNode]
@[simp] theorem State.pending_setNode (k : Nat) (x : Node) : (s.setNode k x).pending = s.pending := rfl
@[simp] theorem State.fresh_setNode (k : Nat) (x : Node) : (s.setNode k x).fresh = s.fresh := rfl
@[simp] theorem State.tx_setNode (k : Nat) (x : Node) : (s.setNode k x).tx = s.tx := rfl
@[simp] theorem State.sys_setNode (k : Nat) (x : Node) : (s.setNode k x).sys = s.sys := rfl
@[simp] theorem State.reg_setNode (k : Nat) (x : Node) : (s.setNode k x).reg = s.reg := rfl
@[simp] theorem State.clk_setNode (k : Nat) (x : Node) : (s.setNode k x).clk = s.clk := rfl
@[simp] theorem State.txFault_setNode (k : Nat) (x : Node) : (s.setNode k x).fld.txFault = s.fld.txFault := rfl
@[simp] theorem State.modDark_setNode (k : Nat) (x : Node) : (s.setNode k x).fld.modDark = s.fld.modDark := rfl
@[simp] theorem State.i2cSel_setNode (k : Nat) (x : Node) : (s.setNode k x).fld.i2cSel = s.fld.i2cSel := rfl
@[simp] theorem State.rings_setNode (k : Nat) (x : Node) : (s.setNode k x).fld.rings = s.fld.rings := rfl
@[simp] theorem State.slots_setNode (k : Nat) (x : Node) : (s.setNode k x).fld.slots = s.fld.slots := rfl
@[simp] theorem State.legs_setNode (k : Nat) (x : Node) : (s.setNode k x).fld.legs = s.fld.legs := rfl
@[simp] theorem State.priors_setNode (k : Nat) (x : Node) : (s.setNode k x).fld.priors = s.fld.priors := rfl
@[simp] theorem State.locals_setNode (k : Nat) (x : Node) : (s.setNode k x).fld.locals = s.fld.locals := rfl
@[simp] theorem State.localPat_setNode (k : Nat) (x : Node) : (s.setNode k x).fld.localPat = s.fld.localPat := rfl
@[simp] theorem State.localCoastT0_setNode (k : Nat) (x : Node) : (s.setNode k x).fld.localCoastT0 = s.fld.localCoastT0 := rfl
@[simp] theorem State.localReleased_setNode (k : Nat) (x : Node) : (s.setNode k x).fld.localReleased = s.fld.localReleased := rfl
@[simp] theorem State.strings_setNode (k : Nat) (x : Node) : (s.setNode k x).fld.strings = s.fld.strings := rfl
@[simp] theorem State.cells_setNode (k : Nat) (x : Node) : (s.setNode k x).fld.cells = s.fld.cells := rfl
@[simp] theorem State.ain_setNode (k : Nat) (x : Node) : (s.setNode k x).fld.ain = s.fld.ain := rfl
@[simp] theorem State.ainPrev_setNode (k : Nat) (x : Node) : (s.setNode k x).fld.ainPrev = s.fld.ainPrev := rfl
@[simp] theorem State.pairs_setNode (k : Nat) (x : Node) : (s.setNode k x).fld.pairs = s.fld.pairs := rfl
@[simp] theorem State.cal_setNode (k : Nat) (x : Node) : (s.setNode k x).fld.cal = s.fld.cal := rfl
@[simp] theorem State.slices_setNode (k : Nat) (x : Node) : (s.setNode k x).fld.slices = s.fld.slices := rfl
@[simp] theorem State.cpu_setNode (k : Nat) (x : Node) : (s.setNode k x).cpu = s.cpu := rfl
@[simp] theorem State.saf_setNode (k : Nat) (x : Node) : (s.setNode k x).saf = s.saf := rfl
@[simp] theorem State.pair_setNode (k : Nat) (x : Node) : (s.setNode k x).pair = s.pair := rfl
@[simp] theorem State.grp_setNode (k : Nat) (x : Node) : (s.setNode k x).grp = s.grp := rfl
@[simp] theorem State.net_setNode (k : Nat) (x : Node) : (s.setNode k x).net = s.net := rfl
@[simp] theorem State.evr_setNode (k : Nat) (x : Node) : (s.setNode k x).evr = s.evr := rfl
@[simp] theorem State.fw_setNode (k : Nat) (x : Node) : (s.setNode k x).fw = s.fw := rfl
@[simp] theorem State.pw_setNode (k : Nat) (x : Node) : (s.setNode k x).pw = s.pw := rfl
@[simp] theorem State.ring_setNode (j k : Nat) (x : Node) : (s.setNode k x).ring j = s.ring j := rfl
@[simp] theorem State.slot_setNode (j k : Nat) (x : Node) : (s.setNode k x).slot j = s.slot j := rfl
@[simp] theorem State.leg_setNode (j k : Nat) (x : Node) : (s.setNode k x).leg j = s.leg j := rfl
@[simp] theorem State.loc_setNode (j k : Nat) (x : Node) : (s.setNode k x).loc j = s.loc j := rfl
@[simp] theorem State.string_setNode (j k : Nat) (x : Node) : (s.setNode k x).string j = s.string j := rfl
@[simp] theorem State.cell_setNode (j k : Nat) (x : Node) : (s.setNode k x).cell j = s.cell j := rfl
@[simp] theorem State.engine_setNode (j k : Nat) (x : Node) : (s.setNode k x).engine j = s.engine j := rfl
@[simp] theorem State.sess_setNode (j k : Nat) (x : Node) : (s.setNode k x).sess j = s.sess j := rfl
@[simp] theorem State.tbs_setNode (j k : Nat) (x : Node) : (s.setNode k x).tbs j = s.tbs j := rfl
@[simp] theorem State.member_setNode (j k : Nat) (x : Node) : (s.setNode k x).member j = s.member j := rfl
@[simp] theorem State.rd_setNode (k : Nat) (x : Node) (idx sub : Nat) : (s.setNode k x).rd idx sub = s.rd idx sub := rfl

@[simp] theorem State.leg_setLeg_same (k : Nat) (x : LegB) : (s.setLeg k x).leg k = x := by simp [State.leg, State.setLeg]
theorem State.leg_setLeg (j k : Nat) (x : LegB) : (s.setLeg k x).leg j = if j = k then x else s.leg j := by
  simp [State.leg, State.setLeg, Tab.get_set]
@[simp] theorem State.setLeg_setLeg (k : Nat) (x y : LegB) : (s.setLeg k x).setLeg k y = s.setLeg k y := by simp [State.setLeg]
@[simp] theorem State.pending_setLeg (k : Nat) (x : LegB) : (s.setLeg k x).pending = s.pending := rfl
@[simp] theorem State.fresh_setLeg (k : Nat) (x : LegB) : (s.setLeg k x).fresh = s.fresh := rfl
@[simp] theorem State.tx_setLeg (k : Nat) (x : LegB) : (s.setLeg k x).tx = s.tx := rfl
@[simp] theorem State.sys_setLeg (k : Nat) (x : LegB) : (s.setLeg k x).sys = s.sys := rfl
@[simp] theorem State.reg_setLeg (k : Nat) (x : LegB) : (s.setLeg k x).reg = s.reg := rfl
@[simp] theorem State.clk_setLeg (k : Nat) (x : LegB) : (s.setLeg k x).clk = s.clk := rfl
@[simp] theorem State.txFault_setLeg (k : Nat) (x : LegB) : (s.setLeg k x).fld.txFault = s.fld.txFault := rfl
@[simp] theorem State.modDark_setLeg (k : Nat) (x : LegB) : (s.setLeg k x).fld.modDark = s.fld.modDark := rfl
@[simp] theorem State.i2cSel_setLeg (k : Nat) (x : LegB) : (s.setLeg k x).fld.i2cSel = s.fld.i2cSel := rfl
@[simp] theorem State.rings_setLeg (k : Nat) (x : LegB) : (s.setLeg k x).fld.rings = s.fld.rings := rfl
@[simp] theorem State.slots_setLeg (k : Nat) (x : LegB) : (s.setLeg k x).fld.slots = s.fld.slots := rfl
@[simp] theorem State.nodes_setLeg (k : Nat) (x : LegB) : (s.setLeg k x).fld.nodes = s.fld.nodes := rfl
@[simp] theorem State.priors_setLeg (k : Nat) (x : LegB) : (s.setLeg k x).fld.priors = s.fld.priors := rfl
@[simp] theorem State.locals_setLeg (k : Nat) (x : LegB) : (s.setLeg k x).fld.locals = s.fld.locals := rfl
@[simp] theorem State.localPat_setLeg (k : Nat) (x : LegB) : (s.setLeg k x).fld.localPat = s.fld.localPat := rfl
@[simp] theorem State.localCoastT0_setLeg (k : Nat) (x : LegB) : (s.setLeg k x).fld.localCoastT0 = s.fld.localCoastT0 := rfl
@[simp] theorem State.localReleased_setLeg (k : Nat) (x : LegB) : (s.setLeg k x).fld.localReleased = s.fld.localReleased := rfl
@[simp] theorem State.strings_setLeg (k : Nat) (x : LegB) : (s.setLeg k x).fld.strings = s.fld.strings := rfl
@[simp] theorem State.cells_setLeg (k : Nat) (x : LegB) : (s.setLeg k x).fld.cells = s.fld.cells := rfl
@[simp] theorem State.ain_setLeg (k : Nat) (x : LegB) : (s.setLeg k x).fld.ain = s.fld.ain := rfl
@[simp] theorem State.ainPrev_setLeg (k : Nat) (x : LegB) : (s.setLeg k x).fld.ainPrev = s.fld.ainPrev := rfl
@[simp] theorem State.pairs_setLeg (k : Nat) (x : LegB) : (s.setLeg k x).fld.pairs = s.fld.pairs := rfl
@[simp] theorem State.cal_setLeg (k : Nat) (x : LegB) : (s.setLeg k x).fld.cal = s.fld.cal := rfl
@[simp] theorem State.slices_setLeg (k : Nat) (x : LegB) : (s.setLeg k x).fld.slices = s.fld.slices := rfl
@[simp] theorem State.cpu_setLeg (k : Nat) (x : LegB) : (s.setLeg k x).cpu = s.cpu := rfl
@[simp] theorem State.saf_setLeg (k : Nat) (x : LegB) : (s.setLeg k x).saf = s.saf := rfl
@[simp] theorem State.pair_setLeg (k : Nat) (x : LegB) : (s.setLeg k x).pair = s.pair := rfl
@[simp] theorem State.grp_setLeg (k : Nat) (x : LegB) : (s.setLeg k x).grp = s.grp := rfl
@[simp] theorem State.net_setLeg (k : Nat) (x : LegB) : (s.setLeg k x).net = s.net := rfl
@[simp] theorem State.evr_setLeg (k : Nat) (x : LegB) : (s.setLeg k x).evr = s.evr := rfl
@[simp] theorem State.fw_setLeg (k : Nat) (x : LegB) : (s.setLeg k x).fw = s.fw := rfl
@[simp] theorem State.pw_setLeg (k : Nat) (x : LegB) : (s.setLeg k x).pw = s.pw := rfl
@[simp] theorem State.ring_setLeg (j k : Nat) (x : LegB) : (s.setLeg k x).ring j = s.ring j := rfl
@[simp] theorem State.slot_setLeg (j k : Nat) (x : LegB) : (s.setLeg k x).slot j = s.slot j := rfl
@[simp] theorem State.node_setLeg (j k : Nat) (x : LegB) : (s.setLeg k x).node j = s.node j := rfl
@[simp] theorem State.loc_setLeg (j k : Nat) (x : LegB) : (s.setLeg k x).loc j = s.loc j := rfl
@[simp] theorem State.string_setLeg (j k : Nat) (x : LegB) : (s.setLeg k x).string j = s.string j := rfl
@[simp] theorem State.cell_setLeg (j k : Nat) (x : LegB) : (s.setLeg k x).cell j = s.cell j := rfl
@[simp] theorem State.engine_setLeg (j k : Nat) (x : LegB) : (s.setLeg k x).engine j = s.engine j := rfl
@[simp] theorem State.sess_setLeg (j k : Nat) (x : LegB) : (s.setLeg k x).sess j = s.sess j := rfl
@[simp] theorem State.tbs_setLeg (j k : Nat) (x : LegB) : (s.setLeg k x).tbs j = s.tbs j := rfl
@[simp] theorem State.member_setLeg (j k : Nat) (x : LegB) : (s.setLeg k x).member j = s.member j := rfl
@[simp] theorem State.rd_setLeg (k : Nat) (x : LegB) (idx sub : Nat) : (s.setLeg k x).rd idx sub = s.rd idx sub := rfl

@[simp] theorem State.loc_setLoc_same (k : Nat) (x : LocalLeg) : (s.setLoc k x).loc k = x := by simp [State.loc, State.setLoc]
theorem State.loc_setLoc (j k : Nat) (x : LocalLeg) : (s.setLoc k x).loc j = if j = k then x else s.loc j := by
  simp [State.loc, State.setLoc, Tab.get_set]
@[simp] theorem State.setLoc_setLoc (k : Nat) (x y : LocalLeg) : (s.setLoc k x).setLoc k y = s.setLoc k y := by simp [State.setLoc]
@[simp] theorem State.pending_setLoc (k : Nat) (x : LocalLeg) : (s.setLoc k x).pending = s.pending := rfl
@[simp] theorem State.fresh_setLoc (k : Nat) (x : LocalLeg) : (s.setLoc k x).fresh = s.fresh := rfl
@[simp] theorem State.tx_setLoc (k : Nat) (x : LocalLeg) : (s.setLoc k x).tx = s.tx := rfl
@[simp] theorem State.sys_setLoc (k : Nat) (x : LocalLeg) : (s.setLoc k x).sys = s.sys := rfl
@[simp] theorem State.reg_setLoc (k : Nat) (x : LocalLeg) : (s.setLoc k x).reg = s.reg := rfl
@[simp] theorem State.clk_setLoc (k : Nat) (x : LocalLeg) : (s.setLoc k x).clk = s.clk := rfl
@[simp] theorem State.txFault_setLoc (k : Nat) (x : LocalLeg) : (s.setLoc k x).fld.txFault = s.fld.txFault := rfl
@[simp] theorem State.modDark_setLoc (k : Nat) (x : LocalLeg) : (s.setLoc k x).fld.modDark = s.fld.modDark := rfl
@[simp] theorem State.i2cSel_setLoc (k : Nat) (x : LocalLeg) : (s.setLoc k x).fld.i2cSel = s.fld.i2cSel := rfl
@[simp] theorem State.rings_setLoc (k : Nat) (x : LocalLeg) : (s.setLoc k x).fld.rings = s.fld.rings := rfl
@[simp] theorem State.slots_setLoc (k : Nat) (x : LocalLeg) : (s.setLoc k x).fld.slots = s.fld.slots := rfl
@[simp] theorem State.nodes_setLoc (k : Nat) (x : LocalLeg) : (s.setLoc k x).fld.nodes = s.fld.nodes := rfl
@[simp] theorem State.legs_setLoc (k : Nat) (x : LocalLeg) : (s.setLoc k x).fld.legs = s.fld.legs := rfl
@[simp] theorem State.priors_setLoc (k : Nat) (x : LocalLeg) : (s.setLoc k x).fld.priors = s.fld.priors := rfl
@[simp] theorem State.localPat_setLoc (k : Nat) (x : LocalLeg) : (s.setLoc k x).fld.localPat = s.fld.localPat := rfl
@[simp] theorem State.localCoastT0_setLoc (k : Nat) (x : LocalLeg) : (s.setLoc k x).fld.localCoastT0 = s.fld.localCoastT0 := rfl
@[simp] theorem State.localReleased_setLoc (k : Nat) (x : LocalLeg) : (s.setLoc k x).fld.localReleased = s.fld.localReleased := rfl
@[simp] theorem State.strings_setLoc (k : Nat) (x : LocalLeg) : (s.setLoc k x).fld.strings = s.fld.strings := rfl
@[simp] theorem State.cells_setLoc (k : Nat) (x : LocalLeg) : (s.setLoc k x).fld.cells = s.fld.cells := rfl
@[simp] theorem State.ain_setLoc (k : Nat) (x : LocalLeg) : (s.setLoc k x).fld.ain = s.fld.ain := rfl
@[simp] theorem State.ainPrev_setLoc (k : Nat) (x : LocalLeg) : (s.setLoc k x).fld.ainPrev = s.fld.ainPrev := rfl
@[simp] theorem State.pairs_setLoc (k : Nat) (x : LocalLeg) : (s.setLoc k x).fld.pairs = s.fld.pairs := rfl
@[simp] theorem State.cal_setLoc (k : Nat) (x : LocalLeg) : (s.setLoc k x).fld.cal = s.fld.cal := rfl
@[simp] theorem State.slices_setLoc (k : Nat) (x : LocalLeg) : (s.setLoc k x).fld.slices = s.fld.slices := rfl
@[simp] theorem State.cpu_setLoc (k : Nat) (x : LocalLeg) : (s.setLoc k x).cpu = s.cpu := rfl
@[simp] theorem State.saf_setLoc (k : Nat) (x : LocalLeg) : (s.setLoc k x).saf = s.saf := rfl
@[simp] theorem State.pair_setLoc (k : Nat) (x : LocalLeg) : (s.setLoc k x).pair = s.pair := rfl
@[simp] theorem State.grp_setLoc (k : Nat) (x : LocalLeg) : (s.setLoc k x).grp = s.grp := rfl
@[simp] theorem State.net_setLoc (k : Nat) (x : LocalLeg) : (s.setLoc k x).net = s.net := rfl
@[simp] theorem State.evr_setLoc (k : Nat) (x : LocalLeg) : (s.setLoc k x).evr = s.evr := rfl
@[simp] theorem State.fw_setLoc (k : Nat) (x : LocalLeg) : (s.setLoc k x).fw = s.fw := rfl
@[simp] theorem State.pw_setLoc (k : Nat) (x : LocalLeg) : (s.setLoc k x).pw = s.pw := rfl
@[simp] theorem State.ring_setLoc (j k : Nat) (x : LocalLeg) : (s.setLoc k x).ring j = s.ring j := rfl
@[simp] theorem State.slot_setLoc (j k : Nat) (x : LocalLeg) : (s.setLoc k x).slot j = s.slot j := rfl
@[simp] theorem State.node_setLoc (j k : Nat) (x : LocalLeg) : (s.setLoc k x).node j = s.node j := rfl
@[simp] theorem State.leg_setLoc (j k : Nat) (x : LocalLeg) : (s.setLoc k x).leg j = s.leg j := rfl
@[simp] theorem State.string_setLoc (j k : Nat) (x : LocalLeg) : (s.setLoc k x).string j = s.string j := rfl
@[simp] theorem State.cell_setLoc (j k : Nat) (x : LocalLeg) : (s.setLoc k x).cell j = s.cell j := rfl
@[simp] theorem State.engine_setLoc (j k : Nat) (x : LocalLeg) : (s.setLoc k x).engine j = s.engine j := rfl
@[simp] theorem State.sess_setLoc (j k : Nat) (x : LocalLeg) : (s.setLoc k x).sess j = s.sess j := rfl
@[simp] theorem State.tbs_setLoc (j k : Nat) (x : LocalLeg) : (s.setLoc k x).tbs j = s.tbs j := rfl
@[simp] theorem State.member_setLoc (j k : Nat) (x : LocalLeg) : (s.setLoc k x).member j = s.member j := rfl
@[simp] theorem State.rd_setLoc (k : Nat) (x : LocalLeg) (idx sub : Nat) : (s.setLoc k x).rd idx sub = s.rd idx sub := rfl

@[simp] theorem State.string_setString_same (k : Nat) (x : StringSt) : (s.setString k x).string k = x := by simp [State.string, State.setString]
theorem State.string_setString (j k : Nat) (x : StringSt) : (s.setString k x).string j = if j = k then x else s.string j := by
  simp [State.string, State.setString, Tab.get_set]
@[simp] theorem State.setString_setString (k : Nat) (x y : StringSt) : (s.setString k x).setString k y = s.setString k y := by simp [State.setString]
@[simp] theorem State.pending_setString (k : Nat) (x : StringSt) : (s.setString k x).pending = s.pending := rfl
@[simp] theorem State.fresh_setString (k : Nat) (x : StringSt) : (s.setString k x).fresh = s.fresh := rfl
@[simp] theorem State.tx_setString (k : Nat) (x : StringSt) : (s.setString k x).tx = s.tx := rfl
@[simp] theorem State.sys_setString (k : Nat) (x : StringSt) : (s.setString k x).sys = s.sys := rfl
@[simp] theorem State.reg_setString (k : Nat) (x : StringSt) : (s.setString k x).reg = s.reg := rfl
@[simp] theorem State.clk_setString (k : Nat) (x : StringSt) : (s.setString k x).clk = s.clk := rfl
@[simp] theorem State.txFault_setString (k : Nat) (x : StringSt) : (s.setString k x).fld.txFault = s.fld.txFault := rfl
@[simp] theorem State.modDark_setString (k : Nat) (x : StringSt) : (s.setString k x).fld.modDark = s.fld.modDark := rfl
@[simp] theorem State.i2cSel_setString (k : Nat) (x : StringSt) : (s.setString k x).fld.i2cSel = s.fld.i2cSel := rfl
@[simp] theorem State.rings_setString (k : Nat) (x : StringSt) : (s.setString k x).fld.rings = s.fld.rings := rfl
@[simp] theorem State.slots_setString (k : Nat) (x : StringSt) : (s.setString k x).fld.slots = s.fld.slots := rfl
@[simp] theorem State.nodes_setString (k : Nat) (x : StringSt) : (s.setString k x).fld.nodes = s.fld.nodes := rfl
@[simp] theorem State.legs_setString (k : Nat) (x : StringSt) : (s.setString k x).fld.legs = s.fld.legs := rfl
@[simp] theorem State.priors_setString (k : Nat) (x : StringSt) : (s.setString k x).fld.priors = s.fld.priors := rfl
@[simp] theorem State.locals_setString (k : Nat) (x : StringSt) : (s.setString k x).fld.locals = s.fld.locals := rfl
@[simp] theorem State.localPat_setString (k : Nat) (x : StringSt) : (s.setString k x).fld.localPat = s.fld.localPat := rfl
@[simp] theorem State.localCoastT0_setString (k : Nat) (x : StringSt) : (s.setString k x).fld.localCoastT0 = s.fld.localCoastT0 := rfl
@[simp] theorem State.localReleased_setString (k : Nat) (x : StringSt) : (s.setString k x).fld.localReleased = s.fld.localReleased := rfl
@[simp] theorem State.cells_setString (k : Nat) (x : StringSt) : (s.setString k x).fld.cells = s.fld.cells := rfl
@[simp] theorem State.ain_setString (k : Nat) (x : StringSt) : (s.setString k x).fld.ain = s.fld.ain := rfl
@[simp] theorem State.ainPrev_setString (k : Nat) (x : StringSt) : (s.setString k x).fld.ainPrev = s.fld.ainPrev := rfl
@[simp] theorem State.pairs_setString (k : Nat) (x : StringSt) : (s.setString k x).fld.pairs = s.fld.pairs := rfl
@[simp] theorem State.cal_setString (k : Nat) (x : StringSt) : (s.setString k x).fld.cal = s.fld.cal := rfl
@[simp] theorem State.slices_setString (k : Nat) (x : StringSt) : (s.setString k x).fld.slices = s.fld.slices := rfl
@[simp] theorem State.cpu_setString (k : Nat) (x : StringSt) : (s.setString k x).cpu = s.cpu := rfl
@[simp] theorem State.saf_setString (k : Nat) (x : StringSt) : (s.setString k x).saf = s.saf := rfl
@[simp] theorem State.pair_setString (k : Nat) (x : StringSt) : (s.setString k x).pair = s.pair := rfl
@[simp] theorem State.grp_setString (k : Nat) (x : StringSt) : (s.setString k x).grp = s.grp := rfl
@[simp] theorem State.net_setString (k : Nat) (x : StringSt) : (s.setString k x).net = s.net := rfl
@[simp] theorem State.evr_setString (k : Nat) (x : StringSt) : (s.setString k x).evr = s.evr := rfl
@[simp] theorem State.fw_setString (k : Nat) (x : StringSt) : (s.setString k x).fw = s.fw := rfl
@[simp] theorem State.pw_setString (k : Nat) (x : StringSt) : (s.setString k x).pw = s.pw := rfl
@[simp] theorem State.ring_setString (j k : Nat) (x : StringSt) : (s.setString k x).ring j = s.ring j := rfl
@[simp] theorem State.slot_setString (j k : Nat) (x : StringSt) : (s.setString k x).slot j = s.slot j := rfl
@[simp] theorem State.node_setString (j k : Nat) (x : StringSt) : (s.setString k x).node j = s.node j := rfl
@[simp] theorem State.leg_setString (j k : Nat) (x : StringSt) : (s.setString k x).leg j = s.leg j := rfl
@[simp] theorem State.loc_setString (j k : Nat) (x : StringSt) : (s.setString k x).loc j = s.loc j := rfl
@[simp] theorem State.cell_setString (j k : Nat) (x : StringSt) : (s.setString k x).cell j = s.cell j := rfl
@[simp] theorem State.engine_setString (j k : Nat) (x : StringSt) : (s.setString k x).engine j = s.engine j := rfl
@[simp] theorem State.sess_setString (j k : Nat) (x : StringSt) : (s.setString k x).sess j = s.sess j := rfl
@[simp] theorem State.tbs_setString (j k : Nat) (x : StringSt) : (s.setString k x).tbs j = s.tbs j := rfl
@[simp] theorem State.member_setString (j k : Nat) (x : StringSt) : (s.setString k x).member j = s.member j := rfl
@[simp] theorem State.rd_setString (k : Nat) (x : StringSt) (idx sub : Nat) : (s.setString k x).rd idx sub = s.rd idx sub := rfl

@[simp] theorem State.cell_setCell_same (k : Nat) (x : CellSt) : (s.setCell k x).cell k = x := by simp [State.cell, State.setCell]
theorem State.cell_setCell (j k : Nat) (x : CellSt) : (s.setCell k x).cell j = if j = k then x else s.cell j := by
  simp [State.cell, State.setCell, Tab.get_set]
@[simp] theorem State.setCell_setCell (k : Nat) (x y : CellSt) : (s.setCell k x).setCell k y = s.setCell k y := by simp [State.setCell]
@[simp] theorem State.pending_setCell (k : Nat) (x : CellSt) : (s.setCell k x).pending = s.pending := rfl
@[simp] theorem State.fresh_setCell (k : Nat) (x : CellSt) : (s.setCell k x).fresh = s.fresh := rfl
@[simp] theorem State.tx_setCell (k : Nat) (x : CellSt) : (s.setCell k x).tx = s.tx := rfl
@[simp] theorem State.sys_setCell (k : Nat) (x : CellSt) : (s.setCell k x).sys = s.sys := rfl
@[simp] theorem State.reg_setCell (k : Nat) (x : CellSt) : (s.setCell k x).reg = s.reg := rfl
@[simp] theorem State.clk_setCell (k : Nat) (x : CellSt) : (s.setCell k x).clk = s.clk := rfl
@[simp] theorem State.txFault_setCell (k : Nat) (x : CellSt) : (s.setCell k x).fld.txFault = s.fld.txFault := rfl
@[simp] theorem State.modDark_setCell (k : Nat) (x : CellSt) : (s.setCell k x).fld.modDark = s.fld.modDark := rfl
@[simp] theorem State.i2cSel_setCell (k : Nat) (x : CellSt) : (s.setCell k x).fld.i2cSel = s.fld.i2cSel := rfl
@[simp] theorem State.rings_setCell (k : Nat) (x : CellSt) : (s.setCell k x).fld.rings = s.fld.rings := rfl
@[simp] theorem State.slots_setCell (k : Nat) (x : CellSt) : (s.setCell k x).fld.slots = s.fld.slots := rfl
@[simp] theorem State.nodes_setCell (k : Nat) (x : CellSt) : (s.setCell k x).fld.nodes = s.fld.nodes := rfl
@[simp] theorem State.legs_setCell (k : Nat) (x : CellSt) : (s.setCell k x).fld.legs = s.fld.legs := rfl
@[simp] theorem State.priors_setCell (k : Nat) (x : CellSt) : (s.setCell k x).fld.priors = s.fld.priors := rfl
@[simp] theorem State.locals_setCell (k : Nat) (x : CellSt) : (s.setCell k x).fld.locals = s.fld.locals := rfl
@[simp] theorem State.localPat_setCell (k : Nat) (x : CellSt) : (s.setCell k x).fld.localPat = s.fld.localPat := rfl
@[simp] theorem State.localCoastT0_setCell (k : Nat) (x : CellSt) : (s.setCell k x).fld.localCoastT0 = s.fld.localCoastT0 := rfl
@[simp] theorem State.localReleased_setCell (k : Nat) (x : CellSt) : (s.setCell k x).fld.localReleased = s.fld.localReleased := rfl
@[simp] theorem State.strings_setCell (k : Nat) (x : CellSt) : (s.setCell k x).fld.strings = s.fld.strings := rfl
@[simp] theorem State.ain_setCell (k : Nat) (x : CellSt) : (s.setCell k x).fld.ain = s.fld.ain := rfl
@[simp] theorem State.ainPrev_setCell (k : Nat) (x : CellSt) : (s.setCell k x).fld.ainPrev = s.fld.ainPrev := rfl
@[simp] theorem State.pairs_setCell (k : Nat) (x : CellSt) : (s.setCell k x).fld.pairs = s.fld.pairs := rfl
@[simp] theorem State.cal_setCell (k : Nat) (x : CellSt) : (s.setCell k x).fld.cal = s.fld.cal := rfl
@[simp] theorem State.slices_setCell (k : Nat) (x : CellSt) : (s.setCell k x).fld.slices = s.fld.slices := rfl
@[simp] theorem State.cpu_setCell (k : Nat) (x : CellSt) : (s.setCell k x).cpu = s.cpu := rfl
@[simp] theorem State.saf_setCell (k : Nat) (x : CellSt) : (s.setCell k x).saf = s.saf := rfl
@[simp] theorem State.pair_setCell (k : Nat) (x : CellSt) : (s.setCell k x).pair = s.pair := rfl
@[simp] theorem State.grp_setCell (k : Nat) (x : CellSt) : (s.setCell k x).grp = s.grp := rfl
@[simp] theorem State.net_setCell (k : Nat) (x : CellSt) : (s.setCell k x).net = s.net := rfl
@[simp] theorem State.evr_setCell (k : Nat) (x : CellSt) : (s.setCell k x).evr = s.evr := rfl
@[simp] theorem State.fw_setCell (k : Nat) (x : CellSt) : (s.setCell k x).fw = s.fw := rfl
@[simp] theorem State.pw_setCell (k : Nat) (x : CellSt) : (s.setCell k x).pw = s.pw := rfl
@[simp] theorem State.ring_setCell (j k : Nat) (x : CellSt) : (s.setCell k x).ring j = s.ring j := rfl
@[simp] theorem State.slot_setCell (j k : Nat) (x : CellSt) : (s.setCell k x).slot j = s.slot j := rfl
@[simp] theorem State.node_setCell (j k : Nat) (x : CellSt) : (s.setCell k x).node j = s.node j := rfl
@[simp] theorem State.leg_setCell (j k : Nat) (x : CellSt) : (s.setCell k x).leg j = s.leg j := rfl
@[simp] theorem State.loc_setCell (j k : Nat) (x : CellSt) : (s.setCell k x).loc j = s.loc j := rfl
@[simp] theorem State.string_setCell (j k : Nat) (x : CellSt) : (s.setCell k x).string j = s.string j := rfl
@[simp] theorem State.engine_setCell (j k : Nat) (x : CellSt) : (s.setCell k x).engine j = s.engine j := rfl
@[simp] theorem State.sess_setCell (j k : Nat) (x : CellSt) : (s.setCell k x).sess j = s.sess j := rfl
@[simp] theorem State.tbs_setCell (j k : Nat) (x : CellSt) : (s.setCell k x).tbs j = s.tbs j := rfl
@[simp] theorem State.member_setCell (j k : Nat) (x : CellSt) : (s.setCell k x).member j = s.member j := rfl
@[simp] theorem State.rd_setCell (k : Nat) (x : CellSt) (idx sub : Nat) : (s.setCell k x).rd idx sub = s.rd idx sub := rfl

@[simp] theorem State.engine_setEngine_same (k : Nat) (x : Engine) : (s.setEngine k x).engine k = x := by simp [State.engine, State.setEngine]
theorem State.engine_setEngine (j k : Nat) (x : Engine) : (s.setEngine k x).engine j = if j = k then x else s.engine j := by
  simp [State.engine, State.setEngine, Tab.get_set]
@[simp] theorem State.setEngine_setEngine (k : Nat) (x y : Engine) : (s.setEngine k x).setEngine k y = s.setEngine k y := by simp [State.setEngine]
@[simp] theorem State.pending_setEngine (k : Nat) (x : Engine) : (s.setEngine k x).pending = s.pending := rfl
@[simp] theorem State.fresh_setEngine (k : Nat) (x : Engine) : (s.setEngine k x).fresh = s.fresh := rfl
@[simp] theorem State.tx_setEngine (k : Nat) (x : Engine) : (s.setEngine k x).tx = s.tx := rfl
@[simp] theorem State.sys_setEngine (k : Nat) (x : Engine) : (s.setEngine k x).sys = s.sys := rfl
@[simp] theorem State.reg_setEngine (k : Nat) (x : Engine) : (s.setEngine k x).reg = s.reg := rfl
@[simp] theorem State.clk_setEngine (k : Nat) (x : Engine) : (s.setEngine k x).clk = s.clk := rfl
@[simp] theorem State.fld_setEngine (k : Nat) (x : Engine) : (s.setEngine k x).fld = s.fld := rfl
@[simp] theorem State.csm_setEngine (k : Nat) (x : Engine) : (s.setEngine k x).cpu.csm = s.cpu.csm := rfl
@[simp] theorem State.csmHold_setEngine (k : Nat) (x : Engine) : (s.setEngine k x).cpu.csmHold = s.cpu.csmHold := rfl
@[simp] theorem State.trace_setEngine (k : Nat) (x : Engine) : (s.setEngine k x).cpu.trace = s.cpu.trace := rfl
@[simp] theorem State.tracePost_setEngine (k : Nat) (x : Engine) : (s.setEngine k x).cpu.tracePost = s.cpu.tracePost := rfl
@[simp] theorem State.traceTrigNow_setEngine (k : Nat) (x : Engine) : (s.setEngine k x).cpu.traceTrigNow = s.cpu.traceTrigNow := rfl
@[simp] theorem State.saf_setEngine (k : Nat) (x : Engine) : (s.setEngine k x).saf = s.saf := rfl
@[simp] theorem State.pair_setEngine (k : Nat) (x : Engine) : (s.setEngine k x).pair = s.pair := rfl
@[simp] theorem State.grp_setEngine (k : Nat) (x : Engine) : (s.setEngine k x).grp = s.grp := rfl
@[simp] theorem State.net_setEngine (k : Nat) (x : Engine) : (s.setEngine k x).net = s.net := rfl
@[simp] theorem State.evr_setEngine (k : Nat) (x : Engine) : (s.setEngine k x).evr = s.evr := rfl
@[simp] theorem State.fw_setEngine (k : Nat) (x : Engine) : (s.setEngine k x).fw = s.fw := rfl
@[simp] theorem State.pw_setEngine (k : Nat) (x : Engine) : (s.setEngine k x).pw = s.pw := rfl
@[simp] theorem State.ring_setEngine (j k : Nat) (x : Engine) : (s.setEngine k x).ring j = s.ring j := rfl
@[simp] theorem State.slot_setEngine (j k : Nat) (x : Engine) : (s.setEngine k x).slot j = s.slot j := rfl
@[simp] theorem State.node_setEngine (j k : Nat) (x : Engine) : (s.setEngine k x).node j = s.node j := rfl
@[simp] theorem State.leg_setEngine (j k : Nat) (x : Engine) : (s.setEngine k x).leg j = s.leg j := rfl
@[simp] theorem State.loc_setEngine (j k : Nat) (x : Engine) : (s.setEngine k x).loc j = s.loc j := rfl
@[simp] theorem State.string_setEngine (j k : Nat) (x : Engine) : (s.setEngine k x).string j = s.string j := rfl
@[simp] theorem State.cell_setEngine (j k : Nat) (x : Engine) : (s.setEngine k x).cell j = s.cell j := rfl
@[simp] theorem State.sess_setEngine (j k : Nat) (x : Engine) : (s.setEngine k x).sess j = s.sess j := rfl
@[simp] theorem State.tbs_setEngine (j k : Nat) (x : Engine) : (s.setEngine k x).tbs j = s.tbs j := rfl
@[simp] theorem State.member_setEngine (j k : Nat) (x : Engine) : (s.setEngine k x).member j = s.member j := rfl
@[simp] theorem State.rd_setEngine (k : Nat) (x : Engine) (idx sub : Nat) : (s.setEngine k x).rd idx sub = s.rd idx sub := rfl

@[simp] theorem State.sess_setSess_same (k : Nat) (x : Session) : (s.setSess k x).sess k = x := by simp [State.sess, State.setSess]
theorem State.sess_setSess (j k : Nat) (x : Session) : (s.setSess k x).sess j = if j = k then x else s.sess j := by
  simp [State.sess, State.setSess, Tab.get_set]
@[simp] theorem State.setSess_setSess (k : Nat) (x y : Session) : (s.setSess k x).setSess k y = s.setSess k y := by simp [State.setSess]
@[simp] theorem State.pending_setSess (k : Nat) (x : Session) : (s.setSess k x).pending = s.pending := rfl
@[simp] theorem State.fresh_setSess (k : Nat) (x : Session) : (s.setSess k x).fresh = s.fresh := rfl
@[simp] theorem State.tx_setSess (k : Nat) (x : Session) : (s.setSess k x).tx = s.tx := rfl
@[simp] theorem State.sys_setSess (k : Nat) (x : Session) : (s.setSess k x).sys = s.sys := rfl
@[simp] theorem State.reg_setSess (k : Nat) (x : Session) : (s.setSess k x).reg = s.reg := rfl
@[simp] theorem State.clk_setSess (k : Nat) (x : Session) : (s.setSess k x).clk = s.clk := rfl
@[simp] theorem State.fld_setSess (k : Nat) (x : Session) : (s.setSess k x).fld = s.fld := rfl
@[simp] theorem State.cpu_setSess (k : Nat) (x : Session) : (s.setSess k x).cpu = s.cpu := rfl
@[simp] theorem State.saf_setSess (k : Nat) (x : Session) : (s.setSess k x).saf = s.saf := rfl
@[simp] theorem State.pair_setSess (k : Nat) (x : Session) : (s.setSess k x).pair = s.pair := rfl
@[simp] theorem State.grp_setSess (k : Nat) (x : Session) : (s.setSess k x).grp = s.grp := rfl
@[simp] theorem State.yelms_setSess (k : Nat) (x : Session) : (s.setSess k x).net.yelms = s.net.yelms := rfl
@[simp] theorem State.yelmNext_setSess (k : Nat) (x : Session) : (s.setSess k x).net.yelmNext = s.net.yelmNext := rfl
@[simp] theorem State.netPend_setSess (k : Nat) (x : Session) : (s.setSess k x).net.netPend = s.net.netPend := rfl
@[simp] theorem State.evr_setSess (k : Nat) (x : Session) : (s.setSess k x).evr = s.evr := rfl
@[simp] theorem State.fw_setSess (k : Nat) (x : Session) : (s.setSess k x).fw = s.fw := rfl
@[simp] theorem State.pw_setSess (k : Nat) (x : Session) : (s.setSess k x).pw = s.pw := rfl
@[simp] theorem State.ring_setSess (j k : Nat) (x : Session) : (s.setSess k x).ring j = s.ring j := rfl
@[simp] theorem State.slot_setSess (j k : Nat) (x : Session) : (s.setSess k x).slot j = s.slot j := rfl
@[simp] theorem State.node_setSess (j k : Nat) (x : Session) : (s.setSess k x).node j = s.node j := rfl
@[simp] theorem State.leg_setSess (j k : Nat) (x : Session) : (s.setSess k x).leg j = s.leg j := rfl
@[simp] theorem State.loc_setSess (j k : Nat) (x : Session) : (s.setSess k x).loc j = s.loc j := rfl
@[simp] theorem State.string_setSess (j k : Nat) (x : Session) : (s.setSess k x).string j = s.string j := rfl
@[simp] theorem State.cell_setSess (j k : Nat) (x : Session) : (s.setSess k x).cell j = s.cell j := rfl
@[simp] theorem State.engine_setSess (j k : Nat) (x : Session) : (s.setSess k x).engine j = s.engine j := rfl
@[simp] theorem State.tbs_setSess (j k : Nat) (x : Session) : (s.setSess k x).tbs j = s.tbs j := rfl
@[simp] theorem State.member_setSess (j k : Nat) (x : Session) : (s.setSess k x).member j = s.member j := rfl
@[simp] theorem State.rd_setSess (k : Nat) (x : Session) (idx sub : Nat) : (s.setSess k x).rd idx sub = s.rd idx sub := rfl

@[simp] theorem State.tbs_setTb_same (k : Nat) (x : TbSt) : (s.setTb k x).tbs k = x := by simp [State.tbs, State.setTb]
theorem State.tbs_setTb (j k : Nat) (x : TbSt) : (s.setTb k x).tbs j = if j = k then x else s.tbs j := by
  simp [State.tbs, State.setTb, Tab.get_set]
@[simp] theorem State.setTb_setTb (k : Nat) (x y : TbSt) : (s.setTb k x).setTb k y = s.setTb k y := by simp [State.setTb]
@[simp] theorem State.pending_setTb (k : Nat) (x : TbSt) : (s.setTb k x).pending = s.pending := rfl
@[simp] theorem State.fresh_setTb (k : Nat) (x : TbSt) : (s.setTb k x).fresh = s.fresh := rfl
@[simp] theorem State.tx_setTb (k : Nat) (x : TbSt) : (s.setTb k x).tx = s.tx := rfl
@[simp] theorem State.sys_setTb (k : Nat) (x : TbSt) : (s.setTb k x).sys = s.sys := rfl
@[simp] theorem State.reg_setTb (k : Nat) (x : TbSt) : (s.setTb k x).reg = s.reg := rfl
@[simp] theorem State.tick_setTb (k : Nat) (x : TbSt) : (s.setTb k x).clk.tick = s.clk.tick := rfl
@[simp] theorem State.bnd_setTb (k : Nat) (x : TbSt) : (s.setTb k x).clk.bnd = s.clk.bnd := rfl
@[simp] theorem State.phase_setTb (k : Nat) (x : TbSt) : (s.setTb k x).clk.phase = s.clk.phase := rfl
@[simp] theorem State.challenge_setTb (k : Nat) (x : TbSt) : (s.setTb k x).clk.challenge = s.clk.challenge := rfl
@[simp] theorem State.challenged_setTb (k : Nat) (x : TbSt) : (s.setTb k x).clk.challenged = s.clk.challenged := rfl
@[simp] theorem State.gathered_setTb (k : Nat) (x : TbSt) : (s.setTb k x).clk.gathered = s.clk.gathered := rfl
@[simp] theorem State.deadline_setTb (k : Nat) (x : TbSt) : (s.setTb k x).clk.deadline = s.clk.deadline := rfl
@[simp] theorem State.cmpTgt_setTb (k : Nat) (x : TbSt) : (s.setTb k x).clk.cmpTgt = s.clk.cmpTgt := rfl
@[simp] theorem State.cmpArmed_setTb (k : Nat) (x : TbSt) : (s.setTb k x).clk.cmpArmed = s.clk.cmpArmed := rfl
@[simp] theorem State.gateOpen_setTb (k : Nat) (x : TbSt) : (s.setTb k x).clk.gateOpen = s.clk.gateOpen := rfl
@[simp] theorem State.adpllLoss_setTb (k : Nat) (x : TbSt) : (s.setTb k x).clk.adpllLoss = s.clk.adpllLoss := rfl
@[simp] theorem State.ptpSyncs_setTb (k : Nat) (x : TbSt) : (s.setTb k x).clk.ptpSyncs = s.clk.ptpSyncs := rfl
@[simp] theorem State.ptpChanging_setTb (k : Nat) (x : TbSt) : (s.setTb k x).clk.ptpChanging = s.clk.ptpChanging := rfl
@[simp] theorem State.ptpBest_setTb (k : Nat) (x : TbSt) : (s.setTb k x).clk.ptpBest = s.clk.ptpBest := rfl
@[simp] theorem State.noMaster_setTb (k : Nat) (x : TbSt) : (s.setTb k x).clk.noMaster = s.clk.noMaster := rfl
@[simp] theorem State.ptpReqAt_setTb (k : Nat) (x : TbSt) : (s.setTb k x).clk.ptpReqAt = s.clk.ptpReqAt := rfl
@[simp] theorem State.hsrRes_setTb (k : Nat) (x : TbSt) : (s.setTb k x).clk.hsrRes = s.clk.hsrRes := rfl
@[simp] theorem State.srcSince_setTb (k : Nat) (x : TbSt) : (s.setTb k x).clk.srcSince = s.clk.srcSince := rfl
@[simp] theorem State.ptpTwoStep_setTb (k : Nat) (x : TbSt) : (s.setTb k x).clk.ptpTwoStep = s.clk.ptpTwoStep := rfl
@[simp] theorem State.fld_setTb (k : Nat) (x : TbSt) : (s.setTb k x).fld = s.fld := rfl
@[simp] theorem State.cpu_setTb (k : Nat) (x : TbSt) : (s.setTb k x).cpu = s.cpu := rfl
@[simp] theorem State.saf_setTb (k : Nat) (x : TbSt) : (s.setTb k x).saf = s.saf := rfl
@[simp] theorem State.pair_setTb (k : Nat) (x : TbSt) : (s.setTb k x).pair = s.pair := rfl
@[simp] theorem State.grp_setTb (k : Nat) (x : TbSt) : (s.setTb k x).grp = s.grp := rfl
@[simp] theorem State.net_setTb (k : Nat) (x : TbSt) : (s.setTb k x).net = s.net := rfl
@[simp] theorem State.evr_setTb (k : Nat) (x : TbSt) : (s.setTb k x).evr = s.evr := rfl
@[simp] theorem State.fw_setTb (k : Nat) (x : TbSt) : (s.setTb k x).fw = s.fw := rfl
@[simp] theorem State.pw_setTb (k : Nat) (x : TbSt) : (s.setTb k x).pw = s.pw := rfl
@[simp] theorem State.ring_setTb (j k : Nat) (x : TbSt) : (s.setTb k x).ring j = s.ring j := rfl
@[simp] theorem State.slot_setTb (j k : Nat) (x : TbSt) : (s.setTb k x).slot j = s.slot j := rfl
@[simp] theorem State.node_setTb (j k : Nat) (x : TbSt) : (s.setTb k x).node j = s.node j := rfl
@[simp] theorem State.leg_setTb (j k : Nat) (x : TbSt) : (s.setTb k x).leg j = s.leg j := rfl
@[simp] theorem State.loc_setTb (j k : Nat) (x : TbSt) : (s.setTb k x).loc j = s.loc j := rfl
@[simp] theorem State.string_setTb (j k : Nat) (x : TbSt) : (s.setTb k x).string j = s.string j := rfl
@[simp] theorem State.cell_setTb (j k : Nat) (x : TbSt) : (s.setTb k x).cell j = s.cell j := rfl
@[simp] theorem State.engine_setTb (j k : Nat) (x : TbSt) : (s.setTb k x).engine j = s.engine j := rfl
@[simp] theorem State.sess_setTb (j k : Nat) (x : TbSt) : (s.setTb k x).sess j = s.sess j := rfl
@[simp] theorem State.member_setTb (j k : Nat) (x : TbSt) : (s.setTb k x).member j = s.member j := rfl
@[simp] theorem State.rd_setTb (k : Nat) (x : TbSt) (idx sub : Nat) : (s.setTb k x).rd idx sub = s.rd idx sub := rfl

@[simp] theorem State.member_setMember_same (k : Nat) (x : Member) : (s.setMember k x).member k = x := by simp [State.member, State.setMember]
theorem State.member_setMember (j k : Nat) (x : Member) : (s.setMember k x).member j = if j = k then x else s.member j := by
  simp [State.member, State.setMember, Tab.get_set]
@[simp] theorem State.setMember_setMember (k : Nat) (x y : Member) : (s.setMember k x).setMember k y = s.setMember k y := by simp [State.setMember]
@[simp] theorem State.pending_setMember (k : Nat) (x : Member) : (s.setMember k x).pending = s.pending := rfl
@[simp] theorem State.fresh_setMember (k : Nat) (x : Member) : (s.setMember k x).fresh = s.fresh := rfl
@[simp] theorem State.tx_setMember (k : Nat) (x : Member) : (s.setMember k x).tx = s.tx := rfl
@[simp] theorem State.sys_setMember (k : Nat) (x : Member) : (s.setMember k x).sys = s.sys := rfl
@[simp] theorem State.reg_setMember (k : Nat) (x : Member) : (s.setMember k x).reg = s.reg := rfl
@[simp] theorem State.clk_setMember (k : Nat) (x : Member) : (s.setMember k x).clk = s.clk := rfl
@[simp] theorem State.fld_setMember (k : Nat) (x : Member) : (s.setMember k x).fld = s.fld := rfl
@[simp] theorem State.cpu_setMember (k : Nat) (x : Member) : (s.setMember k x).cpu = s.cpu := rfl
@[simp] theorem State.saf_setMember (k : Nat) (x : Member) : (s.setMember k x).saf = s.saf := rfl
@[simp] theorem State.pair_setMember (k : Nat) (x : Member) : (s.setMember k x).pair = s.pair := rfl
@[simp] theorem State.leader_setMember (k : Nat) (x : Member) : (s.setMember k x).grp.leader = s.grp.leader := rfl
@[simp] theorem State.leaderNext_setMember (k : Nat) (x : Member) : (s.setMember k x).grp.leaderNext = s.grp.leaderNext := rfl
@[simp] theorem State.boottag_setMember (k : Nat) (x : Member) : (s.setMember k x).grp.boottag = s.grp.boottag := rfl
@[simp] theorem State.dupTicks_setMember (k : Nat) (x : Member) : (s.setMember k x).grp.dupTicks = s.grp.dupTicks := rfl
@[simp] theorem State.sent_setMember (k : Nat) (x : Member) : (s.setMember k x).grp.sent = s.grp.sent := rfl
@[simp] theorem State.unsyncThen_setMember (k : Nat) (x : Member) : (s.setMember k x).grp.unsyncThen = s.grp.unsyncThen := rfl
@[simp] theorem State.unsyncGood_setMember (k : Nat) (x : Member) : (s.setMember k x).grp.unsyncGood = s.grp.unsyncGood := rfl
@[simp] theorem State.tb1Hops_setMember (k : Nat) (x : Member) : (s.setMember k x).grp.tb1Hops = s.grp.tb1Hops := rfl
@[simp] theorem State.tb1At_setMember (k : Nat) (x : Member) : (s.setMember k x).grp.tb1At = s.grp.tb1At := rfl
@[simp] theorem State.refAt_setMember (k : Nat) (x : Member) : (s.setMember k x).grp.refAt = s.grp.refAt := rfl
@[simp] theorem State.linkDelay_setMember (k : Nat) (x : Member) : (s.setMember k x).grp.linkDelay = s.grp.linkDelay := rfl
@[simp] theorem State.gbseq_setMember (k : Nat) (x : Member) : (s.setMember k x).grp.gbseq = s.grp.gbseq := rfl
@[simp] theorem State.ctrFrame_setMember (k : Nat) (x : Member) : (s.setMember k x).grp.ctrFrame = s.grp.ctrFrame := rfl
@[simp] theorem State.sealFails_setMember (k : Nat) (x : Member) : (s.setMember k x).grp.sealFails = s.grp.sealFails := rfl
@[simp] theorem State.sealRecAt_setMember (k : Nat) (x : Member) : (s.setMember k x).grp.sealRecAt = s.grp.sealRecAt := rfl
@[simp] theorem State.laneFails_setMember (k : Nat) (x : Member) : (s.setMember k x).grp.laneFails = s.grp.laneFails := rfl
@[simp] theorem State.summaries_setMember (k : Nat) (x : Member) : (s.setMember k x).grp.summaries = s.grp.summaries := rfl
@[simp] theorem State.net_setMember (k : Nat) (x : Member) : (s.setMember k x).net = s.net := rfl
@[simp] theorem State.evr_setMember (k : Nat) (x : Member) : (s.setMember k x).evr = s.evr := rfl
@[simp] theorem State.fw_setMember (k : Nat) (x : Member) : (s.setMember k x).fw = s.fw := rfl
@[simp] theorem State.pw_setMember (k : Nat) (x : Member) : (s.setMember k x).pw = s.pw := rfl
@[simp] theorem State.ring_setMember (j k : Nat) (x : Member) : (s.setMember k x).ring j = s.ring j := rfl
@[simp] theorem State.slot_setMember (j k : Nat) (x : Member) : (s.setMember k x).slot j = s.slot j := rfl
@[simp] theorem State.node_setMember (j k : Nat) (x : Member) : (s.setMember k x).node j = s.node j := rfl
@[simp] theorem State.leg_setMember (j k : Nat) (x : Member) : (s.setMember k x).leg j = s.leg j := rfl
@[simp] theorem State.loc_setMember (j k : Nat) (x : Member) : (s.setMember k x).loc j = s.loc j := rfl
@[simp] theorem State.string_setMember (j k : Nat) (x : Member) : (s.setMember k x).string j = s.string j := rfl
@[simp] theorem State.cell_setMember (j k : Nat) (x : Member) : (s.setMember k x).cell j = s.cell j := rfl
@[simp] theorem State.engine_setMember (j k : Nat) (x : Member) : (s.setMember k x).engine j = s.engine j := rfl
@[simp] theorem State.sess_setMember (j k : Nat) (x : Member) : (s.setMember k x).sess j = s.sess j := rfl
@[simp] theorem State.tbs_setMember (j k : Nat) (x : Member) : (s.setMember k x).tbs j = s.tbs j := rfl
@[simp] theorem State.rd_setMember (k : Nat) (x : Member) (idx sub : Nat) : (s.setMember k x).rd idx sub = s.rd idx sub := rfl

/-! ### The register file -/

@[simp] theorem State.pending_wr (idx sub v : Nat) : (s.wr idx sub v).pending = s.pending := rfl
@[simp] theorem State.fresh_wr (idx sub v : Nat) : (s.wr idx sub v).fresh = s.fresh := rfl
@[simp] theorem State.tx_wr (idx sub v : Nat) : (s.wr idx sub v).tx = s.tx := rfl
@[simp] theorem State.sys_wr (idx sub v : Nat) : (s.wr idx sub v).sys = s.sys := rfl
@[simp] theorem State.clk_wr (idx sub v : Nat) : (s.wr idx sub v).clk = s.clk := rfl
@[simp] theorem State.fld_wr (idx sub v : Nat) : (s.wr idx sub v).fld = s.fld := rfl
@[simp] theorem State.cpu_wr (idx sub v : Nat) : (s.wr idx sub v).cpu = s.cpu := rfl
@[simp] theorem State.saf_wr (idx sub v : Nat) : (s.wr idx sub v).saf = s.saf := rfl
@[simp] theorem State.pair_wr (idx sub v : Nat) : (s.wr idx sub v).pair = s.pair := rfl
@[simp] theorem State.grp_wr (idx sub v : Nat) : (s.wr idx sub v).grp = s.grp := rfl
@[simp] theorem State.net_wr (idx sub v : Nat) : (s.wr idx sub v).net = s.net := rfl
@[simp] theorem State.evr_wr (idx sub v : Nat) : (s.wr idx sub v).evr = s.evr := rfl
@[simp] theorem State.fw_wr (idx sub v : Nat) : (s.wr idx sub v).fw = s.fw := rfl
@[simp] theorem State.pw_wr (idx sub v : Nat) : (s.wr idx sub v).pw = s.pw := rfl
@[simp] theorem State.shadow_wr (idx sub v : Nat) : (s.wr idx sub v).reg.shadow = s.reg.shadow := rfl
@[simp] theorem State.ctrOvf_wr (idx sub v : Nat) : (s.wr idx sub v).reg.ctrOvf = s.reg.ctrOvf := rfl
@[simp] theorem State.accSeq_wr (idx sub v : Nat) : (s.wr idx sub v).reg.accSeq = s.reg.accSeq := rfl
@[simp] theorem State.ring_wr (k idx sub v : Nat) : (s.wr idx sub v).ring k = s.ring k := rfl
@[simp] theorem State.slot_wr (k idx sub v : Nat) : (s.wr idx sub v).slot k = s.slot k := rfl
@[simp] theorem State.node_wr (k idx sub v : Nat) : (s.wr idx sub v).node k = s.node k := rfl
@[simp] theorem State.leg_wr (k idx sub v : Nat) : (s.wr idx sub v).leg k = s.leg k := rfl
@[simp] theorem State.loc_wr (k idx sub v : Nat) : (s.wr idx sub v).loc k = s.loc k := rfl
@[simp] theorem State.string_wr (k idx sub v : Nat) : (s.wr idx sub v).string k = s.string k := rfl
@[simp] theorem State.cell_wr (k idx sub v : Nat) : (s.wr idx sub v).cell k = s.cell k := rfl
@[simp] theorem State.engine_wr (k idx sub v : Nat) : (s.wr idx sub v).engine k = s.engine k := rfl
@[simp] theorem State.sess_wr (k idx sub v : Nat) : (s.wr idx sub v).sess k = s.sess k := rfl
@[simp] theorem State.tbs_wr (k idx sub v : Nat) : (s.wr idx sub v).tbs k = s.tbs k := rfl
@[simp] theorem State.member_wr (k idx sub v : Nat) : (s.wr idx sub v).member k = s.member k := rfl

/-- A register reads, after a write, the value written cut to the register's width. -/
@[simp] theorem State.rd_wr_same (idx sub v : Nat) : (s.wr idx sub v).rd idx sub = v % 2 ^ regBits (ekey idx sub) := by
  simp [State.rd, State.wr]

/-- A register of another key is left alone. -/
theorem State.rd_wr_ne (i j idx sub v : Nat) (h : ekey i j ≠ ekey idx sub) : (s.wr idx sub v).rd i j = s.rd i j := by
  simp [State.rd, State.wr, Tab.get_set_ne _ h]

@[simp] theorem State.pending_send (x : TxItem) : (s.send x).pending = s.pending := rfl
@[simp] theorem State.fresh_send (x : TxItem) : (s.send x).fresh = s.fresh := rfl
@[simp] theorem State.sys_send (x : TxItem) : (s.send x).sys = s.sys := rfl
@[simp] theorem State.reg_send (x : TxItem) : (s.send x).reg = s.reg := rfl
@[simp] theorem State.clk_send (x : TxItem) : (s.send x).clk = s.clk := rfl
@[simp] theorem State.fld_send (x : TxItem) : (s.send x).fld = s.fld := rfl
@[simp] theorem State.cpu_send (x : TxItem) : (s.send x).cpu = s.cpu := rfl
@[simp] theorem State.saf_send (x : TxItem) : (s.send x).saf = s.saf := rfl
@[simp] theorem State.pair_send (x : TxItem) : (s.send x).pair = s.pair := rfl
@[simp] theorem State.grp_send (x : TxItem) : (s.send x).grp = s.grp := rfl
@[simp] theorem State.net_send (x : TxItem) : (s.send x).net = s.net := rfl
@[simp] theorem State.evr_send (x : TxItem) : (s.send x).evr = s.evr := rfl
@[simp] theorem State.fw_send (x : TxItem) : (s.send x).fw = s.fw := rfl
@[simp] theorem State.pw_send (x : TxItem) : (s.send x).pw = s.pw := rfl
@[simp] theorem State.ring_send (x : TxItem) (k : Nat) : (s.send x).ring k = s.ring k := rfl
@[simp] theorem State.slot_send (x : TxItem) (k : Nat) : (s.send x).slot k = s.slot k := rfl
@[simp] theorem State.node_send (x : TxItem) (k : Nat) : (s.send x).node k = s.node k := rfl
@[simp] theorem State.leg_send (x : TxItem) (k : Nat) : (s.send x).leg k = s.leg k := rfl
@[simp] theorem State.loc_send (x : TxItem) (k : Nat) : (s.send x).loc k = s.loc k := rfl
@[simp] theorem State.string_send (x : TxItem) (k : Nat) : (s.send x).string k = s.string k := rfl
@[simp] theorem State.cell_send (x : TxItem) (k : Nat) : (s.send x).cell k = s.cell k := rfl
@[simp] theorem State.engine_send (x : TxItem) (k : Nat) : (s.send x).engine k = s.engine k := rfl
@[simp] theorem State.sess_send (x : TxItem) (k : Nat) : (s.send x).sess k = s.sess k := rfl
@[simp] theorem State.tbs_send (x : TxItem) (k : Nat) : (s.send x).tbs k = s.tbs k := rfl
@[simp] theorem State.member_send (x : TxItem) (k : Nat) : (s.send x).member k = s.member k := rfl
@[simp] theorem State.rd_send (x : TxItem) (idx sub : Nat) : (s.send x).rd idx sub = s.rd idx sub := rfl
@[simp] theorem State.pending_useFresh : (s.useFresh).pending = s.pending := rfl
@[simp] theorem State.tx_useFresh : (s.useFresh).tx = s.tx := rfl
@[simp] theorem State.sys_useFresh : (s.useFresh).sys = s.sys := rfl
@[simp] theorem State.reg_useFresh : (s.useFresh).reg = s.reg := rfl
@[simp] theorem State.clk_useFresh : (s.useFresh).clk = s.clk := rfl
@[simp] theorem State.fld_useFresh : (s.useFresh).fld = s.fld := rfl
@[simp] theorem State.cpu_useFresh : (s.useFresh).cpu = s.cpu := rfl
@[simp] theorem State.saf_useFresh : (s.useFresh).saf = s.saf := rfl
@[simp] theorem State.pair_useFresh : (s.useFresh).pair = s.pair := rfl
@[simp] theorem State.grp_useFresh : (s.useFresh).grp = s.grp := rfl
@[simp] theorem State.net_useFresh : (s.useFresh).net = s.net := rfl
@[simp] theorem State.evr_useFresh : (s.useFresh).evr = s.evr := rfl
@[simp] theorem State.fw_useFresh : (s.useFresh).fw = s.fw := rfl
@[simp] theorem State.pw_useFresh : (s.useFresh).pw = s.pw := rfl
@[simp] theorem State.ring_useFresh (k : Nat) : (s.useFresh).ring k = s.ring k := rfl
@[simp] theorem State.slot_useFresh (k : Nat) : (s.useFresh).slot k = s.slot k := rfl
@[simp] theorem State.node_useFresh (k : Nat) : (s.useFresh).node k = s.node k := rfl
@[simp] theorem State.leg_useFresh (k : Nat) : (s.useFresh).leg k = s.leg k := rfl
@[simp] theorem State.loc_useFresh (k : Nat) : (s.useFresh).loc k = s.loc k := rfl
@[simp] theorem State.string_useFresh (k : Nat) : (s.useFresh).string k = s.string k := rfl
@[simp] theorem State.cell_useFresh (k : Nat) : (s.useFresh).cell k = s.cell k := rfl
@[simp] theorem State.engine_useFresh (k : Nat) : (s.useFresh).engine k = s.engine k := rfl
@[simp] theorem State.sess_useFresh (k : Nat) : (s.useFresh).sess k = s.sess k := rfl
@[simp] theorem State.tbs_useFresh (k : Nat) : (s.useFresh).tbs k = s.tbs k := rfl
@[simp] theorem State.member_useFresh (k : Nat) : (s.useFresh).member k = s.member k := rfl
@[simp] theorem State.rd_useFresh (idx sub : Nat) : (s.useFresh).rd idx sub = s.rd idx sub := rfl
@[simp] theorem State.tx_send (x : TxItem) : (s.send x).tx = s.tx ++ [x] := rfl
@[simp] theorem State.fresh_useFresh : s.useFresh.fresh = s.fresh + 1 := rfl

end

end Sys2Proof.Machine
end

