-- ==== Sys2Proof/Laws/Engine.lean ====
section
/-! SUPPORT. The engines' shared operations: the end of a bundle, a syllable that may issue, and the arithmetic of the
saturating and rounding operations, said once for all instructions. -/

namespace Sys2Proof.Claims

open Sys2Proof.Machine

/-! ## The end of a bundle -/

theorem advance_pc_congr (x y : Engine) (h1 : x.pc = y.pc) (h2 : x.jump = y.jump) (h3 : x.lc0 = y.lc0)
    (h4 : x.lc1 = y.lc1) : x.advance.pc = y.advance.pc := by
  unfold Engine.advance
  simp only [h1, h2, h3, h4]
  cases y.jump <;> simp only
  repeat' split
  all_goals rfl

/-- What no register write touches, the write-back of a bundle keeps. -/
theorem writeBack_keeps {α : Type} (P : Engine → α) (h : ∀ x w, P (Engine.apply1 x w) = P x)
    (h2 : ∀ (x : Engine) v, P { x with st := v } = P x) (x : Engine) : P x.writeBack = P x := by
  have hf : ∀ (l : List RegW) (x : Engine), P (l.foldl Engine.apply1 x) = P x := by
    intro l
    induction l with
    | nil => intro x; rfl
    | cons w t ih => intro x; simp [List.foldl, ih, h]
  rw [Engine.writeBack, h2, hf]

theorem writeBack_pc (x : Engine) : x.writeBack.pc = x.pc :=
  writeBack_keeps (·.pc) (fun _ w => by cases w <;> rfl) (fun _ _ => rfl) x
theorem writeBack_jump (x : Engine) : x.writeBack.jump = x.jump :=
  writeBack_keeps (·.jump) (fun _ w => by cases w <;> rfl) (fun _ _ => rfl) x
theorem writeBack_lc0 (x : Engine) : x.writeBack.lc0 = x.lc0 :=
  writeBack_keeps (·.lc0) (fun _ w => by cases w <;> rfl) (fun _ _ => rfl) x
theorem writeBack_lc1 (x : Engine) : x.writeBack.lc1 = x.lc1 :=
  writeBack_keeps (·.lc1) (fun _ w => by cases w <;> rfl) (fun _ _ => rfl) x
theorem writeBack_data (x : Engine) : x.writeBack.data = x.data :=
  writeBack_keeps (·.data) (fun _ w => by cases w <;> rfl) (fun _ _ => rfl) x

/-- The next bundle does not depend on what the bundle wrote. -/
theorem endBundle_pc (x : Engine) : x.endBundle.pc = x.advance.pc :=
  advance_pc_congr x.writeBack x (writeBack_pc x) (writeBack_jump x) (writeBack_lc0 x) (writeBack_lc1 x)

/-- A bundle whose successor lies in program memory ends without an exception. -/
theorem endBundle_after (s : State) (y : Syl) (x : Engine) (hr : x.run = .running) (hp : InProgram y x) :
    (s.setEngine y.eng.val x).endBundle y = after s y x := by
  unfold State.endBundle after
  simp only [State.engine_setEngine_same, hr, and_true]
  by_cases hl : y.last = true
  · have : ¬ x.endBundle.pc > 8191 := by rw [endBundle_pc]; have := hp hl; omega
    simp [hl, this]
  · simp [hl]

theorem inProgram_collect {y : Syl} {x : Engine} (h : InProgram y x) (ws : List RegW) (m : Word) :
    InProgram y (collect x ws m) := by
  intro hl
  rw [advance_pc_congr (collect x ws m) x rfl rfl rfl rfl]
  exact h hl

/-! ## One syllable -/

/-- A syllable that may issue, and whose operation answers an engine that still runs, leaves that engine; the bundle ends
with its last syllable. -/
theorem syl_next {s : State} {y : Syl} {ok : VSlot → Bool} {f : Engine → Except Nat Engine} {x : Engine}
    (h : Issues s y ok) (hf : f (eng s y) = .ok x) (hr : x.run = .running) (hp : InProgram y x) :
    s.syl y ok f = after s y x := by
  obtain ⟨h1, h2, _⟩ := h
  unfold State.syl
  simp only [h1, h2, ne_eq, not_true, if_false, hf, Bool.true_eq_false]
  exact endBundle_after s y x hr hp

theorem put_collects {x : Engine} {w : RegW} (h : Unwritten x (regKey w)) (h2 : regKey w ≠ 46) :
    x.put w = .ok (collect x [w] 0) := by
  unfold Unwritten at h
  simp [Engine.put, collect, h, h2]

/-- A D register that the bundle has not written takes a result. -/
theorem putD_collects {x : Engine} {n : Nat} (hn : n < 32) (h : Unwritten x n) (v m : Word) :
    x.putD n (v, m) = .ok (collect x [.d n v] m) := by
  have hk : Unwritten x (regKey (.d n v)) := h
  simp only [Engine.putD, put_collects hk (by simp [regKey]; omega)]
  simp [Except.map, Engine.stick, collect]

/-- An accumulator that the bundle has not written takes a result. -/
theorem putA_collects {x : Engine} {n : Nat} (hn : n < 4) (h : Unwritten x (40 + n)) (v : Acc) (m : Word) :
    x.putA n (v, m) = .ok (collect x [.a n v] m) := by
  have hk : Unwritten x (regKey (.a n v)) := h
  simp only [Engine.putA, put_collects hk (by simp [regKey]; omega)]
  simp [Except.map, Engine.stick, collect]

/-- A syllable whose one result goes to a D register. -/
theorem syl_putD {s : State} {y : Syl} {d : Fin 32} {f : Engine → Word × Word} {v m : Word} {ok : VSlot → Bool}
    (h : Issues s y ok) (hu : Unwritten (eng s y) d.val) (hf : f (eng s y) = (v, m)) :
    s.syl y ok (fun x => x.putD d.val (f x)) = writes s y [.d d.val v] m := by
  refine syl_next (x := collect (eng s y) [.d d.val v] m) h ?_ h.1 (inProgram_collect h.2.2 _ _)
  simp only [hf]
  exact putD_collects d.isLt hu v m

/-- A syllable whose one result goes to an accumulator. -/
theorem syl_putA {s : State} {y : Syl} {a : Fin 4} {f : Engine → Acc × Word} {v : Acc} {m : Word} {ok : VSlot → Bool}
    (h : Issues s y ok) (hu : Unwritten (eng s y) (40 + a.val)) (hf : f (eng s y) = (v, m)) :
    s.syl y ok (fun x => x.putA a.val (f x)) = writes s y [.a a.val v] m := by
  refine syl_next (x := collect (eng s y) [.a a.val v] m) h ?_ h.1 (inProgram_collect h.2.2 _ _)
  simp only [hf]
  exact putA_collects a.isLt hu v m

/-! ## Arithmetic -/

theorem satInt_clamp (w : Nat) (v : Int) : satInt w v = clamp w v := by
  unfold satInt clamp clampI
  have h1 : ((2 ^ (w-1) : Nat) : Int) = (2 : Int) ^ (w-1) := by push_cast; rfl
  rw [h1]
  have : (0:Int) < 2 ^ (w-1) := by positivity
  split <;> [skip; split] <;> omega

theorem sat32_clamp (v : Int) : sat32 v = (BitVec.ofInt 32 (clamp 32 v), satBit 32 v) := by
  simp [sat32, satSticky, satBit, satInt_clamp, satMask]

theorem satQ15_clamp (v : Int) : satQ15 v = (BitVec.ofInt 32 (clamp 16 v), satBit 16 v) := by
  simp [satQ15, satSticky, satBit, satInt_clamp, satMask]

theorem lanes_clamp (h l : Int) : lanes h l =
    (BitVec.ofInt 16 (clamp 16 h) ++ BitVec.ofInt 16 (clamp 16 l), satBit 16 h ||| satBit 16 l) := by
  simp [lanes, satSticky, satBit, satInt_clamp, satMask]

/-- The engines' rounding shift computes what the manual's RND modes say. -/
theorem roundShift_rounded (rnd k : Nat) (hk : 0 < k) (v : Int) : roundShift rnd k v = rounded rnd k v := by
  unfold roundShift rounded
  have e : ((2 ^ (k + 1) : Nat) : Int) = 2 * ((2 ^ k : Nat) : Int) := by push_cast; ring
  rw [e]
  have hp : (0 : Int) < ((2 ^ k : Nat) : Int) := by positivity
  have he : ((2 ^ k : Nat) : Int) % 2 = 0 := by
    obtain ⟨j, rfl⟩ := Nat.exists_eq_succ_of_ne_zero (Nat.pos_iff_ne_zero.mp hk)
    rw [pow_succ]; push_cast; omega
  generalize ((2 ^ k : Nat) : Int) = K at hp he
  rw [Int.fdiv_eq_ediv_of_nonneg _ (by omega), Int.fmod_eq_emod_of_nonneg _ (by omega),
    Int.fdiv_eq_ediv_of_nonneg _ (by omega), Int.fmod_eq_emod_of_nonneg _ (by omega),
    Int.mul_emod_mul_of_pos _ _ (by norm_num)]
  have h1 := Int.mul_ediv_add_emod v K
  have h2 := Int.emod_nonneg v (ne_of_gt hp)
  have h3 := Int.emod_lt_of_pos v hp
  have hup : (2 * v + K) / (2 * K) = if 2 * (v % K) ≥ K then v / K + 1 else v / K := by
    generalize v / K = q at *
    generalize v % K = r at *
    split
    · rw [Int.ediv_eq_iff_of_pos (by omega)]; constructor <;> nlinarith
    · rw [Int.ediv_eq_iff_of_pos (by omega)]; constructor <;> nlinarith
  simp only [hup]
  generalize v / K = q at *
  generalize v % K = r at *
  by_cases h0 : rnd = 0
  · simp [h0]
  by_cases h22 : rnd = 2
  · by_cases hq : 2 * r = K
    · subst h22
      simp [hq]
      split <;> split <;> omega
    · simp [h22, hq]
  · simp [h0, h22]

end Sys2Proof.Claims
end

