-- ==== Sys2Proof/Laws/Ops.lean ====
section
/-! SUPPORT. The shared operations of the register file, the counters, the event recorder and the fault collector: what each
may change, said once, and that each keeps the store of the entries canonical. -/

namespace Sys2Proof.Machine

open Sys2Proof.Claims

/-! ## What an operation may change -/

/-- A counter's increment changes the register file only. -/
theorem State.bump_frame (s : State) (i j : Nat) : ∃ r, s.bump i j = { s with reg := r } := by
  unfold State.bump State.wr
  dsimp only
  split <;> exact ⟨_, rfl⟩

/-- The circulating area is the recorder's. -/
theorem State.putCirc_frame (s : State) (n : EvRec) : ∃ e, s.putCirc n = { s with evr := e } := ⟨_, rfl⟩

theorem State.putKeep_frame (s : State) (n : EvRec) : ∃ r e, s.putKeep n = { s with reg := r, evr := e } := by
  unfold State.putKeep
  split
  · exact ⟨s.reg, _, rfl⟩
  · dsimp only
    split
    · obtain ⟨r, h⟩ := State.bump_frame { s with evr.keepFirst := saveReps (dropNewest (·.sev) (lowSev (·.sev) s.evr.keepFirst 8)
        s.evr.keepFirst) ++ [n] } 0x6000 6
      exact ⟨r, _, h⟩
    · obtain ⟨r, h⟩ := State.bump_frame s 0x6000 5
      exact ⟨r, s.evr, h⟩

/-- Placing a record changes the recorder, and its loss counters in the register file. -/
theorem State.putRec_frame (s : State) (n : EvRec) : ∃ r e, s.putRec n = { s with reg := r, evr := e } := by
  unfold State.putRec
  split
  · exact ⟨s.reg, _, rfl⟩
  · exact State.putKeep_frame s n

theorem State.putBuf_frame (s : State) (n : EvRec) : ∃ r e, s.putBuf n = { s with reg := r, evr := e } := by
  unfold State.putBuf
  split
  · exact ⟨s.reg, _, rfl⟩
  · dsimp only
    split
    · exact ⟨s.reg, _, rfl⟩
    · obtain ⟨r, h⟩ := State.bump_frame s 0x6000 8
      exact ⟨r, s.evr, h⟩

/-- One event changes the recorder, and its loss counters in the register file. -/
theorem State.evOne_frame (s : State) (sev origin unit code data : Nat) :
    ∃ r e, s.evOne sev origin unit code data = { s with reg := r, evr := e } := by
  unfold State.evOne
  dsimp only
  repeat' split
  all_goals first
    | exact ⟨s.reg, s.evr, rfl⟩
    | exact ⟨s.reg, _, rfl⟩
    | (obtain ⟨r, e, h⟩ := State.putBuf_frame
        { s with evr.evSeq := (s.mkRec sev origin unit code data).seq } (s.mkRec sev origin unit code data)
       exact ⟨r, e, h⟩)
    | (obtain ⟨r, e, h⟩ := State.putKeep_frame
        { s with evr.evSeq := (s.mkRec sev origin unit code data).seq } (s.mkRec sev origin unit code data)
       exact ⟨r, e, h⟩)

/-- Writing an event changes the recorder, and in the register file its loss counters and their overflow flags. -/
theorem State.ev_frame (s : State) (sev origin unit code data : Nat) :
    ∃ r e, s.ev sev origin unit code data = { s with reg := r, evr := e } := by
  unfold State.ev
  dsimp only
  obtain ⟨r, e, h⟩ := State.evOne_frame s sev origin unit code data
  split
  · next k hk =>
    obtain ⟨r', e', h'⟩ := State.evOne_frame (s.evOne sev origin unit code data) 2 11 0 evAction (ekey 0x6000 k)
    rw [h', h]
    exact ⟨r', e', rfl⟩
  · exact ⟨r, e, h⟩

/-- A counter of R33 changes the register file and, at its limit, the recorder. -/
theorem State.count_frame (s : State) (i j : Nat) : ∃ r e, s.count i j = { s with reg := r, evr := e } := by
  unfold State.count
  dsimp only
  split
  · exact ⟨_, s.evr, rfl⟩
  · split
    · exact ⟨s.reg, s.evr, rfl⟩
    · obtain ⟨r, h⟩ := State.bump_frame s i j
      obtain ⟨r', e, h'⟩ := State.ev_frame (s.bump i j) 2 11 0 evAction (ekey i j)
      rw [h', h]
      exact ⟨r', e, rfl⟩

theorem State.countN_frame (s : State) (i j n : Nat) : ∃ r e, s.countN i j n = { s with reg := r, evr := e } := by
  induction n generalizing s with
  | zero => exact ⟨s.reg, s.evr, rfl⟩
  | succ n ih =>
    obtain ⟨r, e, h⟩ := State.count_frame s i j
    obtain ⟨r', e', h'⟩ := ih (s.count i j)
    rw [State.countN, h', h]
    exact ⟨r', e', rfl⟩

/-- An occurrence of a source changes the register file, the recorder and the notes of the collector. -/
theorem State.occur_frame (s : State) (src : Nat) :
    ∃ r e f, s.occur src = { s with reg := r, evr := e, saf := f } := by
  unfold State.occur
  dsimp only
  obtain ⟨r, e, h⟩ := State.count_frame (s.wrBit 0x4201 (src / 16 + 1) (src % 16) true) (0x4210 + src / 16) (src % 16 + 1)
  rw [h]
  obtain ⟨r', e', h'⟩ := State.ev_frame
    { s with reg := r, evr := e, saf.newOcc := s.saf.newOcc ||| BitVec.ofNat 16 (2 ^ (src / 16)) }
    (if src / 16 ≤ 1 then 6 else 3) 0 src evOccur 0
  exact ⟨r', e', _, h'⟩

/-- Raising a source changes the register file, the recorder and the collector's causes. -/
theorem State.raise_frame (s : State) (src : Nat) : ∃ r e f, s.raise src = { s with reg := r, evr := e, saf := f } := by
  unfold State.raise
  split
  · exact ⟨s.reg, s.evr, _, rfl⟩
  · obtain ⟨r, e, f, h⟩ := State.occur_frame (s.setOwn src true) src
    exact ⟨r, e, f, h⟩

theorem State.cond_frame (s : State) (src : Nat) (b : Bool) :
    ∃ r e f, s.cond src b = { s with reg := r, evr := e, saf := f } := by
  cases b
  · exact ⟨s.reg, s.evr, _, rfl⟩
  · exact State.raise_frame s src

/-- A transition of the device state changes that state and the recorder with its loss counters. -/
theorem State.setDev_frame (s : State) (d : DevState) :
    ∃ r e, s.setDev d = { s with reg := r, evr := e, sys.dev := d } := by
  unfold State.setDev
  split
  · rename_i h
    subst h
    exact ⟨s.reg, s.evr, rfl⟩
  · obtain ⟨r, e, h⟩ := State.ev_frame { s with sys.dev := d } 1 1 (devCode d) evState 0
    exact ⟨r, e, h⟩

/-! ## The store of the entries stays canonical -/

theorem Tab.pairwise_erase {α : Type} {m : Tab α} (h : m.Pairwise (fun a b => a.1 < b.1)) (k : Nat) :
    (Tab.erase k m).Pairwise (fun a b => a.1 < b.1) := by
  induction m with
  | nil => exact h
  | cons e t ih =>
    obtain ⟨h1, h2⟩ := List.pairwise_cons.mp h
    by_cases hk : e.1 = k
    · simpa [Tab.erase, hk] using ih h2
    · simp only [Tab.erase, hk, if_false]
      exact List.pairwise_cons.mpr ⟨fun x hx => h1 x (Tab.mem_erase hx).1, ih h2⟩

theorem Tab.pairwise_ins {α : Type} {m : Tab α} (h : m.Pairwise (fun a b => a.1 < b.1)) (k : Nat) (v : α)
    (hk : ∀ e ∈ m, e.1 ≠ k) : (Tab.ins k v m).Pairwise (fun a b => a.1 < b.1) := by
  induction m with
  | nil => simp [Tab.ins]
  | cons e t ih =>
    obtain ⟨h1, h2⟩ := List.pairwise_cons.mp h
    by_cases hl : k < e.1
    · simp only [Tab.ins, hl, if_true]
      refine List.pairwise_cons.mpr ⟨fun x hx => ?_, h⟩
      rcases List.mem_cons.mp hx with rfl | hx
      · exact hl
      · exact Nat.lt_trans hl (h1 x hx)
    · simp only [Tab.ins, hl, if_false]
      have he : e.1 < k := by
        have := hk e (by simp)
        omega
      refine List.pairwise_cons.mpr ⟨fun x hx => ?_, ih h2 (fun x hx => hk x (List.mem_cons_of_mem _ hx))⟩
      rcases Tab.mem_ins hx with rfl | hx
      · exact he
      · exact h1 x hx

/-- The canonical form is a matter of the store alone. -/
theorem entries_congr {s t : State} (h : t.reg.od = s.reg.od) (hs : EntriesCanonical s) : EntriesCanonical t := by
  unfold EntriesCanonical at *
  rw [h]
  exact hs

/-- A write of an entry keeps the store canonical. -/
theorem entries_wr {s : State} (i j v : Nat) (h : EntriesCanonical s) : EntriesCanonical (s.wr i j v) := by
  obtain ⟨h1, h2⟩ := h
  unfold EntriesCanonical State.wr
  dsimp only
  generalize ekey i j = k
  unfold Tab.set
  split
  · exact ⟨Tab.pairwise_erase h1 k, fun p hp => h2 p (Tab.mem_erase hp).1⟩
  · rename_i hd
    refine ⟨Tab.pairwise_ins (Tab.pairwise_erase h1 k) k _ (fun e he => (Tab.mem_erase he).2), fun p hp => ?_⟩
    rcases Tab.mem_ins hp with rfl | hp
    · exact ⟨hd, Nat.mod_lt _ (Nat.two_pow_pos _)⟩
    · exact h2 p (Tab.mem_erase hp).1

theorem entries_wrBit {s : State} (i j b : Nat) (v : Bool) (h : EntriesCanonical s) : EntriesCanonical (s.wrBit i j b v) :=
  entries_wr i j _ h

theorem entries_bump {s : State} (i j : Nat) (h : EntriesCanonical s) : EntriesCanonical (s.bump i j) := by
  unfold State.bump
  dsimp only
  split
  · exact entries_wr i j _ h
  · exact entries_congr rfl h

theorem entries_putKeep {s : State} (n : EvRec) (h : EntriesCanonical s) : EntriesCanonical (s.putKeep n) := by
  unfold State.putKeep
  split
  · exact entries_congr rfl h
  · dsimp only
    split
    · exact entries_bump _ _ (entries_congr rfl h)
    · exact entries_bump _ _ h

theorem entries_putBuf {s : State} (n : EvRec) (h : EntriesCanonical s) : EntriesCanonical (s.putBuf n) := by
  unfold State.putBuf
  split
  · exact entries_congr rfl h
  · dsimp only
    split
    · exact entries_congr rfl h
    · exact entries_bump _ _ h

/-- One event keeps the store canonical. -/
theorem entries_evOne {s : State} (sev origin unit code data : Nat) (h : EntriesCanonical s) :
    EntriesCanonical (s.evOne sev origin unit code data) := by
  unfold State.evOne
  dsimp only
  repeat' split
  all_goals first
    | exact entries_congr rfl h
    | exact entries_putBuf _ (entries_congr rfl h)
    | exact entries_putKeep _ (entries_congr rfl h)

/-- Writing an event keeps the store canonical. -/
theorem entries_ev {s : State} (sev origin unit code data : Nat) (h : EntriesCanonical s) :
    EntriesCanonical (s.ev sev origin unit code data) := by
  unfold State.ev
  dsimp only
  split
  · exact entries_evOne _ _ _ _ _ (entries_evOne _ _ _ _ _ h)
  · exact entries_evOne _ _ _ _ _ h

/-- A counter's increment keeps the store canonical. -/
theorem entries_count {s : State} (i j : Nat) (h : EntriesCanonical s) : EntriesCanonical (s.count i j) := by
  unfold State.count
  dsimp only
  split
  · exact entries_wr i j _ h
  · split
    · exact h
    · exact entries_ev _ _ _ _ _ (entries_bump i j h)

theorem entries_countN {s : State} (i j n : Nat) (h : EntriesCanonical s) : EntriesCanonical (s.countN i j n) := by
  induction n generalizing s with
  | zero => exact h
  | succ n ih => exact ih (entries_count i j h)

theorem entries_occur {s : State} (src : Nat) (h : EntriesCanonical s) : EntriesCanonical (s.occur src) :=
  entries_ev _ _ _ _ _ (entries_congr (s := (s.wrBit 0x4201 (src / 16 + 1) (src % 16) true).count (0x4210 + src / 16) (src % 16 + 1))
    rfl (entries_count _ _ (entries_wrBit _ _ _ _ h)))

/-- Raising a source keeps the store canonical. -/
theorem entries_raise {s : State} (src : Nat) (h : EntriesCanonical s) : EntriesCanonical (s.raise src) := by
  unfold State.raise
  split
  · exact entries_congr rfl h
  · exact entries_occur src (entries_congr rfl h)

theorem entries_cond {s : State} (src : Nat) (b : Bool) (h : EntriesCanonical s) : EntriesCanonical (s.cond src b) := by
  cases b
  · exact entries_congr (s := s) rfl h
  · exact entries_raise src h

theorem entries_setDev {s : State} (d : DevState) (h : EntriesCanonical s) : EntriesCanonical (s.setDev d) := by
  unfold State.setDev
  split
  · exact h
  · exact entries_ev _ _ _ _ _ (entries_congr rfl h)

end Sys2Proof.Machine
end

