-- ==== Sys2Proof/WellFormed.lean ====
section
/-! DEFINITION. Well-formed commands: the checks on a command's operands that its type does not already make. A command that fails
them carries a value that no frame, pin or host of the manual can bring; `exec` is total on such commands too. -/

namespace Sys2Proof

/-- The values of an edge descriptor fit its fields (Table DL-11). -/
def Edge.wf (e : Edge) : Bool := decide (e.leg < 8 ∧ e.strength < 8 ∧ e.offset < 2 ^ 24)

/-- The values of a node record fit its fields, NEDGE six bits (Table DL-9). -/
def NodeRec.wf (r : NodeRec) : Bool := decide (r.pos < 16 ∧ r.cmd < 16 ∧ r.edges.length < 64) && r.edges.all Edge.wf

/-- The values of a Wale header fit its fields (Tables DL-5 and DL-8). -/
def WaleHdr.wf (h : WaleHdr) : Bool := decide (h.ring < 48 ∧ h.devid < 512 ∧ h.epoch < 2 ^ 32 ∧ h.state < 16 ∧ h.role < 4)

/-- The values of a Response fit its fields (Table DL-12). -/
def Response.wf (r : Response) : Bool :=
  decide (r.ring < 48 ∧ r.pos < 16 ∧ r.meas.length ≤ 8 ∧ r.tj.length ≤ 8 ∧ r.swt.length ≤ 8)

/-- The values of a Heartbeat fit its fields (Table DL-15). -/
def Heartbeat.wf (h : Heartbeat) : Bool := decide (h.devid < 512 ∧ h.epoch < 2 ^ 32 ∧ h.ladder < 8)

/-- An item of a READ names an entry by 16-bit index and 8-bit subindex (Table OD-11). -/
def RItem.wf (i : RItem) : Bool := decide (i.idx < 65536 ∧ i.sub < 256)

/-- An item of a WRITE: its value has the length it says (Table OD-11). -/
def WItem.wf (i : WItem) : Bool := decide (i.idx < 65536 ∧ i.sub < 256 ∧ i.ty < 16 ∧ i.val < 256 ^ i.len)

/-- A segment of a configuration forward: its number and its content fit their fields (Table RP-12). -/
def CfgSeg.wf (c : CfgSeg) : Bool := decide (c.segno < 65536 ∧ c.content.length ≤ 1024)

/-- A scope names one of the six strings. -/
def Scope.wf : Scope → Bool
  | .cluster => true
  | .string s => decide (s < 6)

/-- A digest's values fit its fields (Table RP-9). -/
def Digest.wf (d : Digest) : Bool := decide (d.devid < 512 ∧ d.state < 16 ∧ d.role < 4 ∧ d.share.length = 32)

/-- A coast pattern of Table DL-16: at most 128 entries, each within the period. -/
def CoastPat.wf (p : CoastPat) : Bool :=
  decide (p.ents.length ≤ 128) && p.ents.all (fun e => decide (e.leg < 8 ∧ e.offset < p.period))

/-- Straps: a nine-bit DEVID. -/
def Straps.wf (x : Straps) : Bool := decide (x.devid < 512)

/-- A nine-bit DEVID (R4). -/
def devidOk (d : Nat) : Bool := decide (d < 512)

/-- The TARGET of a PDU: a DEVID, or 0xFFFF for the session's own device (Table OD-8). -/
def targetOk (d : Nat) : Bool := devidOk d || d == 0xFFFF

/-- Do a proxy frame's target, entry device and HOPS fit their fields (Tables RP-7 and RP-13)? -/
def ProxyVia.wf (v : ProxyVia) : Bool := devidOk v.target && devidOk v.entry && decide (v.hops < 64)

/-- A reading of a rail or of a voltage in millivolts, U16. -/
def u16Ok (v : Nat) : Bool := decide (v < 65536)

/-- A conversion of 16 bits, single-ended or differential (R238). -/
def convOk (v : Option Int) : Bool := v.all (fun x => decide (-32768 ≤ x ∧ x ≤ 65535))

/-- Is a syllable's word one that no other command spells: OP 0x00, or a reserved OP or FN (Tables CE-5 and CE-6)? -/
def sylWordOk (w : BitVec 32) : Bool :=
  let op := (w.extractLsb' 27 5).toNat
  let fn (lo n : Nat) : Nat := (w.extractLsb' lo n).toNat
  op == 0 || decide (9 ≤ op ∧ op ≤ 15) || op == 0x1B || decide (0x1D ≤ op) ||
  (op == 1 && decide (0x19 ≤ fn 6 6 ∧ fn 6 6 ≠ 0x20 ∧ fn 6 6 ≠ 0x21)) || (op == 0x1A && decide (9 ≤ fn 15 5)) ||
  (op == 0x1C && decide (8 ≤ fn 23 4))

/-- Is a command well formed? Commands whose operands are bit vectors, bounded numbers and Booleans alone always are. -/
def Instr.wf : Instr → Bool
  | .nodeSample _ meas tj _ _ => decide (meas.length ≤ 8 ∧ tj.length ≤ 4)
  | .nop y => sylWordOk y.word
  | .adcRound _ e o sp => e.all convOk && o.all convOk && convOk sp && decide (e.length ≤ 16 ∧ o.length ≤ 16)
  | .responseReceive _ r _ _ => r.wf
  | .ringHeartbeatReceive _ h _ => h.wf
  | .mgmtReply _ _ status data _ _ => decide (status < 256 ∧ data.length ≤ 256)
  | .thresholdReadback _ a b => decide (-32768 ≤ a ∧ a < 32768 ∧ -32768 ≤ b ∧ b < 32768)
  | .workingCopyCheck crc => decide (crc < 2 ^ 32)
  | .responseRelay _ _ r _ _ => r.wf
  | .cfgFwdBankContents _ _ _ c => c.wf
  | .cfgFwdEnginePackage _ _ _ c => c.wf
  | .forwardAck _ st => decide (st < 256)
  | .dictWrite _ w => w.wf
  | .counterClear _ i k => u16Ok i && decide (k < 256)
  | .inactiveBankWrite _ _ off bs => decide (off + bs.length ≤ 4096)
  | .read _ _ t is => targetOk t && is.all RItem.wf
  | .descRead _ _ t is => targetOk t && is.all RItem.wf
  | .shadowRead _ _ t is => targetOk t && is.all RItem.wf
  | .write _ _ t is => targetOk t && is.all WItem.wf
  | .yelmAdd _ _ t is => targetOk t && is.all WItem.wf
  | .lock _ _ t sc => targetOk t && sc.wf
  | .unlock _ _ t sc => targetOk t && sc.wf
  | .yelmOpen _ _ t sc => targetOk t && sc.wf
  | .yelmCommit _ _ t _ => targetOk t
  | .subscribeOpen _ _ t _ _ is => targetOk t && is.all RItem.wf
  | .subscribeClose _ _ t _ => targetOk t
  | .heartbeat _ _ t => targetOk t
  | .fileOpen _ _ f _ _ => targetOk f.target && decide (f.fileId < 256)
  | .fileData _ _ seg bs f => targetOk f.target && decide (f.fileId < 256 ∧ seg < 2 ^ 32 ∧ bs.length ≤ 992)
  | .fileClose _ _ t id _ => targetOk t && decide (id < 256)
  | .fileAbort _ h => targetOk h.file.target && decide (h.file.fileId < 256)
  | .proxyRequest w d e _ _ _ _ x => (ProxyVia.of w { target := d, entry := e } x).wf
  | .proxyReply w e _ _ _ x => (ProxyVia.of w e x).wf
  | .proxyNotification w e _ _ x => (ProxyVia.of w e x).wf
  | .proxyClose w e _ x => (ProxyVia.of w e x).wf
  | .cfgFwdWriteItems _ _ c => c.wf
  | .cfgFwdYelm _ _ c => c.wf
  | .digestFrame _ d _ => d.wf
  | .thermalRestart st => st.wf
  | .powerOn st => st.wf
  | .resetNRise _ st => st.wf
  | .wakePin _ st => st.wf
  | .wakeTimer st => st.wf
  | .watchdogResetEnd st => st.wf
  | .railUndervoltage _ mv => u16Ok mv
  | .railVoltageRefresh mvs => mvs.all u16Ok
  | .nodeWaleHeader _ _ h => h.wf
  | .nodeRegularRecord _ h r _ => h.wf && r.wf
  | .nodeSupplementaryRecord _ h r _ => h.wf && r.wf
  | .nodeCoastPattern _ d _ p _ => devidOk d && p.wf
  | .nodeMgmtRead _ _ m a c => devidOk m.devid && u16Ok a && u16Ok c
  | .nodeMgmtWrite _ _ d _ a data => devidOk d && u16Ok a && decide (data.length ≤ 256)
  | .nodeMgmtReservedOp _ _ m op => devidOk m.devid && decide (3 ≤ op ∧ op < 16)
  | .nodeIdentityRead _ _ m => devidOk m.devid
  | .nodeSrst _ _ d _ => devidOk d
  | .nodeCfgDone _ _ d _ _ => devidOk d
  | _ => true

end Sys2Proof
end

