-- ==== Sys2Proof/Tests/Slice0.lean ====
section
/-! SUPPORT. The tests of this model: an ill-formed command for each check of WellFormed, for each statement concrete states and operands that
meet its hypotheses, and single steps on small states whose results are worked out from the manual. -/

namespace Sys2Proof.Tests

set_option Elab.async false

open Sys2Proof Sys2Proof.Machine Sys2Proof.Claims

/-! ## States -/

/-- A device in RUN, the runtime up. -/
def running : State := { State.reset with sys.dev := .run }

/-- A value of an entry put in place. -/
def put (s : State) (idx sub v : Nat) : State := s.wr idx sub v

/-- An engine that runs, with two registers and two pointers set. -/
def engOn : Engine :=
  { Engine.init with
    run := .running, d := [(1, 0x7FFFFFFF), (2, 5), (3, 0x10000)], p := [(0, 0x10000010), (1, 0x30010020)] }

/-- A device in RUN whose engine 3 runs. -/
def engSt : State := running.setEngine 3 engOn

/-- A syllable of engine 3. -/
def syl (slot : VSlot) (last : Bool) : Syl := ⟨3, slot, last⟩

/-! ## Well-formedness: an ill-formed command for each check, and one that passes -/

theorem wf_edge : (Edge.wf { leg := 8, st := .high, strength := 0, offset := 0 }) = false ∧ (Edge.wf { leg := 7, st := .high, strength := 8, offset := 0 }) = false ∧
    (Edge.wf { leg := 7, st := .high, strength := 7, offset := 2 ^ 24 }) = false ∧ (Edge.wf { leg := 7, st := .high, strength := 7, offset := 2 ^ 24 - 1 }) = true := by decide +kernel

theorem wf_record : (NodeRec.wf { pos := 16, cmd := 0, arg := 0, edges := [], rcrcOk := true }) = false ∧
    (NodeRec.wf { pos := 0, cmd := 16, arg := 0, edges := [], rcrcOk := true }) = false ∧
    (NodeRec.wf { pos := 0, cmd := 0, arg := 0, edges := List.replicate 64 { leg := 0, st := .off, strength := 0, offset := 0 }, rcrcOk := true }) = false := by decide +kernel

theorem wf_item : (RItem.wf { idx := 65536, sub := 0, offset := 0, maxLen := 4 }) = false ∧ (WItem.wf { idx := 1, sub := 1, ty := 2, offset := 0, len := 1, val := 256 }) = false ∧
    (WItem.wf { idx := 1, sub := 1, ty := 2, offset := 0, len := 1, val := 255 }) = true := by decide +kernel

theorem wf_scope : (Instr.lock 0 0 0 (.string 6)).wf = false ∧ (Instr.lock 0 0 512 .cluster).wf = false ∧ (Instr.lock 0 0 511 (.string 5)).wf = true ∧
    (Instr.heartbeat 0 0 0xFFFF).wf = true ∧ (Instr.heartbeat 0 0 0xFFFE).wf = false := by decide +kernel

theorem wf_pattern : (CoastPat.wf { pver := 0, anchor := 0, period := 256000, ents := [{ leg := 8, st := .off, strength := 0, offset := 0 }] }) = false ∧
    (CoastPat.wf { pver := 0, anchor := 0, period := 256000, ents := [{ leg := 0, st := .off, strength := 0, offset := 256000 }] }) = false := by decide +kernel

theorem wf_straps : (Straps.wf { devid := 512, pairselB := false, bootsel := false }) = false := by decide +kernel

theorem wf_management : (Instr.nodeMgmtRead 0 false ⟨0, 0⟩ 65536 1).wf = false ∧ (Instr.nodeMgmtRead 0 false ⟨512, 0⟩ 0 1).wf = false ∧ (Instr.nodeMgmtWrite 0 false 512 0 0 []).wf = false ∧
    (Instr.nodeMgmtReservedOp 0 false ⟨0, 0⟩ 2).wf = false ∧ (Instr.nodeMgmtReservedOp 0 false ⟨0, 0⟩ 15).wf = true ∧
    (Instr.nodeIdentityRead 0 false ⟨512, 0⟩).wf = false := by decide +kernel

theorem wf_values : (Instr.workingCopyCheck (2 ^ 32)).wf = false ∧ (Instr.thresholdReadback 0 32768 0).wf = false ∧ (Instr.forwardAck ⟨0, ⟨false, true⟩⟩ 256).wf = false ∧
    (Instr.inactiveBankWrite 0 0 4096 [0]).wf = false ∧ (Instr.counterClear 0 0 256).wf = false ∧ (Instr.railUndervoltage 0 65536).wf = false ∧
    (Instr.railVoltageRefresh [65536]).wf = false ∧ (Instr.nodeSample 0 (List.replicate 9 0) [] true true).wf = false := by decide +kernel

theorem wf_files : (Instr.fileOpen 0 0 ⟨0xFFFF, 256⟩ true 0).wf = false ∧ (Instr.fileOpen 0 0 ⟨512, 1⟩ true 0).wf = false ∧
    (Instr.fileData 0 0 (2 ^ 32) [] ⟨0, 1⟩).wf = false ∧ (Instr.fileData 0 0 0 (List.replicate 993 0) ⟨0, 1⟩).wf = false ∧
    (Instr.fileClose 0 0 0 256 0).wf = false ∧ (Instr.fileAbort 0 ⟨0, ⟨512, 1⟩⟩).wf = false ∧ (Instr.fileAbort 0 ⟨0, ⟨0xFFFF, 1⟩⟩).wf = true := by decide +kernel

theorem wf_segments : (CfgSeg.wf { segno := 65536, last := true, content := [], via := ⟨false, true⟩ }) = false ∧
    (CfgSeg.wf { segno := 0, last := true, content := List.replicate 1025 0, via := ⟨false, true⟩ }) = false ∧
    (Instr.cfgFwdYelm 0 0 ⟨65536, true, [], ⟨false, true⟩⟩).wf = false ∧ (Instr.cfgFwdWriteItems 0 0 ⟨1, true, [], ⟨false, true⟩⟩).wf = true := by decide +kernel

/-! ## Witnesses: engines -/

theorem witness_EngineAluResults :
    Issues engSt (syl .c true) slotCL ∧ Unwritten (eng engSt (syl .c true)) 31 ∧ (syl .c true).slot = .c := by
  unfold Issues InProgram Unwritten; decide

theorem witness_EngineFlagsAndMoves :
    Issues engSt (syl .l false) slotCL ∧ Unwritten (eng engSt (syl .l false)) 39 ∧ Unwritten (eng engSt (syl .l false)) 46 ∧
      (eng engSt (syl .l false)).flagW = none := by
  unfold Issues InProgram Unwritten; decide

theorem witness_EngineAccumulatorResults :
    Issues engSt (syl .m0 true) slotM ∧ Unwritten (eng engSt (syl .m0 true)) 43 ∧ Unwritten (eng engSt (syl .m0 true)) 44 ∧
      Issues engSt (syl .m1 false) slotM ∧ Unwritten (eng engSt (syl .m1 false)) 45 ∧ Unwritten (eng engSt (syl .m1 false)) 0 := by
  unfold Issues InProgram Unwritten; decide

/-- An engine that has collected a write of each kind. -/
def engW : Engine := { engOn with writes := [.d 31 1, .p 7 2, .a 3 4, .k0 5, .k1 6, .st 7] }

theorem witness_BundleEndWritesBack :
    engW.writes.Pairwise (fun v w => regKey v ≠ regKey w) ∧ (∀ w ∈ engW.writes, regKey w ≤ 46) ∧ engW.jump = none ∧ engW.waitW = none ∧
      engW.lc0.cnt = 0 ∧ engW.lc1.cnt = 0 ∧ (∀ v, RegW.d 0 v ∉ engW.writes) := by
  refine ⟨by decide, by decide, rfl, rfl, rfl, rfl, ?_⟩
  intro v; simp [engW]

/-- A memory operand over pointer P`b`. -/
def memOp (b : Fin 8) (mode : BitVec 2) (disp : BitVec 17) : MemOp := ⟨b, mode, disp⟩

/-- The engine with P2 at the last eight bytes of data memory and P3 at its first. -/
def memSt : State := running.setEngine 3 { engOn with p := [(2, 0x1003FFF8), (3, 0x10000000)] }

theorem witness_EngineLoads :
    Issues memSt (syl .l true) slotL ∧ MemOk (eng memSt (syl .l true)) (memOp 2 1 4) ∧ Unwritten (eng memSt (syl .l true)) 30 ∧
      Unwritten (eng memSt (syl .l true)) 31 ∧ Unwritten (eng memSt (syl .l true)) 34 ∧ (memOp 2 1 4).pb ≠ 3 ∧
      memSt.engLoad 3 (memAt (eng memSt (syl .l true)) (memOp 2 1 4)).toNat 2 = .ok 0 ∧
      memSt.engLoad 3 (memAt (eng memSt (syl .l true)) (memOp 2 0 4)).toNat 4 = .ok 0 ∧
      memSt.engLoad 3 (memAt (eng memSt (syl .l true)) (memOp 2 1 4)).toNat 8 = .ok 0 ∧
      InData (memAt (eng memSt (syl .l true)) (memOp 2 1 4)) 4 := by
  refine ⟨?_, ?_, ?_, ?_, ?_, by decide, rfl, rfl, rfl, ?_⟩ <;> first
    | (unfold Issues InProgram; decide) | (unfold MemOk Unwritten; decide) | (unfold Unwritten; decide) | (unfold InData; decide)

/-- The conditions of EngineWindows at the edges of the windows of R178. -/
theorem witness_EngineWindows :
    (0x10000000 ≤ 0x1003FFF8 ∧ 0x1003FFF8 < 0x10040000 ∧ 0x1003FFF8 % 8 = 0 ∧ 0x1003FFFF % 2 ≠ 0) ∧
    (0x20000000 ≤ 0x20000FF8 ∧ 0x20000FF8 < 0x20001000 ∧ 0x1FFF8 < 0x20000) ∧
    (0x30000000 ≤ 0x3000FFE0 ∧ 0x3000FFE0 < 0x30010000 ∧ 0x3000FFE0 % 32 = 0) ∧
    (0x30010000 ≤ 0x303FFFE0 ∧ 0x303FFFE0 < 0x30400000 ∧ 0x303FFFE0 % 32 = 0 ∧ 0x40001000 ≤ 0x40001000) := by decide

theorem witness_EngineStores :
    MemOk (eng memSt (syl .l true)) (memOp 2 1 0) ∧ InData (memAt (eng memSt (syl .l true)) (memOp 2 0 6)) 2 ∧
      InData (memAt (eng memSt (syl .l true)) (memOp 2 0 4)) 4 ∧ InData (memAt (eng memSt (syl .l true)) (memOp 2 1 0)) 8 ∧
      InData (memAt (eng memSt (syl .l true)) (memOp 3 1 0)) 4 := by
  unfold MemOk Unwritten InData; decide

/-- The engine with a return address, at bundle 7. -/
def ctlSt : State := running.setEngine 3 { engOn with pc := 7, rstack := [9] }

theorem witness_EngineControl :
    (eng ctlSt (syl .c true)).run = .running ∧ condHolds (eng ctlSt (syl .c true)).st 2 = true ∧
      condHolds (eng ctlSt (syl .c true)).st 1 = false ∧ InProgram (syl .c true) (eng ctlSt (syl .c true)) ∧
      InProgram (syl .c true) { eng ctlSt (syl .c true) with jump := some 8191 } ∧ (eng ctlSt (syl .c true)).rstack = 9 :: [] ∧
      (eng ctlSt (syl .c true)).lc0.cnt = 0 ∧ (eng ctlSt (syl .c true)).lc1.cnt = 0 ∧
      0 < ((eng ctlSt (syl .c true)).dreg 2).toNat % 65536 ∧ ((eng ctlSt (syl .c true)).dreg 3).toNat % 65536 = 0 ∧
      InProgram (syl .c true) { eng ctlSt (syl .c true) with lc0 := ⟨5, 8, 7⟩ } ∧
      InProgram (syl .c true) { eng ctlSt (syl .c true) with lc1 := ⟨5, 8, 7⟩ } ∧
      Unwritten (eng ctlSt (syl .c true)) 44 ∧ Unwritten (eng ctlSt (syl .c true)) 45 := by
  unfold InProgram Unwritten; decide

/-- An engine that waits for event 2, and one that runs while breakpoints are permitted. -/
def waitSt : State := running.setEngine 3 { engOn with run := .waiting 4 true, events := 6 }
def brkSt : State := { engSt with fw.debugOpen := true, fw.debugPerm := 2 }

theorem witness_EngineWaitAndBreak :
    (waitSt.engine 3).run = .waiting 4 true ∧ (waitSt.engine 3).events &&& 4 = 4 ∧ (eng brkSt (syl .c true)).run = .running ∧
      brkSt.fw.debugOpen = true ∧ brkSt.fw.debugPerm.getLsbD 1 = true ∧ brkSt.fw.pause = false ∧ brkSt.sys.dev ≠ .safe := by decide

theorem witness_EngineExceptions :
    (eng engSt (syl .m1 true)).run = .running ∧ (eng engSt (syl .m1 true)).pc ≤ 8191 ∧ engSt.fw.debugOpen = false := by decide

/-! ## Witnesses: ports and engine units -/

/-- Engine 3 with two transfers under way, to the CSM and from it; the same with a store that waits for one. -/
def xferSt : State :=
  running.setEngine 3 { engOn with xfer := [(0, { csm := 0x10000, loc := 0x10000000, len := 0x80000001 }),
    (1, { csm := 0x3FFFE0, loc := 0x1003FFE0, len := 1 }), (2, { csm := 0x3FE000, loc := 0x1003E000, len := 0 })], csmQ := [.xfer 0 0x10000 0x10000000 0x80000001, .xfer 1 0x3FFFE0 0x1003FFE0 1] }
def storeSt : State := running.setEngine 3 { engOn with csmQ := [.store 0x10000 4 7, .xfer 1 0x3FFFE0 0x1003FFE0 1] }

/-- A load from the CSM behind two transfers: they complete, the engine goes on. -/
theorem witness_load_waits :
    (xferSt.engine 3).csmQ ≠ [] ∧ (eng (xferSt.loadWait 3 0x30010020) (syl .l true)).run = .running ∧
      ((xferSt.loadWait 3 0x30010020).engLoad 3 0x30010020 4).isOk = true := by decide +kernel

theorem witness_EngineCompletionAndSignals :
    (engSt.engine 3).run = .running ∧ (engSt.engine 3).xferBusy = false ∧ (engSt.engine 3).xferOut = false ∧
      (xferSt.engine 3).xferBusy = true ∧ (xferSt.engine 3).xferOut = true := by decide

theorem witness_EngineTransfersAndTrace :
    (xferSt.engine 3).chanBusy 2 = false ∧ 0 < (256 : Word).toNat % 512 ∧ (256 : Word).toNat % 512 ≤ 256 ∧ ((xferSt.engine 3).chan 2).csm.toNat % 32 = 0 ∧
      ((xferSt.engine 3).chan 2).csm.toNat + 32 * ((256 : Word).toNat % 512) ≤ 0x400000 ∧
      ((xferSt.engine 3).chan 2).loc.toNat + 32 * ((256 : Word).toNat % 512) ≤ 0x10040000 ∧
      (xferSt.engine 3).csmQ.head? = some (.xfer 0 0x10000 0x10000000 0x80000001) ∧ (0x80000001 : Word).getLsbD 31 = true ∧
      (storeSt.engine 3).csmQ = [.store 0x10000 4 7, .xfer 1 0x3FFFE0 0x1003FFE0 1] ∧ (1 : Word).getLsbD 31 = false := by decide

/-- The trace armed for the TRIG port, TB2 owned by engine 3, engine 3 assigned to string 0. -/
def portSt : State := ((engSt.wr 0x3100 1 0x11).wr 0x1203 1 0x34).wr 0x3000 5 1

theorem witness_trace_and_timebase :
    bitsN (portSt.rd 0x3100 1) 7 4 = 1 ∧ portSt.rdBit 0x3100 1 0 = true ∧ portSt.rdBit 0x3100 4 1 = false ∧
      bitsN (portSt.rd 0x1203 1) 2 0 = 4 ∧ bitsN (portSt.rd 0x1203 1) 7 4 = 3 ∧ bitsN (engSt.rd 0x1203 1) 2 0 ≠ 4 := by decide +kernel

/-- String 0 enabled under engine 3; local leg 0 takes carrier sets and local leg 1 explicit ones of engine 3; a set is staged. -/
def cfgSt : State :=
  (((((((running.setEngine 3 { engOn with stage := [(1, 2560000), (4, 1000)] }).wr 0x2100 1 1).wr 0x2100 3 3).wr 0x2600 2 1).wr 0x2600 4 3).wr
    0x2601 2 2).wr 0x2601 4 3)

/-- The same with the gates of its legs open, before and after the tick's reload. -/
def openSt : State :=
  let s : State := { cfgSt with sys.pins.drven := 0xF }
  forUpTo (fun n s => s.setLoc n { LocalLeg.init with gReset := false, gDrven := false }) 4 s
def reloadSt : State := openSt.setLeg 0x8000 { openSt.leg 0x8000 with reloaded := true }

theorem witness_allocRequest :
    (cfgSt.assigned 3).getLsbD 0 = true ∧ (cfgSt.string 0).req = none ∧ (cfgSt.string 0).rdy = false ∧ (511 : Word).toNat < 512 := by decide +kernel

theorem witness_EngineCommits :
    cfgSt.handleLeg 3 0x8000 = some 0x8000 ∧ stExtra (cfgSt.engine 3) (cfgSt.legForm 0x8000) = false ∧
      cfgSt.stagedSet (cfgSt.engine 3) (cfgSt.legForm 0x8000) none = some (.carrier false 2560000 (cfgSt.stAnchor (cfgSt.engine 3)) 1000) ∧
      cfgSt.handleLeg 3 0x8001 = some 0x8001 ∧ cfgSt.legForm 0x8001 = 2 ∧ (cfgSt.stagedCoast (cfgSt.engine 3)).isSome = true ∧
      openSt.legBlocked 0x8000 = false ∧ (openSt.leg 0x8000).reloaded = false ∧ (reloadSt.leg 0x8000).reloaded = true ∧
      reloadSt.legBlocked 0x8001 = false ∧ openSt.unitLegs 0x8000 = [0x8000] ∧ cfgSt.legBlocked 0x8000 = true ∧ cfgSt.unitGoesOn 0x8000 = false ∧
      cfgSt.handleLeg 3 0x8002 = none ∧ (cfgSt.engine 3).stw 0 ≤ 1 ∧ (cfgSt.engine 3).stw 2 < 256 ∧
      cfgSt.tTb ≤ 2 * (cfgSt.engine 3).stw 1 := by decide +kernel

/-- Notch units 0, enabled, and 1, not enabled; following-error unit 0 has counted. -/
def unitSt : State :=
  running.setEngine 3 { engOn with notch := [(3, { Notch.init with en := true })], follow := [(0, { Follow.init with count := 3, tripped := true })] }

theorem witness_EngineUnits :
    (unitSt.engine 3).run = .running ∧ ((unitSt.engine 3).notchU 3).en = true ∧ ((unitSt.engine 3).notchU 3).loadPend = false ∧
      ((unitSt.engine 3).notchU 2).en = false ∧ ((unitSt.engine 3).notchU (2 + 1)).chain = false ∧
      ((unitSt.engine 3).followU 0).count ≠ 0 ∧ ((unitSt.engine 3).followU 7).count = 0 := by decide +kernel

/-! ## Witnesses: protection -/

/-- Trip input 0 and comparator 7 enabled. -/
def protSt : State := ((((((running.wr 0x2601 7 0).wr 0x4100 1 0x80).wr 0x4117 1 0x80).wr 0x4117 3 1000).wr 0x2600 7 1).wr 0x4117 5 0xFFF)

theorem witness_TripsAndComparators :
    CanAct protSt ∧ protSt.rdBit 0x4100 1 7 = true ∧ protSt.sys.pins.trip.getLsbD 0 = false ∧ protSt.causePresent 0 = false ∧
      tripFilt (protSt.rd 0x4100 1) < tripFilt (protSt.rd 0x4100 1) + 1 ∧ tripFilt 0x81 ≠ 0 ∧
      protSt.rdBit 0x4117 1 7 = true ∧ protSt.saf.compActive.getLsbD 7 = false ∧ bitsN (protSt.rd 0x4117 1) 5 4 = 0 ∧
      protSt.rdInt 0x4117 3 16 < 1001 ∧ compFilt (protSt.rd 0x4117 1) < compFilt (protSt.rd 0x4117 1) + 1 ∧ protSt.causePresent 15 = false := by
  unfold CanAct; decide +kernel

theorem witness_comparator_release :
    ({ protSt with saf.compActive := 0x80 } : State).saf.compActive.getLsbD 7 = true ∧
      (872 : Int) ≤ protSt.rdInt 0x4117 3 16 - 128 ∧ bitsN (protSt.rd 0x4117 1) 5 4 = 0 := by decide +kernel

/-- An open local leg 0 with one edge to execute. -/
def stageSt : State :=
  let s : State := { running with sys.pins.drven := 0xF }
  let s := s.wr 0x2600 2 2
  let s := s.setLoc 0 { LocalLeg.init with gReset := false, gDrven := false }
  s.setLeg 0x8000 { LegB.init with remain := [{ t := 10, st := .high, str := 0, tr := 10 }] }

theorem witness_LocalLegs :
    protSt.rdBit 0x2600 7 0 = true ∧ protSt.rdBit 0x2601 7 0 = false ∧ stageSt.sys.pins.flt.getLsbD 3 = false ∧
      (stageSt.leg 0x8003).bothOn = false ∧
      (stageSt.leg 0x8000).remain[(stageSt.leg 0x8000).execd]?.isSome = true ∧ stageSt.stageOpen 0 = true ∧ (stageSt.loc 0).fallH = none ∧
      (stageSt.loc 0).fallL = none ∧ (stageSt.loc 0).heldH = false ∧ (stageSt.loc 0).heldL = false ∧ (stageSt.loc 0).pinH = false ∧
      (stageSt.loc 0).pinL = false := by decide +kernel

/-- String 5 and the local legs coast since the beginning of time, and their windows are over. -/
def coastSt : State :=
  let s : State := { running.wr 0x2105 1 1 with sys.dev := .coast, clk.bnd := 256000000 * 8, fld.localCoastT0 := some 0 }
  s.setString 5 { s.string 5 with coastT0 := some 0 }

theorem witness_CoastWindowActs :
    coastSt.running = true ∧ coastSt.sys.role ≠ .standby ∧ coastSt.fw.pause = false ∧ coastSt.strEn 5 = true ∧
      (coastSt.string 5).coastT0 = some 0 ∧ coastSt.windowOver 0 = true ∧ coastSt.fld.localCoastT0 = some 0 ∧
      ({ coastSt with sys.role := .standby } : State).sys.role = .standby := by decide +kernel

theorem witness_SelfDiagnostics :
    CanAct running ∧ running.sys.role ≠ .standby ∧ (0 : Nat) ≠ running.rd 0x4000 1 + 1 ∧ running.causePresent 0x1D = false ∧
      (running.engine 15).pc ≤ 8191 ∧ running.rd 0x4206 4 + 1 < 2 ^ 32 ∧ running.up = true := by
  unfold CanAct; decide +kernel

/-! Single steps of the protections: the device in SAFE with its pins low and the ordered set standing. -/

/-- The state that an outcome answers. -/
def out (o : Host.Outcome State Fault Refusal) : State := match o with | .next t => t | .fault _ => State.reset | .refused _ => State.reset

theorem test_trip : (out (execTripInput 0 1000000 protSt)).sys.dev = .safe ∧ (out (execTripInput 0 1000000 protSt)).sys.pins.safeN = false ∧
    ((out (execTripInput 0 1000000 protSt)).loc 11).gTrip = true := by decide +kernel

theorem test_trip_short : (out (execTripInput 1 1000000 protSt)).sys.dev = .run := by decide +kernel

theorem test_clock_monitor : (out (execClockMonitor true running)).sys.dev = .safe ∧
    (out (execClockMonitor true running)).rdBit 0x4201 2 13 = true := by decide +kernel

theorem test_local_edge : ((out (execLocalEdgeExecute 0 stageSt)).loc 0).pinH = true ∧
    ((out (execLocalEdgeExecute 0 stageSt)).loc 0).pinL = false := by decide +kernel

/-! ## Witnesses: hosts -/

/-- The decidable form of `MayWrite`. -/
def may (s : State) (i idx sub : Nat) : Bool :=
  s.sessUp i && (match s.row idx sub with
    | some r => decide (s.preStatus (s.sess i).roles r idx sub = 0) && (!lockedAcc r.acc || (s.sess i).holds (s.entryScope idx))
    | none => false)

theorem may_write (s : State) (i : Fin 40) (idx sub : Nat) (h : may s i.val idx sub = true) : MayWrite s i idx sub := by
  unfold may at h
  simp only [Bool.and_eq_true] at h
  refine ⟨h.1, ?_⟩
  have h2 := h.2
  split at h2
  · rename_i r hr
    simp only [Bool.and_eq_true, Bool.or_eq_true, Bool.not_eq_true', decide_eq_true_eq] at h2
    refine ⟨r, hr, h2.1, fun hl => ?_⟩
    rcases h2.2 with h3 | h3
    · rw [hl] at h3; exact absurd h3 (by decide)
    · exact h3
  · exact absurd h2 (by decide)

/-- Session 0 open with every role and the lock of the cluster, in a state. -/
def withHost (s : State) : State := s.setSess 0 { Session.init with isOpen := true, roles := 0xFF, lockC := true }

/-- The device in a state, with a host. -/
def hostIn (d : DevState) : State := withHost { State.reset with sys.dev := d }

theorem witness_RequestedStates :
    may (hostIn .blocked) 0 0x1001 2 = true ∧ hasRole ((hostIn .blocked).sess 0).roles 14 = true ∧ (hostIn .blocked).fw.confirming = false ∧
      (hostIn .blocked).fw.lifecycle ≠ 3 ∧ (hostIn .blocked).sys.role ≠ .standby ∧ may (hostIn .ready) 0 0x1001 2 = true ∧
      may (hostIn .coast) 0 0x1001 2 = true ∧ may (hostIn .safe) 0 0x1001 2 = true ∧ (hostIn .safe).safeCause = false ∧
      hasRole ((hostIn .blocked).sess 0).roles 4 = true := by decide +kernel

theorem witness_RefusedRequests :
    may (hostIn .ready) 0 0x1001 2 = true ∧ (hostIn .ready).sys.dev ≠ .blocked ∧ may (hostIn .commission) 0 0x1001 2 = true ∧
      may ({ hostIn .ready with sys.role := .standby } : State) 0 0x1001 2 = true := by decide +kernel

/-- SAFE with the cause of trip source 0 present. -/
def causeSt : State := { hostIn .safe with saf.cause := [(0, 1)] }

theorem witness_AcknowledgeWithACauseIsRefused :
    may causeSt 0 0x1001 2 = true ∧ hasRole (causeSt.sess 0).roles 14 = true ∧ causeSt.sys.dev = .safe ∧ causeSt.safeCause = true := by
  decide +kernel

theorem witness_CollectorWrites :
    may (hostIn .run) 0 0x4203 16 = true ∧ may (hostIn .run) 0 0x4204 1 = true ∧ may (hostIn .run) 0 0x4200 3 = true ∧
      (hostIn .run).live = true ∧ (0x7F : BitVec 8).toNat ≤ 0x7F := by decide +kernel

theorem witness_LatchesAndCounters :
    may (hostIn .run) 0 0x2790 2 = true ∧ may (hostIn .run) 0 0x2790 4 = true ∧ may (hostIn .run) 0 (0x2400 + 383) (16 + 7) = true ∧
      may (hostIn .run) 0 (0x2600 + 11) 3 = true ∧ may (hostIn .run) 0 0x3200 5 = true ∧
      (entryRow 0x3200 5).any (·.ctr) = true := by decide +kernel

/-- The heartbeat of a STANDBY in RUN that takes the mirror in. -/
def standbyHb : SparHb :=
  { devid := 1, epoch := 3, tick := 0, state := 5, role := 2, ladder := 0, timingDegraded := false, unsync := false, handover := false,
    safetyChk := 0, pairChk := 0, tDep := 0, tAux := 0, pairCfgd := true, mirrorIn := true, pairAlign := true, pairselB := true }

/-- The ACTIVE of a pair whose partner is able, with a host. -/
def activeSt : State :=
  let s : State := { hostIn .run with sys.role := .active, pair.partnerSeen := true, pair.partner := some standbyHb }
  s.wr 0x5000 1 1

theorem witness_BoundaryRequests :
    may (hostIn .run) 0 0x2105 12 = true ∧ may (hostIn .commission) 0 0x4000 2 = true ∧ (hostIn .commission).threshSet = true ∧
      (0 : BitVec 32).toNat = (hostIn .commission).rd 0x4000 1 ∧ (1 : BitVec 32).toNat ≠ (hostIn .commission).rd 0x4000 1 ∧
      may (hostIn .run) 0 0x301F 1 = true ∧ ((hostIn .run).engine 15).swapPend = false ∧ may activeSt 0 0x5000 2 = true ∧
      may (hostIn .blocked) 0 0x1201 4 = true ∧ (hostIn .blocked).cfgState = true ∧ may (hostIn .run) 0 0x1202 4 = true ∧
      (hostIn .run).grouped = false ∧ may (hostIn .run) 0 0x1203 4 = true ∧ bitsN ((hostIn .run).rd 0x1203 1) 2 0 ≠ 4 ∧
      may ((hostIn .run).wr 0x1203 1 0x34) 0 0x1203 4 = true ∧ bitsN (((hostIn .run).wr 0x1203 1 0x34).rd 0x1203 1) 2 0 = 4 ∧ may ((hostIn .run).wr 0x1204 1 0) 0 0x1204 4 = true ∧
      ((hostIn .run).wr 0x1204 1 0).rd 0x1204 1 % 8 = 0 ∧ may ((hostIn .run).wr 0x5100 7 5) 0 0x5100 6 = true ∧
      ((hostIn .run).wr 0x5100 7 5).rdBit 0x5100 7 0 = true ∧ ((hostIn .run).wr 0x5100 7 5).rdBit 0x5100 7 2 = true ∧
      activeSt.sys.role = .active ∧ activeSt.partnerAble = true ∧
      activeSt.pair.partner.any (fun h => h.state == devCode activeSt.sys.dev && h.mirrorIn) = true ∧ (hostIn .blocked).sys.role ≠ .standby := by decide +kernel

/-- A device whose group key is in use, on lanes RGE and RGT0. -/
def keySt : State := { (hostIn .run).wr 0x5100 7 5 with fw.groupKey := some 5 }

theorem witness_GroupBlockRequests :
    may keySt 0 0x5100 6 = true ∧ keySt.fw.groupKey.isSome = true ∧ keySt.rdBit 0x5100 7 0 = true ∧ keySt.rdBit 0x5100 7 2 = true := by decide +kernel

theorem test_system_block : ((out (execSystemBlockRequest 0 keySt)).tx.map (fun x => match x with | .ridge l _ (.block f) => some (l, f.gbseq) | _ => none)) =
    [some (0, 1), some (2, 1), none] := by decide +kernel

theorem witness_ServiceWrites :
    may (hostIn .run) 0 0x301F 2 = true ∧ 4092 + [1, 2, 3, (4 : Byte)].length ≤ 4096 ∧ may ((hostIn .run).wr 0x3100 1 1) 0 0x3100 3 = true ∧
      ((hostIn .run).wr 0x3100 1 1).rdBit 0x3100 1 0 = true ∧ ((hostIn .run).wr 0x3100 1 1).rdBit 0x3100 4 1 = false ∧
      may (hostIn .blocked) 0 0x1002 1 = true ∧ may (hostIn .blocked) 0 0x6000 10 = true ∧ may (hostIn .run) 0 (0x6A00 + 191) 11 = true := by
  decide +kernel

/-- An image staged in slot B; a debug certificate for the device. -/
def imgHdr : ImgHdr :=
  { fmtOk := true, target := State.reset.rd 0x1000 2 * 2 ^ 64, stepping := State.reset.rd 0x1000 4, smig := false, revoke := false, compat := 1, version := 2, arb := 0, sigkey := 0, sigOk := true,
    setfmt := 1, ssfmt := 0, minset := 0, plen := 16, iv := 0, tag := Sys2Proof.Config.gcmTag 0 0 [], pdigest := Sys2Proof.Config.sha384 [], raw := 0 }
def imgSt : State :=
  let s := hostIn .blocked
  { s with fw.slotB := { s.fw.slotB with status := 2, hdr := some { imgHdr with arb := s.rd 0x1400 2 } } }
def cert : DebugCert :=
  { magicOk := true, serial := (hostIn .blocked).rd 0x1000 5, pccMax := 10, permJtag := true, permBrk := true, permCore := false,
    signer := 0, sigOk := true }
/-- A Provisioned device with its certificates, a Deployed one, and one that confirms an image. -/
def provSt : State := (((hostIn .blocked).wr 0x1421 1 1).wr 0x1420 3 1).wr 0x5100 7 0
def deplSt : State := { provSt with fw.lifecycle := 2 }
def confSt : State := ({ hostIn .run with fw.confirming := true } : State).wr 0x1410 7 0x80

theorem witness_ImagesAndLifecycle :
    may imgSt 0 0x1410 1 = true ∧ imgSt.activating = false ∧ imgSt.actRefusal = 0 ∧ (hostIn .blocked).actRefusal ≠ 0 ∧
      may confSt 0 0x1410 3 = true ∧ confSt.rdBit 0x1410 7 7 = true ∧ may provSt 0 0x1400 4 = true ∧ provSt.fw.lifecycle = 1 ∧
      provSt.rd 0x1421 1 ≠ 0 ∧ provSt.rd 0x1420 3 ≠ 0 ∧ provSt.rd 0x5100 7 = 0 ∧ may deplSt 0 0x1400 4 = true ∧
      hasRole (deplSt.sess 0).roles 16 = true ∧ provSt.deviceCert = true ∧ deplSt.debugState = true ∧ deplSt.certOpens cert = true := by decide +kernel

/-- An item with the value 500 for the starvation watch, and one for the exclusion mask. -/
def watchItem : WItem := { idx := 0x3200, sub := 2, ty := tyCode .u16, offset := 0, len := 2, val := 500 }
def maskItem : WItem := { idx := 0x3200, sub := 3, ty := tyCode .u8, offset := 0, len := 1, val := 0x7E }

/-- The first place of the reference list, whose change waits for the boundary by its own rule. -/
def refItem : WItem := { idx := 0x1210, sub := 1, ty := tyCode .u16, offset := 0, len := 2, val := 0x1200 }

/-- Do an item and a state meet the hypotheses on an ordinary item? -/
def plainItem (s : State) (w : WItem) : Bool :=
  may s 0 w.idx w.sub && (match s.row w.idx w.sub with
    | some r => decide (itemStatus r w = 0 ∧ r.ctr = false ∧ (s.actWrite (s.sess 0).roles w (s.itemNew r w)).isNone = true ∧
        (s.viewed.wr w.idx w.sub (s.itemNew r w)).rulesOk w.idx w.sub = true)
    | none => false)

theorem witness_ItemWrites :
    plainItem (hostIn .run) watchItem = true ∧ plainItem (hostIn .run) maskItem = true ∧
      ((hostIn .run).row 0x3200 2).any (fun r => !atBoundary r.acc 0x3200 2) = true ∧ ((hostIn .run).row 0x3200 3).any (fun r => atBoundary r.acc 0x3200 3) = true ∧ plainItem (hostIn .blocked) refItem = true ∧
      ((hostIn .blocked).row 0x1210 1).any (fun r => !lockedAcc r.acc && atBoundary r.acc 0x1210 1) = true := by
  decide +kernel

theorem test_item_out_of_range : (out (execDictWrite 0 { watchItem with val := 0 } (hostIn .run))).rd 0x3200 2 = 4096 := by decide +kernel

theorem test_block_request : (out (execBlockRequest 0 (hostIn .run))).rd 0x1001 4 = 6 ∧
    (out (execBlockRequest 0 (hostIn .run))).sys.dev = .run := by decide +kernel

/-! ## Witnesses: the tick -/

/-- A field: string 0 enabled under engine 3, cell 0 of it on node slot 0, at position 0 of ring 0. -/
def field (s : State) : State :=
  ((((((((((s.wr 0x2100 1 1).wr 0x2100 3 3).wr 0x2200 1 1).wr 0x2200 2 0).wr 0x2200 3 0).wr 0x2200 5 3).wr 0x2400 1 0).wr 0x2400 2 1).wr
    0x2010 1 0x101).wr 0x2010 48 1)

/-- A device with a field in a state. -/
def fieldIn (d : DevState) : State := field { State.reset with sys.dev := d }

/-- RESET_N low for long. -/
def lowSt : State := { running with sys.pins.resetN := false, sys.resetLow := 100000 }

theorem witness_BoundaryTurns : running.up = true ∧ (running.tbs 0).stepPend = 0 ∧ running.sys.due = [] ∧
    State.reset.up = false ∧ running.sys.pins.resetN = true ∧ lowSt.up = true ∧ lowSt.resetHolds = true := by decide +kernel

theorem witness_HeartbeatsAndGather :
    (fieldIn .run).up = true ∧ 0 ∈ (fieldIn .run).rings ∧ 1 ∈ (fieldIn .run).ringPorts 0 ∧ ((fieldIn .run).wr 0x5000 1 1).paired = true ∧
      ((fieldIn .run).slotNode 0).isSome = true ∧ ((fieldIn .run).slot 0).got = false ∧ (fieldIn .run).fw.pause = false := by decide +kernel

/-- String 0 sorted, with its one cell available, and a request for two cells. -/
def reqSt : State :=
  let s := fieldIn .run
  s.setString 0 { s.string 0 with sortValid := true, avail := 1, order := [0], req := some (2, true) }

theorem witness_SorterAndAllocator :
    (fieldIn .run).up = true ∧ (fieldIn .run).live = true ∧ (fieldIn .run).strEn 0 = true ∧ ((fieldIn .run).string 0).sortValid = false ∧ (fieldIn .run).sortTurn 0 = true ∧
      ((fieldIn .run).string 0).lateKeys = none ∧ (reqSt.string 0).sortValid = true ∧ (reqSt.string 0).allocOff = false ∧ (fieldIn .run).fw.pause = false ∧
      reqSt.up = true ∧ reqSt.live = true ∧ reqSt.strEn 0 = true ∧ (reqSt.string 0).rdy = false ∧ (reqSt.string 0).req = some (2, true) ∧
      ∀ i : Nat, i < 96 → (if reqSt.strBlocked 0 then (0 : BitVec 96) else (reqSt.string 0).avail).getLsbD i = true → i ∈ (reqSt.string 0).order := by
  decide +kernel

theorem witness_StartAndDeadline :
    running.up = true ∧ running.clk.challenged = false ∧ CanAct { running with clk.challenged := true } := by unfold CanAct; decide +kernel

/-- A queued supplementary record of one edge on ring 0, with an edge budget. -/
def suppSt : State :=
  let s := fieldIn .run
  (s.setLeg 0 { s.leg 0 with suppOut := true }).setRing 0 { s.ring 0 with supp := [{ pos := 0, cmd := 0, arg := 0, edges := [{ leg := 0, st := .off, strength := 0, offset := 9 }], rcrcOk := true }] }

theorem witness_WalesLeave :
    suppSt.walesOn 0 = true ∧ suppSt.waleSent 0 = false ∧ suppSt.suppLive 0 ≠ [] ∧
      2 * ((suppSt.ring 0).suppEdges + recEdges (suppSt.suppLive 0)) ≤ suppSt.edgeBudget 0 := by decide +kernel

theorem witness_TickEventsComplete :
    running.up = true ∧ running.sys.pins.resetN = true ∧ (fieldIn .run).up = true ∧ (fieldIn .run).live = true ∧ (fieldIn .run).fw.pause = false ∧
      (fieldIn .run).strEn 0 = true ∧ ((fieldIn .run).string 0).sortValid = false ∧ (∀ j : Nat, j < 0 → (fieldIn .run).strEn j = true → ((fieldIn .run).string j).sortValid = true) ∧
      reqSt.up = true ∧ reqSt.live = true ∧ reqSt.strEn 0 = true ∧ (reqSt.string 0).sortValid = true ∧ (reqSt.string 0).req = some (2, true) ∧
      (reqSt.string 0).rdy = false ∧ (reqSt.string 0).allocOff = false ∧ suppSt.up = true ∧ suppSt.commands = true ∧ suppSt.fw.pause = false ∧
      suppSt.ringEn 0 = true ∧ (suppSt.paired = true ∨ 0 < 24) ∧ suppSt.waleSent 0 = false ∧ suppSt.suppLive 0 ≠ [] ∧
      2 * ((suppSt.ring 0).suppEdges + recEdges (suppSt.suppLive 0)) ≤ suppSt.edgeBudget 0 := by decide +kernel

theorem test_allocation : ((out (execAllocationRun 0 reqSt)).string 0).setF = 1 ∧ ((out (execAllocationRun 0 reqSt)).string 0).nForce = 1 ∧
    ((out (execAllocationRun 0 reqSt)).string 0).nclamp = true := by decide +kernel

/-! ## Witnesses: rings and lanes -/

/-- A node's identity; a Response of position 0 of ring 0 for tick 0; a Wale header and a Heartbeat. -/
def ident : NodeIdent :=
  { cverMajor := 1, cverMinor := 0, nclass := 1, nlegs := 4, vendor := 1, hwrev := 1, fwver := 1, serial := 7, cells := 1, legcell := 0, strn := 4,
    rates := 1, gran := 1, fwdlat := 90, bypt := 0, osdcap := 0, tjmap := [0, 1, 2, 3], measfs := [1000, 0, 0, 0, 0, 0, 0, 0], icrcOk := true }
def resp0 : Response :=
  { ring := 0, pos := 0, seq := 0, nstate := .run, portALock := true, portBLock := true, coasted := false, rxErr := false, bsuv := false, supp := false,
    osdValid := false, legflt := 0, intlk := 0, epochSeen := 0, wseq := 0, meas := [], tj := [], swt := [], osd := 0 }
def hdr0 : WaleHdr :=
  { supp := false, ring := 0, endB := false, devid := 5, seq := 1, epoch := 2, tgtT0 := 2560000, state := 5, role := 0, bridge := false, cpv := false, nen := 0xFFFF,
    tick := 1, hcrcOk := true }
def hb0 : Heartbeat :=
  { devid := 5, epoch := 2, tick := 0, state := 5, role := 1, ladder := 0, timingDegraded := false, unsync := false, handover := false }

theorem witness_ResponsesTaken :
    (fieldIn .run).up = true ∧ (fieldIn .run).laneWanted 0 = true ∧ resp0.ring = (fieldIn .run).portRing 0 ∧
      (fieldIn .run).nodeSlot (resp0.ring * 16 + resp0.pos) = some 0 ∧ resp0.seq = (fieldIn .run).clk.tick.truncate 16 ∧
      ((fieldIn .run).slot 0).got = false ∧ (fieldIn .run).clk.gathered = false ∧ (fieldIn .run).portRing 1 = 0 ∧ (1 : Nat) ≠ (fieldIn .run).portRing 1 := by decide +kernel

/-- The field after a Wale has left, with a break of two ticks on ring 0. -/
def waleSt : State :=
  let s := ((fieldIn .run).wr 0x2016 1 3).wrBit 0x2010 1 3 true
  s.setRing 0 { s.ring 0 with lastWale := some ⟨hdr0, []⟩, badTicks := 2, goodTicks := 64 }

theorem witness_RingTraffic :
    waleSt.up = true ∧ waleSt.laneWanted 1 = true ∧ waleSt.paired = false ∧ waleSt.ringEn 0 = true ∧ waleSt.waleOf 0 hdr0.seq = some ⟨hdr0, []⟩ ∧ waleSt.resendFits 0 0 = true ∧ waleSt.resendFits 0 100000 = false ∧
      waleSt.tb0Valid = true ∧
      (fieldIn .ready).running = false ∧ ((fieldIn .ready).ring 0).pref.n = 0 ∧ (fieldIn .run).running = true ∧ hb0.devid ≠ State.reset.devid ∧
      (waleSt.wr 0x5000 1 1).laneWanted 47 = true := by decide +kernel

/-- Cell 0's bypass is commanded since tick 0 and not confirmed long after. -/
def bypSt : State :=
  let s : State := { (fieldIn .run).wr 0x2100 12 (mapOfBits 1) with clk.tick := 1000000 }
  let s := s.setCell 0 { s.cell 0 with bypTarget := some 0 }
  s.setString 0 { s.string 0 with sf2 := 1 }

theorem witness_BreaksAndBypasses :
    2 ≤ (waleSt.ring 0).badTicks ∧ waleSt.commands = true ∧ waleSt.rdBit 0x2010 1 3 = true ∧ waleSt.rd 0x2016 1 ≤ 0x10 ∧ waleSt.bridgeChecks 0 300 = true ∧ (waleSt.ring 0).bridged = false ∧
      64 ≤ (waleSt.ring 0).goodTicks ∧ waleSt.rd 0x2016 1 ≠ 0xFF ∧ bypSt.cellType 0 ≠ 0 ∧ (bypSt.strMap (bypSt.cellStr 0) 12).getLsbD (bypSt.cellIdx 0) = true ∧
      (bypSt.cell 0).bypConf = false ∧ (bypSt.cell 0).bypFail = false ∧ bypSt.bypassLate 0 = true ∧ bypSt.live = true ∧
      (bypSt.string (bypSt.cellStr 0)).sf2.getLsbD (bypSt.cellIdx 0) = true := by decide +kernel

theorem witness_prepare_block :
    ({ fieldIn .blocked with sys.preparing := true } : State).sys.preparing = true ∧ (fieldIn .blocked).laneWanted 0 = true := by decide +kernel

/-- Lane 0 asleep; lane 53 locked. -/
def laneSt : State := { (State.reset.wr 0x2011 1 0x80) with pair.laneSt := [(53, 4)] }

theorem witness_LanesAndModules :
    (laneSt.laneBits 0).testBit 7 = true ∧ (laneSt.laneBits 53).testBit 7 = false ∧ (laneSt.laneBits 53).testBit 2 = true ∧
      ((State.reset.wr 0x2011 2 0).laneBits 1).testBit 7 = false ∧ ((State.reset.wr 0x2011 2 0).laneBits 1).testBit 3 = false ∧
      ((fieldIn .run).wr 0x2011 2 0).laneWanted 1 = true ∧ ((fieldIn .run).wr 0x2011 2 0).portBit 1 6 = false := by decide +kernel

/-- Slot 0 with a read outstanding that has been resent `k` times; its identity is known. -/
def mgmtSt (k : Nat) : State :=
  let s := fieldIn .run
  s.setSlot 0 { s.slot 0 with req := some { tag := 3, op := 2, addr := 0, data := [], resends := k }, ident := some ident }

theorem witness_ManagementOfNodes :
    ((mgmtSt 2).slot 0).req.any (fun q => decide (q.resends < 3)) = true ∧ ((mgmtSt 3).slot 0).req.any (fun q => decide (3 ≤ q.resends)) = true ∧
      (mgmtSt 3).up = true ∧ (mgmtSt 3).live = true ∧ (mgmtSt 3).commands = true ∧ ((mgmtSt 3).slotNode 0).isSome = true ∧ ((mgmtSt 3).slot 0).rewrite = false ∧
      (mgmtSt 3).ovth 0 false + 1 ≠ (mgmtSt 3).ovth 0 false := by decide +kernel

theorem test_response_taken : ((out (execResponseReceive 0 resp0 true true (fieldIn .run))).slot 0).got = true := by decide +kernel

theorem test_response_wrong_ring : (out (execResponseReceive 0 { resp0 with ring := 1 } true true (fieldIn .run))).rd 0x2017 1 = 1 := by decide +kernel

theorem test_lane_lock : ((out (execBlockLockLoss 53 laneSt)).laneBits 53).testBit 2 = false := by decide +kernel

theorem wf_frames : (WaleHdr.wf { hdr0 with ring := 48 }) = false ∧ (WaleHdr.wf { hdr0 with devid := 512 }) = false ∧ (WaleHdr.wf { hdr0 with role := 4 }) = false ∧
    hdr0.wf = true ∧ (Response.wf { resp0 with pos := 16 }) = false ∧ (Response.wf { resp0 with meas := List.replicate 9 0 }) = false ∧
    (Heartbeat.wf { hb0 with ladder := 8 }) = false ∧ (Instr.mgmtReply 0 0 256 [] none true).wf = false := by decide +kernel

/-! ## Witnesses: the pair and the group -/

/-- A member of a pair with a field, in a role. -/
def pairIn (r : Role) : State :=
  let s : State := { (fieldIn .run).wr 0x5000 1 1 with sys.role := r }
  let s := s.setSlot 0 { s.slot 0 with resp := some resp0, got := true }
  s.setRing 0 { s.ring 0 with lastWale := some ⟨{ hdr0 with bridge := true }, []⟩ }

/-- The same with the own copy of the Response failed. -/
def failedSt : State := (pairIn .standby).setSlot 0 { (pairIn .standby).slot 0 with got := false, gotFailed := true }

theorem witness_SparMessages :
    (pairIn .active).up = true ∧ (pairIn .active).paired = true ∧ (pairIn .active).nodeSlot (0 * 16 + 0) = some 0 ∧ ((pairIn .active).slot 0).resp = some resp0 ∧
      ((pairIn .active).slot 0).got = true ∧ ((pairIn .active).slot 0).fromPartner = false ∧ (failedSt.slot 0).gotFailed = true ∧ (failedSt.slot 0).got = false ∧
      (pairIn .active).commands = true ∧ (pairIn .active).waleOf 0 1 = some ⟨{ hdr0 with bridge := true }, []⟩ ∧ ((pairIn .active).ring 0).resent = false ∧ (pairIn .active).resendFits 0 0 = true ∧
      (pairIn .standby).ringEn 0 = true ∧ (1 : BitVec 48) &&& (pairIn .standby).driven ≠ 0 := by decide +kernel

/-- A forwarded prepare that awaits its acknowledgment. -/
def fwd7 : Fwd := ⟨7, .fwd 7 1 0 0, 0⟩

theorem witness_ForwardsTaken :
    (pairIn .standby).pair.fseqSeen.contains 7 = false ∧ (pairIn .standby).sys.role = .standby ∧ (pairIn .standby).confPending = false ∧
      (pairIn .standby).fw.lifecycle ≠ 3 ∧ (5 : BitVec 32) ≠ 0 ∧ (pairIn .standby).isDue 5 = false ∧
      ({ pairIn .active with pair.fseqSeen := [7], pair.fwds := [fwd7] } : State).pair.fseqSeen.contains 7 = true ∧
      [fwd7].find? (fun x => x.fseq == 7 && ({ pairIn .active with clk.tick := 4 } : State).fwdOld x) = some fwd7 ∧
      (pairIn .active).fwdOld fwd7 = false ∧ (pairIn .active).sys.role = .active ∧ fwd7.item.isPrepare = true := by decide +kernel

/-- A standby that has the first segment of a forwarded bank. -/
def segSt : State := { pairIn .standby with pair.cfgIn := [⟨6, 0, false, [1]⟩] }

theorem witness_ForwardsTaken_segments :
    (∀ q ∈ (pairIn .standby).pair.cfgIn, q.first ≠ 7) ∧ segSt.pair.fseqSeen.contains 7 = false ∧ segSt.sys.role = .standby ∧ segSt.up = true ∧
      segSt.paired = true ∧ segSt.isDue 5 = false ∧ segSt.pair.cfgIn = [⟨7 - 1, 0, false, [1]⟩] ∧
      (packageOf (List.replicate 68 0)).isSome = true ∧ (pairIn .standby).up = true ∧ (pairIn .standby).paired = true := by decide +kernel

/-- A STANDBY that may take over and has declared the ACTIVE failed; an ACTIVE whose partner knows a higher epoch. -/
def takeSt : State := { (pairIn .standby).wrBit 0x1200 5 2 true with pair.failed := true, pair.noActive := 256, pair.hbMissed := 10 }
def demoteSt : State := { pairIn .active with pair.maxEpoch := 9 }

theorem witness_RolesAndAlignment :
    takeSt.up = true ∧ takeSt.paired = true ∧ takeSt.sys.role = .standby ∧ takeSt.fw.pause = false ∧ 256 ≤ takeSt.pair.noActive ∧
      takeSt.rd 0x5000 3 ≤ takeSt.pair.hbMissed ∧ takeSt.mayTakeOver = true ∧
      ({ pairIn .standby with pair.failed := true } : State).mayTakeOver = false ∧ demoteSt.sys.role = .active ∧ demoteSt.mustGiveWay = true ∧
      (demoteSt.wrBit 0x5000 7 0 true).rdBit 0x5000 7 0 = true ∧
      ({ takeSt with pair.alignBad := 8, pair.alignGood := 64, pair.chkBad := 8 } : State).pair.chkBad = 8 := by decide +kernel

/-- A member of a group on all four lanes, that seals; leader 1 of group 1. -/
def groupSt : State := { (((fieldIn .run).wr 0x5100 7 0xF).wrBit 0x1200 5 4 true).wrBit 0x1001 5 11 true with
  grp.leader := 1, grp.unsyncGood := 64, grp.dupTicks := 64, fw.groupKey := some 5 }

/-- A digest of device 1. -/
def digest1 : Digest :=
  { devid := 1, grp := 0, seq := 4, state := 5, role := 0, gcfg := 0, compat := 0, tb1b := 0, ladder := 0, ridgeBrk := false, timingDegraded := false, shareValid := false,
    leader := true, unsync := false, gbseq := 0, epoch := 1, partner := 0, boottag := 77, share := [], crcOk := true, lenOk := true }

/-- Device 1 has been without a digest for 3 ticks. -/
def absentSt : State := { groupSt with grp.members := [(1, { Member.init with dig := some digest1, absent := 3 })] }

theorem witness_GroupTimeAndDigests :
    groupSt.up = true ∧ groupSt.grouped = true ∧ (1 : Nat) ≠ groupSt.devid ∧ groupSt.rdBit 0x5100 7 0 = true ∧ groupSt.rdBit 0x5100 7 2 = true ∧ 1 < groupSt.hopLimit ∧ groupSt.timeUsed 1 (groupSt.rd 0x5100 1) false = true ∧
      groupSt.pathBetter 1 0 = true ∧ groupSt.led = true ∧ groupSt.rdBit 0x1200 5 4 = true ∧ 64 ≤ groupSt.grp.unsyncGood ∧ groupSt.rdBit 0x5100 7 3 = true ∧
      (groupSt.member 1).got = false ∧ groupSt.dupDigest { digest1 with devid := 0 } = true ∧ groupSt.devid = 0 ∧ groupSt.rdBit 0x1001 5 11 = true ∧
      (absentSt.member 1).dig.isSome = true ∧ 3 ≤ (absentSt.member 1).absent := by decide +kernel

/-- Session 8 is the proxy session of device 1 with tag 2; session 0 waits for tag 9. -/
def proxySt : State :=
  let s : State := groupSt.wrBit 0x1001 5 11 false
  let s := s.setSess 8 { Session.init with isOpen := true, entry := 1, stag := 2 }
  s.setSess 0 { Session.init with isOpen := true, roles := 0xFF, waiting := [9] }

theorem witness_GroupRequests :
    proxySt.proxyHeard = true ∧ (1 : Nat) ≠ proxySt.devid ∧ (2 : Nat) ≠ proxySt.devid ∧ proxySt.prxAccepts 1 1 (some 5) = true ∧ proxySt.goesOn true 0 = true ∧ proxySt.goesOn true 100 = false ∧ proxySt.rdBit 0x1001 5 11 = false ∧
      proxySt.prxFind 1 2 = some 8 ∧ (proxySt.sess 8).kept 3 = none ∧ (proxySt.sess 0).isOpen = true ∧ (proxySt.sess 0).waiting.contains 9 = true ∧
      (proxySt.sess 8).isOpen = true ∧
      proxySt.blkAccepts { systemWide := false, gbseq := 1, origin := 1, ogrp := proxySt.rd 0x5100 1, ctr := 1, key := some 5, lenOk := true, hops := 0, seq := 0 } = true ∧
      proxySt.rdBit 0x5100 7 2 = true ∧ proxySt.rdBit 0x5100 7 0 = true := by decide +kernel

/-- How a proxy frame reaches the entry device's peer, sealed with the key in use, and with another. -/
def proxyVia (key : Option Nat) (lenOk : Bool) : ProxyVia :=
  { fromRge := true, hops := 0, target := 1, entry := proxySt.devid, ctr := 1, key := key, lenOk := lenOk, grp := proxySt.rd 0x5100 1, seq := 0 }

theorem witness_GroupRequests_frames :
    (proxyVia (some 5) true).lenOk = true ∧ (proxyVia (some 5) false).lenOk = false ∧ proxySt.fw.pause = false ∧ proxySt.tagOk (some 5) = true ∧
      proxySt.tagOk (some 6) = false ∧ proxySt.tagOk none = false ∧ proxySt.sessUp 0 = true ∧ proxySt.up = true ∧ proxySt.grouped = true ∧
      (proxySt.member 1).lastGb = none ∧ (proxySt.member 1).lastSb = none ∧ (proxySt.rd 0x5100 1 + 1 ≠ proxySt.rd 0x5100 1) := by decide +kernel

theorem test_takeover : (out (execTakeover takeSt)).sys.role = .active ∧ (out (execTakeover takeSt)).sys.dev = .coast := by decide +kernel

theorem test_group_block :
    (out (execGroupBlockFrame true { systemWide := false, gbseq := 1, origin := 1, ogrp := proxySt.rd 0x5100 1, ctr := 1, key := some 5, lenOk := true, hops := 0, seq := 0 } proxySt)).rdBit
      0x4201 16 12 = true := by decide +kernel

theorem wf_digest : digest1.wf = false ∧ (Digest.wf { digest1 with share := List.replicate 32 0 }) = true ∧
    (Instr.cfgFwdBankContents 0 0 0 ⟨0, true, List.replicate 1025 0, ⟨false, true⟩⟩).wf = false := by decide +kernel

/-! ## Witnesses: sessions -/

/-- Session 0 with an open yelm of string 0, a subscription and an upload. -/
def zoaSt : State :=
  let s := hostIn .run
  s.setSess 0 { s.sess 0 with
    lockS := 1, yelm := some { id := 1, sess := 0, serial := 0, roles := 0xFF, scope := .cluster, items := [], target := 0, seq := 0, alive := true },
    subs := [⟨3, 1000, [], 0, some (0, [])⟩], file := some { id := 1, toDevice := true, size := 100, segs := [], hdr := none, shot := [] } }

/-- Session 1 holds the lock of string 2; session 0 holds nothing. -/
def lockSt : State :=
  let s := (hostIn .run).setSess 0 { Session.init with isOpen := true, roles := 0xFF }
  s.setSess 1 { Session.init with isOpen := true, roles := 0xFF, lockS := 4 }

theorem witness_SessionRequests :
    ((hostIn .run).sess 0).isOpen = true ∧ ((hostIn .run).sess 0).waiting.contains 5 = false ∧ ((hostIn .run).sess 0).kept 5 = none ∧
      scopeOk (.string 5) = true ∧ (lockSt.sess 0).holds (.string 5) = false ∧ (lockSt.lockHolder 0 (.string 5)).isNone = true ∧
      (lockSt.lockHolder 0 (.string 2)).isSome = true ∧ (zoaSt.sess 0).holdsAs (.string 0) = true ∧ ((hostIn .run).sess 0).yelm = none ∧
      ((hostIn .run).sess 0).holds (.string 1) = true ∧ zoaSt.activating = false ∧ zoaSt.yelmWindow 1000 = true ∧ zoaSt.yelmWindow 0 = false ∧
      (zoaSt.yelmCheck 0xFF []).isNone = true ∧ zoaSt.net.yelms.length < 16 ∧ 1000 * zoaSt.rd 0x6100 4 ≤ 65535 * zoaSt.tNs ∧
      (zoaSt.sess 0).subs.any (fun q => q.num == 15) = false ∧ (zoaSt.sess 0).subs.any (fun q => q.num == 3) = true ∧ zoaSt.subsOpen < 64 ∧
      (({ hostIn .run with net.sessions := [(0, { Session.init with isOpen := true, replies := [(5, refuse 0)] })] } : State).sess 0).kept 5 = some (refuse 0) := by
  decide +kernel

/-- A datagram on E0 to the configured UDP port, and the IPv4 peer it comes from. -/
def zoaVia : HostVia := ⟨.e0, State.reset.rd 0x1100 8⟩
def v4Peer : Nat := 0xFFFFC0A80001

/-- The device with an IPv4 address. -/
def ipSt : State := running.wr 0x1100 3 0xC0A80002

/-- Session 0 with a transfer of an image whose header has come, and one of another file. -/
def upSt (id : Nat) (h : Option ImgHdr) : State :=
  let s := hostIn .blocked
  s.setSess 0 { s.sess 0 with file := some { id := id, toDevice := true, size := 100, segs := [], hdr := h, shot := [] } }

/-- The same with every byte of the file there. -/
def fullSt (d : Nat) : State :=
  let s := hostIn .blocked
  s.setSess 0 { s.sess 0 with file := some { id := 1, toDevice := true, size := 2, segs := [(0, [1, 2])], hdr := some { imgHdr with pdigest := d }, shot := [] } }

/-- Every place for a session taken. -/
def houseSt : State := forUpTo (fun i s => s.setSess i { Session.init with isOpen := true, addr := i, port := 1 }) 8 ipSt

theorem witness_ninth : houseSt.portHeard zoaVia v4Peer = true ∧ houseSt.clientOk 1 true ⟨0, true⟩ true true true = true ∧
    (List.range 8).all (fun j => (houseSt.sess j).isOpen) = true := by decide +kernel

theorem witness_ninth_peer : houseSt.endPeer v4Peer 2 = houseSt := rfl

theorem witness_SessionsAndTransfers :
    ipSt.portHeard zoaVia v4Peer = true ∧ ipSt.clientOk 1 true ⟨0, true⟩ true true true = true ∧
      ipSt.clientOk 1 false ⟨0, true⟩ true true true = false ∧ (ipSt.sess 0).isOpen = false ∧
      ((zoaSt.sess 0).subs.find? (fun x => x.num == 3)).any (fun q => q.held == some (0, [])) = true ∧ zoaSt.sessUp 0 = true ∧ zoaSt.derated = false ∧
      (hostIn .blocked).fileRefusal ((hostIn .blocked).sess 0) 1 true = 0 ∧ (hostIn .run).fileRefusal ((hostIn .run).sess 0) 2 true ≠ 0 ∧
      ((upSt 2 none).sess 0).file.any (fun f => f.toDevice && f.id != 1 && decide (Tab.get [] 0 f.segs = [])) = true ∧
      ((upSt 1 (some imgHdr)).sess 0).file.any (fun f => f.hdr.isSome) = true ∧ ((upSt 1 none).sess 0).file.any (fun f => f.hdr.isNone) = true := by
  decide +kernel

theorem witness_no_peer : ipSt.endPeer 1 2 = ipSt := rfl

theorem test_lock_refused : ((out (execLock 0 9 0xFFFF (.string 2) lockSt)).sess 0).lockS = 0 := by decide +kernel

theorem test_session_close : ((out (execSessionClose 0 zoaSt)).sess 0).isOpen = false := by decide +kernel

/-! ## Witnesses: clocks -/

/-- PTP on both ports, port 1 a SLAVE that holds the first half of a two-step Sync. -/
def ptpSt : State :=
  let s : State := { ((running.wr 0x1208 1 3).wr 0x1100 1 2).wr 0x1208 5 0 with
    clk.ptpTwoStep := some ⟨0, 0⟩, clk.ptpReqAt := [(0, some ⟨0, 0⟩)] }
  s.wr 0x1208 12 9

theorem witness_NetworkTime :
    ptpSt.clocked = true ∧ ptpSt.rd 0x1100 1 = 2 ∧ (ptpSt.wr 0x1100 1 1).rd 0x1100 1 = 1 ∧ ptpSt.up = true ∧ ptpSt.fw.pause = false ∧ (1 : Nat) ≠ ptpSt.rd 0x1208 8 ∧
      ptpSt.ptpOn false = true ∧ ptpSt.ownBetter ⟨255, 255, 255, 65535, 255, 9⟩ = true ∧ ptpSt.ownBetter ⟨0, 0, 0, 0, 0, 0⟩ = false ∧ ptpSt.clk.ptpBest = none ∧
      (ptpSt.wr 0x1208 1 1).ptpOn false = true ∧ (ptpSt.wr 0x1208 1 1).ptpOn true = false ∧ ptpSt.ptpHeard false (ptpSt.rd 0x1208 2) = true ∧
      ptpSt.tbMode 3 = 5 ∧ ptpSt.clk.ptpChanging = false ∧ ptpSt.clk.ptpTwoStep = some ⟨0, 0⟩ ∧ Tab.get none (ptpPort false) ptpSt.clk.ptpReqAt = some ⟨0, 0⟩ := by decide +kernel

/-- A frame that another station sends first, and one of this device's own. -/
theorem witness_NetworkTime_ring :
    ptpSt.hsrRound false ⟨Config.ownMac + 1, 1, false, .plain 0⟩ = false ∧ ptpSt.hsrRound false ⟨Config.ownMac, 1, false, .plain 0⟩ = true ∧
      (ptpSt.redFind ⟨Config.ownMac + 1, 1, false, .plain 0⟩).isSome = false := by
  have h (f : RedFrame) : ptpSt.redFind f = none := rfl
  simp [State.hsrRound, h]

/-- Channel 0 due; reference 1 in use and in the list. -/
def clkSt : State :=
  let s : State := ((running.wr 0x1240 1 0x8000).wr 0x1210 6 0x81).wr 0x1210 7 2
  { s with clk.cmpArmed := [(0, true)], clk.cmpTgt := [(0, some 0)] }

theorem witness_ClocksFollow :
    clkSt.up = true ∧ clkSt.cmpDue 0 = true ∧ clkSt.rdBit 0x1240 1 12 = false ∧ clkSt.clocked = true ∧ clkSt.refValid 1 = true ∧ clkSt.refValid 4 = false ∧
      clkSt.adpllRef ≠ 0 ∧ clkSt.rdBit 0x1210 6 7 = true ∧ running.bestRef = 0 ∧ gateThere true 3 = true ∧ gateThere false 7 = true ∧
      clkSt.outSource false 7 = true ∧ ({ clkSt with clk.srcSince := [(0, some 0)], evr.opTime := 100000 } : State).outLong = true ∧ running.outSource true 3 = false ∧
      (((clkSt.wrBit 0x1200 5 5 true).wr 0x1211 1 0x81).rdBit 0x1211 1 7) = true ∧ (clkSt.wrBit 0x1200 5 5 true).onFallback = true ∧
      ({ clkSt.wrBit 0x1200 5 5 true with sys.dev := .ready } : State).running = false := by decide +kernel

/-- The reference list names input 1 first; input 1 is valid and another is followed. -/
def refSt : State := (((running.wr 0x1210 1 0x1).wr 0x1210 5 1).wr 0x1210 7 2).wr 0x1210 6 0x82

theorem witness_references :
    refSt.rdBit 0x1210 5 0 = true ∧ refSt.bestRef ≠ 0 ∧ refSt.bestRef ≠ refSt.adpllRef ∧ refSt.fallbackRef ≠ 0 ∧
      ((refSt.wr (0x1220 + 7) 1 (2 ^ 31)).outEn false 7) = true := by decide +kernel

/-! ## Witnesses: the analogue front end, background, temperatures -/

/-- The converters on, pair 0 in conversion with two disagreements. -/
def adcSt : State :=
  let s := (((running.wr 0x2700 1 1).wr 0x2709 1 0).wr 0x2709 5 0).wr 0x2709 2 10
  { s with net := s.net }.setCpair 0 { s.cpair 0 with dis := 2 }

/-- Slice 3 out for its calibration; the round in step before it, its pair off. -/
def calOut : State := { adcSt with fld.cal := ⟨4, 3, .out⟩ }
def calIn : State := { adcSt.wr 0x270A 1 0xFF with fld.cal := ⟨4, 3, .stepIn⟩ }

theorem witness_calibration :
    calOut.calRuns = true ∧ calOut.fld.cal.phase = .out ∧ calOut.fld.cal.slice < 8 ∧ calIn.rdBit 0x2700 1 0 = true ∧ calIn.rd (0x2709 + 1) 1 = 0xFF ∧
      calIn.fld.cal.phase = .stepIn ∧ calIn.fld.cal.slice / 2 = 1 := by decide +kernel

theorem witness_FrontEndAndBackground :
    adcSt.rdBit 0x2700 1 0 = true ∧ adcSt.rd 0x2709 1 ≠ 0xFF ∧ (adcSt.cpair 0).arb = false ∧ adcSt.rd 0x2709 5 = 0 ∧ 2 ≤ (adcSt.cpair 0).dis ∧
      adcSt.rdBit 0x2700 1 3 = false ∧ adcSt.rdBit 0x2700 1 2 = false ∧ adcSt.rd 0x2709 2 < (adcSt.adcCode (adcSt.rd 0x2709 1) (adcSt.sliceOf 0) 21 - adcSt.adcCode (adcSt.rd 0x2709 1) (adcSt.sliceOf 1) 0).natAbs ∧
      ¬ adcSt.rd 0x2709 2 < (adcSt.adcCode (adcSt.rd 0x2709 1) (adcSt.sliceOf 0) 20 - adcSt.adcCode (adcSt.rd 0x2709 1) (adcSt.sliceOf 1) 0).natAbs ∧
      adcSt.calRuns = true ∧ adcSt.fld.cal.phase = .idle ∧ sliceFailed true 0 0 = false ∧ sliceFailed true 1000000 0 = true ∧ adcSt.coresFree = true ∧ adcSt.derated = false ∧ adcSt.cellType 191 = 0 ∧
      (fieldIn .run).coresFree = true ∧ (fieldIn .run).cellType 0 ≠ 0 ∧ (fieldIn .run).strEn ((fieldIn .run).cellStr 0) = true ∧
      (fieldIn .run).rd 0x6A00 8 < 0xFFFFFFFF ∧ adcSt.mramLock = false ∧ (adcSt.wrBit 0x1330 2 4 true).mramLock = true ∧ adcSt.scrubOn = true ∧
      eyeNarrow 1 1 = true ∧ adcSt.rd 0x6080 2 + 7 < 2 ^ 32 := by decide +kernel

/-- A pair whose results were invalid when the spare replaced a slice of it. -/
def freedSt : State := adcSt.setCpair 0 { adcSt.cpair 0 with invalid := true }

theorem witness_FrontEndAndBackground_pair :
    (adcSt.cpair 0).invalid = false ∧ (freedSt.cpair 0).invalid = true ∧ (freedSt.cpair 0).arb = false ∧ freedSt.rd 0x2709 5 ≠ 5 ∧
      freedSt.rdBit 0x2700 1 0 = true ∧ freedSt.rd 0x2709 1 ≠ 0xFF := by decide +kernel

/-- Three readings above every level; a device switched off by heat that has cooled. -/
def hotSt : State := { running with pw.thWarn := 3, pw.thDerate := 3, pw.thShut := 3 }
def coolSt : State := { (running.wrBit 0x1330 2 0 true) with pw.thRel := 3 }
def offSt : State := { (running.wr 0x1331 9 0) with pw.thermalOff := true }

theorem witness_TemperaturesAct :
    hotSt.railsUp = true ∧ hotSt.up = true ∧ 3 ≤ hotSt.pw.thWarn ∧ hotSt.rdBit 0x1330 2 0 = false ∧ hotSt.derated = false ∧ 3 ≤ coolSt.pw.thRel ∧
      coolSt.rdBit 0x1330 2 0 = true ∧ hotSt.tooHot = true ∧ hotSt.sys.due = [] ∧ hotSt.sys.role ≠ .active ∧ offSt.pw.thermalOff = true ∧
      offSt.rdInt 0x1331 9 16 < 16 * (offSt.rd 0x1330 7 : Int) ∧ (adcSt.wrBit 0x1330 2 4 true).mramLock = true := by decide +kernel

/-- MRAM writes forbidden with every sensor back in range. -/
def lockedSt : State := { running with reg.od := (ekey 0x1330 2, 0x10) :: (List.range 10).map (fun i => (ekey 0x1331 (i + 1), 400)) }

theorem witness_mramUnlock : lockedSt.mramLock = true := by decide +kernel

theorem witness_mramUnlock_sensors : ∀ i : Nat, i < 10 → lockedSt.rd 0x1331 (i + 1) = 400 ∧ -368 ≤ toSigned 16 400 ∧ toSigned 16 400 ≤ 1968 := by
  decide +kernel

theorem test_adc_third : (out (execAdcRound 0 [some 21] [some 0] none adcSt)).rd 0x2709 5 = 2 := by decide +kernel

theorem test_thermal_shutdown : (out (execThermalShutdown hotSt)).sys.dev = .safe ∧ (out (execThermalShutdown hotSt)).sys.pins.rstoutN = false := by
  decide +kernel

/-! ## Witnesses: supplies, resets, boot, activation -/

/-- On backup with the hold-up time running. -/
def backupSt : State := { ((running.wrBit 0x1300 1 2 true).wrBit 0x1300 1 4 true) with pw.aonB := true }

/-- BLOCKED with an accepted sleep request; asleep with the wake timer set. -/
def sleepySt : State := { (hostIn .blocked) with sys.due := [⟨8, 0, 0⟩] }
def asleepSt : State := { State.reset.wr 0x1310 1 60 with sys.dev := .sleep }

theorem witness_SuppliesAndSleep :
    running.railsUp = true ∧ running.sys.dev ≠ .sleep ∧ running.pw.thermalOff = false ∧ running.pw.aonB = false ∧ backupSt.pw.aonB = true ∧
      running.onBackup = false ∧ running.sys.pins.pgoodBkup = true ∧ backupSt.onBackup = true ∧ backupSt.rdBit 0x1300 1 4 = true ∧ backupSt.up = true ∧
      backupSt.sys.role ≠ .active ∧ activeSt.sys.role = .active ∧ sleepySt.sys.dev = .blocked ∧ sleepySt.sleepDue = true ∧ asleepSt.sys.dev = .sleep ∧
      0 < asleepSt.rd 0x1310 1 := by decide +kernel

/-- Held in reset by a rail, and by the watchdog; started in BOOT with an image. -/
def heldSt : State := { State.reset with sys.intReset := true, pw.bootCause := 6 }
def wdSt : State := { State.reset with sys.intReset := true, pw.wdPending := true }
def bootSt : State :=
  { State.reset with sys.straps := { devid := 3, pairselB := false, bootsel := true }, sys.bistOk := true,
                     fw.slotA := ⟨4, some { imgHdr with arb := State.reset.rd 0x1400 2 }, []⟩, fw.romDone := true }

theorem witness_ResetsAndBoot :
    railLow 0 0 = true ∧ running.sys.dev ≠ .sleep ∧ heldSt.sys.intReset = true ∧ heldSt.pw.wdPending = false ∧ heldSt.pw.bootCause = 6 ∧
      running.rd 0x1320 4 + 1 < 2 ^ 32 ∧ running.watchdogOn = true ∧ wdSt.pw.wdPending = true ∧ wdSt.sys.intReset = true ∧
      running.sys.intReset = false ∧ running.pw.thermalOff = false ∧ running.sys.pins.resetN = true ∧ bootSt.sys.dev = .boot ∧ bootSt.sys.intReset = false ∧
      bootSt.sys.imgStarted = false ∧ bootSt.fw.runB = false ∧ (3 ≤ bootSt.runSlot.status ∧ bootSt.runSlot.status ≤ 6) ∧ bootSt.runSlot.hdr.any (fun h => bootSt.hdrStart h == 0) = true ∧
      bootSt.sys.straps.bootsel = true ∧ bootSt.fw.lifecycle ≤ 1 ∧ bootSt.hdrStart { imgHdr with arb := State.reset.rd 0x1400 2 } = 0 ∧
      bootSt.sys.pins.trip = 0 ∧ bootSt.sys.pins.flt = 0 ∧ bootSt.sys.bistOk = true ∧ bootSt.saf.bootSf5 = 0 ∧ bootSt.saf.bootOcc = [] ∧
       bootSt.debugState = true ∧ ({ bootSt with fw.lifecycle := 2 } : State).debugState = true := by decide +kernel

theorem witness_BootEnds :
    bootSt.bootNamed true true = some false ∧ bootSt.bootNamed false false = none ∧ bootSt.fw.romDone = true ∧ bootSt.inactiveSlot.status ∉ [5, 6] ∧
      ({ bootSt with fw.slotB := { bootSt.fw.slotB with status := 6 } } : State).inactiveSlot.status = 6 ∧ bootSt.pw.thermalOff = false ∧ bootSt.fw.pause = false ∧
      ({ bootSt with sys.imgStarted := true } : State).sys.imgStarted = true := by decide +kernel

/-- The image header that slot A of the boot state holds. -/
def bootImg : ImgHdr := { imgHdr with arb := State.reset.rd 0x1400 2 }

theorem witness_BootEnds_image :
    bootSt.slotStarts bootSt.runSlot ⟨true, true⟩ = true ∧ bootSt.slotStarts bootSt.runSlot ⟨false, true⟩ = false ∧
      digestOk bootImg [] = true ∧ gcmOk bootImg [] = true := by
  have h : bootSt.hdrStart bootImg = 0 := by decide +kernel
  have r : bootSt.runSlot = ⟨4, some bootImg, []⟩ := rfl
  have d : digestOk bootImg [] = true := by simp [digestOk, bootImg, imgHdr]
  have g : gcmOk bootImg [] = true := by simp only [gcmOk, bootImg, imgHdr, Nat.zero_div, decide_true]
  simp [State.slotStarts, r, h, d, g]

/-- An image loading, loaded, in its pause, and confirming. -/
def loadSt : State := { running with fw.loading := true }
def pauseSt : State := { running with fw.pause := true, fw.slotB := ⟨2, some imgHdr, []⟩ }

theorem witness_ActivationRuns :
    loadSt.fw.loading = true ∧ loadSt.fw.loaded = false ∧ loadSt.up = true ∧ ({ loadSt with fw.loaded := true } : State).fw.loaded = true ∧
      pauseSt.fw.pause = true ∧ pauseSt.fw.fbPause = false ∧ pauseSt.startsOk true true = true ∧
      ({ running with fw.confirming := true } : State).fw.confirmed = false ∧
      (∀ i : Nat, i < 40 → (running.sess i).file.all (fun f => f.id != 1) = true) := by decide +kernel

theorem test_wake : (out (execWakePin 1000 { devid := 9, pairselB := false, bootsel := false } asleepSt)).sys.dev = .boot ∧
    (out (execWakePin 1000 { devid := 9, pairselB := false, bootsel := false } asleepSt)).pw.bootCause = 4 := by decide +kernel

/-! ## Witnesses: nodes -/

/-- Node 16 (ring 1, position 0), powered, in a state, locked, with a boundary. -/
def node16 (f : Node → Node) : State :=
  let x : Node := { Node.init with powered := true, ident := some ident, nr.tb0Lock := true, nx.boundary := some 2560000, nx.tper := 10000, nr.cfgDone := true }
  State.reset.setNode 16 (f x)

/-- The same after 10 ms without a Sync. -/
def silentNode : State := node16 (fun x => { x with np.missA := 1000, np.missB := 1000 })

/-- A header and a record for it. -/
def hdr1 : WaleHdr := { hdr0 with ring := 1, tgtT0 := 5120000 }
def rec1 : NodeRec := { pos := 0, cmd := 0, arg := 0, edges := [{ leg := 7, st := .high, strength := 1, offset := 2559999 }], rcrcOk := true }
/-- A supplementary header for the tick in progress. -/
def hdr2 : WaleHdr := { hdr1 with supp := true, tick := 0, tgtT0 := 2560000 }

theorem witness_NodeTicksAndRecords :
    (State.reset.node 16).powered = false ∧ ((node16 id).node 16).powered = true ∧ ((node16 id).node 16).boundary.nr.tb0Lock = true ∧
      ((node16 id).node 16).boundary.nx.boundary.isSome = true ∧ ((node16 (fun x => { x with nr.tb0Lock := false })).node 16).nr.tb0Lock = false ∧
      ((node16 id).node 16).nr.mandate = none ∧ ((node16 id).node 16).nr.tsrcB = false ∧ ((node16 id).node 16).np.gotA = false ∧ ((node16 id).node 16).np.gotB = false ∧
      (silentNode.node 16).nr.tb0Lock = true ∧ 4 ≤ (silentNode.node 16).np.missA ∧ (silentNode.node 16).nr.mandate = none ∧ ((node16 id).node 16).np.missA < 4 ∧
      10000000 ≤ (Nat.min (silentNode.node 16).np.missA (silentNode.node 16).np.missB + 1) * (silentNode.node 16).nx.tper ∧ 256 < (tbDiff 300 (((node16 id).node 16).tb0At 0)).natAbs ∧
      ((node16 id).node 16).hdrOk 16 hdr1 = true ∧ ((node16 id).node 16).recOk rec1 = true ∧ ((node16 id).node 16).seqOk hdr1 = true ∧
      ((node16 id).node 16).tickOk hdr1 = true ∧ ((node16 id).node 16).dup hdr1 = false ∧ ((node16 id).node 16).lateRec hdr1 (((node16 id).node 16).tb0At (5120000 - 800 * 256)) = false ∧
      ((node16 id).node 16).lateRec hdr1 (((node16 id).node 16).tb0At (5120001 - 800 * 256)) = true ∧ ((node16 id).node 16).nc.late + 1 < 2 ^ 32 := by decide +kernel

/-- Node 16 in N-RUN, and in N-COAST on a pattern of one entry. -/
def runNode : State := node16 (fun x => { x with ns := .run })
def pat1 : CoastPat := { pver := 0, anchor := 0, period := 256000, ents := [{ leg := 0, st := .high, strength := 0, offset := 10 }] }
def coastNode : State :=
  node16 (fun x => ({ x with ns := .coast, nx.pat := pat1, nr.patValid := true, nx.coastT0 := some 2560000 }).setLeg 0 { NodeLeg.init with coastAt := some 2560000 })

theorem witness_HeadersAndSupplementaryRecords :
    (runNode.node 16).powered = true ∧ hdr2.supp = true ∧ rec1.pos = 16 % 16 ∧ hdr2.hcrcOk = true ∧ hdr2.ring = 16 / 16 ∧
      (runNode.node 16).nc.epochSeen ≤ hdr2.epoch ∧ (runNode.node 16).recOk rec1 = true ∧ (runNode.node 16).nc.wseqEpoch = none ∧ (runNode.node 16).ns = .run ∧
      hdr2.tick = (runNode.node 16).nx.tick ∧ (tbDiff hdr2.tgtT0 (runNode.node 16).t0).natAbs ≤ 256 ∧
      (∀ e ∈ rec1.edges, 1200 * 256 ≤ tbDiff (hdr2.tgtT0 + BitVec.ofNat 40 e.offset) ((runNode.node 16).tb0At (2560000 + 2559999 - 1200 * 256))) ∧
      (∀ l : Nat, l < 8 → ((runNode.node 16).leg l).execd + (((runNode.node 16).leg l).merged l rec1.edges).length ≤ 8) ∧
      hdr2.epoch < (((node16 (fun x => { x with nc.epochSeen := 3 })).node 16).nc.epochSeen) := by decide +kernel

theorem witness_NodeLegsAndFaults :
    (runNode.node 16).powered = true ∧ (runNode.node 16).ns = .run ∧ (runNode.node 16).nx.gotRegular = false ∧
      (((runNode.setNode 16 ((runNode.node 16).setLeg 7 { NodeLeg.init with edges := rec1.edges })).node 16).leg 7).edges.length = 1 ∧
      (coastNode.node 16).ns = .coast ∧ (coastNode.node 16).legDead 0 = false ∧ ((coastNode.node 16).leg 0).coastAt = some 2560000 ∧
      patNextEnt (coastNode.node 16).nx.pat 0 2560000 = some (2560010, { leg := 0, st := .high, strength := 0, offset := 10 }) ∧
      (coastNode.node 16).nx.pend = none ∧ tbDiff 2560010 2560000 < 256000 * ((coastNode.node 16).nr.coastwin : Int) ∧ CoastOk pat1 = true ∧
      (runNode.node 16).entitled 5 = true ∧ (runNode.node 16).active = true ∧ (runNode.node 16).nr.ovth0 < 32767 + 1 ∧ (runNode.node 16).nc.blkinv + 1 < 2 ^ 32 ∧
      (runNode.node 16).inScope { scope := 0, strmask := 0, cause := 1, devid := 1, wellFormed := true } = true := by decide +kernel

/-- A coasting node whose coast window has run out. -/
def overNode : State := coastNode.setNode 16 { coastNode.node 16 with nx.coastT0 := some 0, nr.coastwin := 1 }

theorem witness_NodeLegsAndFaults_window :
    (overNode.node 16).powered = true ∧ (overNode.node 16).ns = .coast ∧ (overNode.node 16).windowOver (tbNs (overNode.node 16).t0 (overNode.node 16).nx.tper) = true ∧
      (coastNode.node 16).windowOver (coastNode.node 16).t0 = false ∧ ((runNode.node 16).leg 0).delayed = none ∧ ((runNode.node 16).leg 0).lastStep = none ∧ (runNode.node 16).nr.patValid = false ∧
      (coastNode.node 16).nr.patValid = true := by decide +kernel

theorem witness_node_commands :
    ((node16 (fun x => { x with ns := .ready, nx.cmdNow := 1 })).node 16).nx.cmdNow = 1 ∧ ((node16 (fun x => { x with nr.bypHeld := 3 })).node 16).nr.bypHeld.getLsbD 1 = true ∧
      ((node16 (fun x => { x with ns := .ready, nx.cmdNow := 2 })).node 16).ns = .ready ∧ ((node16 (fun x => { x with nr.osdRun := true })).node 16).nr.osdRun = true := by
  decide +kernel

theorem witness_NodeManagement :
    ((node16 id).node 16).np.mgmtLast.all (fun q => q.2.1 != 4) = true ∧ (((node16 id).node 16).regBytes 0x180 4).isSome = true ∧ ((node16 id).node 16).ident = some ident ∧
      ((node16 id).node 16).entitled 5 = true ∧ ((node16 id).node 16).following = false ∧ (runNode.node 16).following = true ∧
      ((node16 id).node 16).cfgWritable = true ∧ ((node16 (fun x => { x with nr.mandate := some 6 })).node 16).entitled 5 = false ∧
      ((node16 (fun x => { x with np.mgmtLast := some (true, 4, 0, []), np.mgmtReply := some (true, 4, 0, []) })).node 16).np.mgmtReply = some (true, 4, 0, []) := by
  decide +kernel

theorem test_supplementary : (((out (execNodeSupplementaryRecord 16 hdr2 rec1 2560000 runNode)).node 16).leg 7).edges = rec1.edges := by decide +kernel

theorem test_node_block :
    ((out (execNodeBlockSet ⟨16, false⟩ { scope := 0, strmask := 0, cause := 1, devid := 1, wellFormed := true } runNode)).node 16).ns = .block := by decide +kernel

theorem test_node_coast_without_pattern : ((out (execNodeCoastStart 16 runNode)).node 16).ns = .block := by decide +kernel

/-! ## Witnesses: internal events and invariants -/

/-- Prepare in progress in BLOCKED, no ring in use. -/
def prepSt : State := { hostIn .blocked with sys.preparing := true }
/-- The trace at its end; the trace armed for GPIO 5. -/
def traceSt : State := { running with cpu.tracePost := some 0 }
/-- Engine 4 has one more beat of its transfer. -/
def holdSt : State := { running with cpu.csmHold := [(⟨2, 4⟩, 1)] }
def gpioSt : State := running.wr 0x3100 1 (0x41 + 5 * 2048)

theorem witness_InternalEvents :
    running.up = true ∧ running.csmGrant 0 [⟨1, 0⟩] = some ⟨1, 0⟩ ∧ (running.csmCycles 0 [[(⟨2, 4⟩, 3)]]).csmGrant 1 [⟨1, 0⟩] = some ⟨2, 4⟩ ∧
      holdSt.csmGrant 0 [] = some ⟨2, 4⟩ ∧ holdSt.cpu.csmHold = [(⟨2, 4⟩, 1)] ∧ running.rd 0x3200 5 + 1 < 2 ^ 32 ∧ running.rd 0x3200 2 < 4097 ∧
      running.rd 0x3203 6 + 1 < 2 ^ 32 ∧ ownsCycle 0x3F ⟨1, 1⟩ = true ∧ ownsCycle 0 ⟨1, 1⟩ = false ∧ prepSt.sys.preparing = true ∧ prepSt.sys.dev = .blocked ∧
      prepSt.pathTested true = true ∧ traceSt.cpu.tracePost = some 0 ∧ bitsN (gpioSt.rd 0x3100 1) 14 11 = 5 ∧ bitsN (gpioSt.rd 0x3100 1) 7 4 = 4 ∧
      gpioSt.rdBit 0x3100 1 0 = true ∧ gpioSt.rdBit 0x3100 4 1 = false := by decide +kernel

/-- A requester whose grant is held withdraws in a cycle that another owns. -/
theorem witness_InternalEvents_holder :
    (holdSt.csmCycles 0 []).cpu.csmHold.any (fun h => h.1 == ⟨2, 4⟩) = true ∧ (running.csmCycles 0 []).cpu.csmHold.any (fun h => h.1 == ⟨1, 0⟩) = false ∧
      (running.csmCycles 0 []).csmGrant 0 [⟨1, 0⟩, ⟨1, 1⟩] ≠ some ⟨1, 1⟩ := by decide +kernel

theorem witness_EntriesCanonical : EntriesCanonical gpioSt := by
  unfold EntriesCanonical
  exact ⟨by decide +kernel, by decide +kernel⟩

theorem witness_IdleNodesOff : IdleNodesOff State.reset := by
  intro n l _ _
  left; rfl

theorem witness_step : Machine.step { running with pending := [.aonSave] } = exec .aonSave { running with pending := [] } := rfl

theorem test_gpio : (out (execGpioRise 5 gpioSt)).rdBit 0x3100 4 1 = true := by decide +kernel

end Sys2Proof.Tests
end

section
/-! The settled statements about the requested state: what writing an event leaves of the register file, and what a host's write of
0x1001.02 does. -/

namespace Sys2Proof.Machine

open Sys2Proof.Claims

/-! ## Writing an event leaves every entry but the recorder's drop counters -/

/-- The entries that writing an event may change: the recorder's drop counters 0x6000.05, .06 and .08. -/
def IsDropCtr (key : Nat) : Prop := key = ekey 0x6000 5 ∨ key = ekey 0x6000 6 ∨ key = ekey 0x6000 8

theorem State.rd_bump_ne (s : State) {i j k l : Nat} (h : ekey i j ≠ ekey k l) : (s.bump k l).rd i j = s.rd i j := by
  unfold State.bump
  dsimp only
  split
  · exact s.rd_wr_ne i j k l _ h
  · rfl

section
variable {i j : Nat} (h : ¬ IsDropCtr (ekey i j))
include h

theorem State.rd_putKeep (s : State) (n : EvRec) : (s.putKeep n).rd i j = s.rd i j := by
  unfold State.putKeep
  dsimp only
  split_ifs
  · rfl
  · exact State.rd_bump_ne _ fun hk => h (.inr (.inl hk))
  · exact State.rd_bump_ne _ fun hk => h (.inl hk)

theorem State.rd_putBuf (s : State) (n : EvRec) : (s.putBuf n).rd i j = s.rd i j := by
  unfold State.putBuf
  dsimp only
  split_ifs
  · rfl
  · rfl
  · exact State.rd_bump_ne _ fun hk => h (.inr (.inr hk))

theorem State.rd_evOne (s : State) (sev origin unit code data : Nat) :
    (s.evOne sev origin unit code data).rd i j = s.rd i j := by
  unfold State.evOne
  dsimp only
  split_ifs
  · rfl
  · rfl
  · exact State.rd_putBuf h _ _
  · rfl
  · rfl
  · rfl
  · rfl
  · exact State.rd_putKeep h _ _

theorem State.rd_ev (s : State) (sev origin unit code data : Nat) :
    (s.ev sev origin unit code data).rd i j = s.rd i j := by
  unfold State.ev
  dsimp only
  split
  · rw [State.rd_evOne h, State.rd_evOne h]
  · exact State.rd_evOne h _ _ _ _ _ _

/-- A refused request leaves every entry but 0x1001.04 and the drop counters. -/
theorem State.rd_reqRefused_ne (s : State) (ts st v : Nat) (hne : ekey i j ≠ ekey 0x1001 4) :
    (s.reqRefused ts st v).1.rd i j = s.rd i j :=
  (State.rd_ev h _ _ _ _ _ _).trans (s.rd_wr_ne i j _ _ _ hne)

end

/-! ## A refused request (R25, R28) -/

/-- A refused request changes the register file and the recorder alone. -/
theorem State.reqRefused_frame (s : State) (ts st v : Nat) :
    ∃ r e, (s.reqRefused ts st v).1 = { s with reg := r, evr := e } := by
  obtain ⟨r, e, h⟩ := State.ev_frame (s.wr 0x1001 4 ts) 1 1 (devCode s.sys.dev) evRefused v
  exact ⟨r, e, h⟩

theorem regBits_transitionStatus : regBits (ekey 0x1001 4) = 8 := by decide

/-- A refused request leaves its reason in 0x1001.04. -/
theorem State.rd_reqRefused_status (s : State) (ts st v : Nat) (hts : ts < 256) :
    (s.reqRefused ts st v).1.rd 0x1001 4 = ts := by
  have hkey : ¬ IsDropCtr (ekey 0x1001 4) := by unfold IsDropCtr; decide
  calc (s.reqRefused ts st v).1.rd 0x1001 4
      = (s.wr 0x1001 4 ts).rd 0x1001 4 := State.rd_ev hkey _ _ _ _ _ _
    _ = ts % 2 ^ 8 := by rw [State.rd_wr_same, regBits_transitionStatus]
    _ = ts := Nat.mod_eq_of_lt hts

/-- The requested state 0x03 in SAFE with a cause of SAFE present is refused, by any writer that holds a role for it (R25, R270). -/
theorem State.reqState_ack_refused (s : State) (roles : BitVec 8) (hrole : hasRole roles 14 = true) (hsafe : s.sys.dev = .safe)
    (hcause : s.safeCause = true) : s.reqState roles 3 = s.reqRefused 3 5 3 := by
  simp [State.reqState, hrole, hsafe, hcause, reqPermitted]

/-! ## A host's write of the requested state -/

/-- The row of 0x1001.02 (Table CM-9). -/
def reqStateRow : EntryRow := ⟨0x1001, 1, 2, 2, .u8, 1, .rw, 0, 255, 0x0, false, 14, 0, false⟩

theorem entryRow_reqState : entryRow 0x1001 2 = some reqStateRow := by decide

theorem State.row_reqState (s : State) : s.row 0x1001 2 = some reqStateRow := by
  simp [State.row, entryRow_reqState]

theorem fullItem_reqState (v : Nat) : fullItem 0x1001 2 v = ⟨0x1001, 2, 2, 0, 1, v⟩ := by
  simp [fullItem, entryRow_reqState, reqStateRow, tyCode]

theorem itemStatus_reqState {v : Nat} (hv : v ≤ 255) : itemStatus reqStateRow ⟨0x1001, 2, 2, 0, 1, v⟩ = 0 := by
  simp [itemStatus, reqStateRow, tyCode, tyBytes, tySigned]
  omega

/-- Storing an item of 0x1001.02 is the request for the state it names. -/
theorem State.storeItem_reqState (s : State) (roles : BitVec 8) (v : Nat) :
    s.storeItem roles reqStateRow ⟨0x1001, 2, 2, 0, 1, v⟩ = s.reqState roles v := by
  simp [State.storeItem, State.actWrite, State.itemNew, itemVal, reqStateRow, keptVal, writeMask]

/-- A write of 0x1001.02 whose preconditions hold is the request, with nothing forwarded as an item (R289: no pair-shared entry). -/
theorem State.checkedItem_reqState (s : State) (x : Session) {v : Nat} (hv : v ≤ 255) :
    s.checkedItem x reqStateRow ⟨0x1001, 2, 2, 0, 1, v⟩ = s.reqState x.roles v := by
  have hunlocked : lockedAcc reqStateRow.acc = false := rfl
  have hstr (old : Nat) (w : WItem) : strOk reqStateRow old w = true := rfl
  have hshared : pairShared 0x1001 2 = false := by decide
  simp [State.checkedItem, hunlocked, hstr, itemStatus_reqState hv, State.storeItem_reqState, State.confSerial,
    State.forwardItem, hshared]

/-- A permitted write of the requested state acts as the request does, and answers its status. -/
theorem State.hostSet_reqState (s : State) (i : Fin 40) {v : Nat} (hmay : MayWrite s i 0x1001 2) (hv : v ≤ 255) :
    s.hostSet i 0x1001 2 v =
      (s.reqState (s.sess i).roles v).1.send (.itemStatus i (s.reqState (s.sess i).roles v).2) := by
  obtain ⟨hup, r, hrow, hpre, -⟩ := hmay
  obtain rfl : reqStateRow = r := Option.some.inj ((s.row_reqState).symm.trans hrow)
  simp [State.hostSet, State.hostWrite, fullItem_reqState, hup, State.writeItem, State.row_reqState, hpre,
    State.checkedItem_reqState s _ hv]

/-- An acknowledge in SAFE with a cause present is a refused request (R25). -/
theorem execAcknowledge_refused (s : State) (i : Fin 40) (hmay : MayWrite s i 0x1001 2)
    (hrole : hasRole (s.sess i).roles 14 = true) (hsafe : s.sys.dev = .safe) (hcause : s.safeCause = true) :
    exec (.acknowledge i) s = .next ((s.reqRefused 3 5 3).1.send (.itemStatus i 5)) := by
  have hset := s.hostSet_reqState i (v := 3) hmay (by decide)
  rw [s.reqState_ack_refused _ hrole hsafe hcause] at hset
  exact congrArg Host.Outcome.next hset

theorem status_send (t : State) (i : Fin 40) (st : Nat) : Status (t.send (.itemStatus i st)) i st := by
  simp [Status]

/-- Settles O55: the write is the refused request of R25, which changes the recorder and, of the entries, 0x1001.04 and the drop
counters only. -/
theorem acknowledgeWithACauseIsRefused : Obligations.AcknowledgeWithACauseIsRefused := by
  intro s i hmay hrole hsafe hcause
  obtain ⟨r, e, hframe⟩ := s.reqRefused_frame 3 5 3
  refine ⟨_, execAcknowledge_refused s i hmay hrole hsafe hcause, ?_, ⟨5, by decide, status_send _ i 5⟩, ?_, ?_, ?_, ?_⟩
  · exact s.rd_reqRefused_status 3 5 3 (by decide)
  · intro k _ hk
    have hdrop : ¬ IsDropCtr (ekey 0x4201 k) := by simp only [IsDropCtr, ekey]; omega
    have hne : ekey 0x4201 k ≠ ekey 0x1001 4 := by simp only [ekey]; omega
    exact State.rd_reqRefused_ne hdrop s 3 5 3 hne
  · rw [State.sys_send, hframe]
  · rw [State.fld_send, hframe]
  · rw [State.saf_send, hframe]

end Sys2Proof.Machine
end

section
/-! The settled statement about a node's Wale headers and supplementary records (R94, R98): what hearing a frame changes beside the
node, what each check of a header and of a record says, and the two outcomes of a supplementary record. -/

namespace Sys2Proof.Machine

open Sys2Proof.Claims

/-! ## A frame reaches a node: what changes beside it (R66) -/

/-- From `s` to `t` no node but `n` has changed, nor the entries or the device, and only frames that `n` passes on have left. -/
def TouchesNode (n : Nat) (s t : State) : Prop :=
  (∀ m, m ≠ n → t.node m = s.node m) ∧ t.sys = s.sys ∧ t.reg = s.reg ∧ OnlyForwards n s t

theorem onlyForwards_of_append {n : Nat} {s t : State} (l : List TxItem) (htx : t.tx = s.tx ++ l) (hl : l.all (isForward n) = true) :
    OnlyForwards n s t := by
  simp [OnlyForwards, htx, hl]

theorem append_of_onlyForwards {n : Nat} {s t : State} (h : OnlyForwards n s t) :
    ∃ l, t.tx = s.tx ++ l ∧ l.all (isForward n) = true := by
  obtain ⟨htake, hdrop⟩ := h
  refine ⟨t.tx.drop s.tx.length, ?_, hdrop⟩
  conv_lhs => rw [← List.take_append_drop s.tx.length t.tx, htake]

theorem TouchesNode.refl (n : Nat) (s : State) : TouchesNode n s s :=
  ⟨fun _ _ => rfl, rfl, rfl, onlyForwards_of_append [] (List.append_nil _).symm rfl⟩

theorem TouchesNode.trans {n : Nat} {s t u : State} (h : TouchesNode n s t) (k : TouchesNode n t u) : TouchesNode n s u := by
  obtain ⟨hnode, hsys, hreg, htx⟩ := h
  obtain ⟨knode, ksys, kreg, ktx⟩ := k
  obtain ⟨l, hl, hfwd⟩ := append_of_onlyForwards htx
  obtain ⟨m, hm, kfwd⟩ := append_of_onlyForwards ktx
  refine ⟨fun i hi => (knode i hi).trans (hnode i hi), ksys.trans hsys, kreg.trans hreg, onlyForwards_of_append (l ++ m) ?_ ?_⟩
  · rw [hm, hl, List.append_assoc]
  · rw [List.all_append, hfwd, kfwd, Bool.and_self]

theorem State.setNode_touches (s : State) (n : Nat) (x : Node) : TouchesNode n s (s.setNode n x) :=
  ⟨fun m hm => by rw [State.node_setNode, if_neg hm], rfl, rfl, onlyForwards_of_append [] (List.append_nil _).symm rfl⟩

theorem State.sendAll_touches (s : State) {n : Nat} {l : List TxItem} (hl : l.all (isForward n) = true) :
    TouchesNode n s (s.sendAll l) :=
  ⟨fun _ _ => rfl, rfl, rfl, onlyForwards_of_append l rfl hl⟩

theorem State.onNode_touches (s : State) (n : Nat) (g : Node → Node) : TouchesNode n s (s.onNode n g) := by
  unfold State.onNode
  split
  · exact s.setNode_touches n _
  · exact .refl n s

theorem State.releaseHeld_touches (s : State) (n : Nat) : TouchesNode n s (s.releaseHeld n) := by
  unfold State.releaseHeld
  dsimp only
  split
  · exact .refl n s
  · refine (s.setNode_touches n _).trans (State.sendAll_touches _ ?_)
    simp [isForward, List.all_append]

/-- A frame passed on has left on the other port, or is held there. -/
theorem State.passOn_cases (s : State) (n : Nat) (toB : Bool) (f : NodeFrame) :
    s.passOn n toB f = s ∨ s.passOn n toB f = s.sendAll [.nodeForward n toB f] ∨
      s.passOn n toB f = s.setNode n ((s.node n).hold toB f) := by
  unfold State.passOn
  dsimp only
  split
  · exact .inl rfl
  · cases f
    case blockSet b => exact .inr (.inl rfl)
    all_goals
      dsimp only
      split
      · exact .inr (.inr rfl)
      · exact .inr (.inl rfl)

theorem State.passOn_touches (s : State) (n : Nat) (toB : Bool) (f : NodeFrame) : TouchesNode n s (s.passOn n toB f) := by
  obtain h | h | h := s.passOn_cases n toB f <;> rw [h]
  · exact .refl n s
  · exact s.sendAll_touches (by simp [isForward])
  · exact s.setNode_touches n _

theorem State.hears_touches (s : State) (n : Nat) (fromB : Bool) (f : NodeFrame) (g : Node → Node) :
    TouchesNode n s (s.hears n fromB f g) :=
  (s.onNode_touches n g).trans (State.passOn_touches _ _ _ _)

/-! ## What waits at a node's ports is no part of what it takes from a frame -/

/-- The node with `w` at its ports. -/
def Node.withFwd (x : Node) (w : NodeFwd) : Node := { x with np.fwd := w }

theorem Node.hold_withFwd (x : Node) (toB : Bool) (f : NodeFrame) : ∃ w, x.hold toB f = x.withFwd w := by
  cases toB <;> exact ⟨_, rfl⟩

theorem State.node_releaseHeld (s : State) (n : Nat) : ∃ w, (s.releaseHeld n).node n = (s.node n).withFwd w := by
  unfold State.releaseHeld
  dsimp only
  split
  · exact ⟨_, rfl⟩
  · exact ⟨_, State.node_setNode_same _ _ _⟩

theorem State.node_passOn (s : State) (n : Nat) (toB : Bool) (f : NodeFrame) :
    ∃ w, (s.passOn n toB f).node n = (s.node n).withFwd w := by
  obtain h | h | h := s.passOn_cases n toB f <;> rw [h]
  · exact ⟨_, rfl⟩
  · exact ⟨_, rfl⟩
  · rw [State.node_setNode_same]
    exact (s.node n).hold_withFwd toB f

/-- A powered node takes the frame it hears. -/
theorem State.node_hears (s : State) (n : Nat) (fromB : Bool) (f : NodeFrame) (g : Node → Node) (hp : (s.node n).powered = true) :
    ∃ w, (s.hears n fromB f g).node n = (g (s.node n)).withFwd w := by
  have hg : (s.onNode n g).node n = g (s.node n) := by simp [State.onNode, hp]
  obtain ⟨w, hw⟩ := (s.onNode n g).node_passOn n (!fromB) f
  exact ⟨w, by rw [State.hears, hw, hg]⟩

/-! ## Checks and counters of a node -/

/-- R94: a header that arrived on `ring` is accepted. -/
def Node.Accepts (x : Node) (ring : Nat) (h : WaleHdr) : Prop :=
  h.hcrcOk = true ∧ h.ring = ring ∧ x.nc.epochSeen ≤ h.epoch

theorem Node.Accepts.epochSeen_le {x : Node} {ring : Nat} {h : WaleHdr} (hok : x.Accepts ring h) : x.nc.epochSeen ≤ h.epoch :=
  hok.right.right

theorem Node.hdrOk_iff (x : Node) (n : Nat) (h : WaleHdr) : x.hdrOk n h = true ↔ x.Accepts (n / 16) h := by
  simp [Node.hdrOk, Node.Accepts, and_assoc]

theorem Node.hdrOk_ring_iff (x : Node) (ring : Nat) (h : WaleHdr) : x.hdrOk (16 * ring) h = true ↔ x.Accepts ring h := by
  rw [Node.hdrOk_iff, Nat.mul_div_cancel_left ring (by decide)]

/-- Check 3 of R95 as the rule states it. -/
theorem Node.seqOk_iff (x : Node) (h : WaleHdr) :
    x.seqOk h = true ↔ ∀ e, x.nc.wseqEpoch = some e → e < h.epoch ∨ (e = h.epoch ∧ 0 < (h.seq - x.nc.wseq).toInt) := by
  unfold Node.seqOk
  cases x.nc.wseqEpoch <;> simp

/-- What R98 asks of a supplementary record. -/
theorem Node.suppOk_iff (x : Node) (n : Nat) (h : WaleHdr) (r : NodeRec) (a : BitVec 40) :
    x.suppOk n h r a = true ↔
      x.Accepts (n / 16) h ∧ x.recOk r = true ∧
        (∀ e, x.nc.wseqEpoch = some e → e < h.epoch ∨ (e = h.epoch ∧ 0 < (h.seq - x.nc.wseq).toInt)) ∧
        x.ns = .run ∧ h.tick = x.nx.tick ∧ (tbDiff h.tgtT0 x.t0).natAbs ≤ 256 ∧
        (∀ e ∈ r.edges, 1200 * 256 ≤ tbDiff (h.tgtT0 + BitVec.ofNat 40 e.offset) a) ∧
        (∀ l : Nat, l < 8 → (x.leg l).execd + ((x.leg l).merged l r.edges).length ≤ 8) := by
  simp only [Node.suppOk, Bool.and_eq_true, Node.hdrOk_iff, Node.seqOk_iff, decide_eq_true_eq, List.all_eq_true, List.mem_range,
    and_assoc]

/-- An accepted header leaves EPOCH_SEEN at its own epoch (R94). -/
theorem Node.epochSeen_seeEpoch {x : Node} {ring : Nat} {h : WaleHdr} (hok : x.Accepts ring h) :
    (x.seeEpoch h).nc.epochSeen = h.epoch :=
  Nat.max_eq_right hok.epochSeen_le

/-- A header once accepted stays acceptable, so the checks of its record read the same after it. -/
theorem Node.hdrOk_seeEpoch {x : Node} {n : Nat} {h : WaleHdr} (hok : x.hdrOk n h = true) : (x.seeEpoch h).hdrOk n h = true := by
  have haccepts := (x.hdrOk_iff n h).mp hok
  have hseen := (Node.epochSeen_seeEpoch haccepts).le
  obtain ⟨hcrc, hring, -⟩ := haccepts
  exact ((x.seeEpoch h).hdrOk_iff n h).mpr ⟨hcrc, hring, hseen⟩

theorem Node.suppOk_seeEpoch {x : Node} {n : Nat} {h : WaleHdr} (hok : x.hdrOk n h = true) (r : NodeRec) (a : BitVec 40) :
    (x.seeEpoch h).suppOk n h r a = x.suppOk n h r a := by
  unfold Node.suppOk
  rw [Node.hdrOk_seeEpoch hok, hok]
  rfl

/-- A failed check counts in RXERR, or at its limit in CNT_OVF, and touches nothing else. -/
theorem Node.rxErr_frame (x : Node) : ∃ c o, x.rxErr = { x with nx.rxErrSince := true, nc.rxerr := c, nr.cntOvf := o } := by
  unfold Node.rxErr Node.cnt
  split
  · exact ⟨_, _, rfl⟩
  · exact ⟨_, _, rfl⟩

/-- `y` is `x` with what it heard discarded: legs, WSEQ, mandate holder, accepted record and state stand. -/
def Node.Discards (x y : Node) : Prop :=
  y.legs = x.legs ∧ y.nc.wseq = x.nc.wseq ∧ y.nc.wseqEpoch = x.nc.wseqEpoch ∧ y.nr.mandate = x.nr.mandate ∧ y.nx.pend = x.nx.pend ∧
    y.ns = x.ns

theorem Node.rxErr_discards (x : Node) : x.Discards x.rxErr := by
  obtain ⟨c, o, h⟩ := x.rxErr_frame
  rw [h]
  exact ⟨rfl, rfl, rfl, rfl, rfl, rfl⟩

theorem Node.suprej_rxErr (x : Node) : x.rxErr.nc.suprej = x.nc.suprej := by
  obtain ⟨c, o, h⟩ := x.rxErr_frame
  rw [h]

theorem Node.epochSeen_rxErr (x : Node) : x.rxErr.nc.epochSeen = x.nc.epochSeen := by
  obtain ⟨c, o, h⟩ := x.rxErr_frame
  rw [h]

/-! ## A Wale header (R94, R96) -/

/-- What a node takes from a Wale header. -/
def Node.takeHeader (x : Node) (n ring : Nat) (h : WaleHdr) : Node :=
  if x.hdrOk (16 * ring) h then (x.seeEpoch h).takeNen n h
  else if h.hcrcOk && decide (h.ring = ring) then x
  else x.rxErr

/-- A regular header ends the node's own frame, and what waited behind it leaves first (R54, R67). -/
def State.beforeHeader (s : State) (n : Nat) (h : WaleHdr) : State := if h.supp then s else s.releaseHeld n

theorem State.node_beforeHeader (s : State) (n : Nat) (h : WaleHdr) : ∃ v, (s.beforeHeader n h).node n = (s.node n).withFwd v := by
  unfold State.beforeHeader
  split
  · exact ⟨_, rfl⟩
  · exact s.node_releaseHeld n

theorem State.beforeHeader_touches (s : State) (n : Nat) (h : WaleHdr) : TouchesNode n s (s.beforeHeader n h) := by
  unfold State.beforeHeader
  split
  · exact .refl n s
  · exact s.releaseHeld_touches n

theorem exec_nodeWaleHeader (s : State) (n : Fin 768) (ring : Nat) (h : WaleHdr) (hp : (s.node n).powered = true) :
    ∃ t v w, exec (.nodeWaleHeader n ring h) s = .next t ∧ t.node n = (((s.node n).withFwd v).takeHeader n ring h).withFwd w ∧
      TouchesNode n s t := by
  obtain ⟨v, hv⟩ := s.node_beforeHeader n h
  have hp' : ((s.beforeHeader n h).node n).powered = true := by rw [hv]; exact hp
  obtain ⟨w, hw⟩ := (s.beforeHeader n h).node_hears n h.endB (.waleHdr ring h) (fun x => x.takeHeader n ring h) hp'
  exact ⟨_, v, w, rfl, by rw [← hv]; exact hw, (s.beforeHeader_touches n h).trans (State.hears_touches _ n _ _ _)⟩

theorem Node.takeHeader_accepted {x : Node} {ring : Nat} {h : WaleHdr} (n : Nat) (hok : x.hdrOk (16 * ring) h = true) :
    x.takeHeader n ring h = (x.seeEpoch h).takeNen n h := by
  simp [Node.takeHeader, hok]

theorem Node.epochSeen_takeNen (x : Node) (n : Nat) (h : WaleHdr) : (x.takeNen n h).nc.epochSeen = x.nc.epochSeen := by
  unfold Node.takeNen
  split_ifs
  · rfl
  · dsimp only
    split_ifs <;> rfl
  · rfl

/-- A regular header for the next tick leaves its NEN bit and STATE waiting (R96). -/
theorem Node.nenPend_takeNen {x : Node} {h : WaleHdr} (n : Nat) (hsupp : h.supp = false) (htick : h.tick = x.nx.tick + 1) :
    (x.takeNen n h).nc.nenPend = some (h.tick, h.nen.getLsbD (n % 16), h.state) := by
  simp only [Node.takeNen, hsupp, Bool.false_eq_true, if_false, htick, true_or, if_true]
  split_ifs <;> rfl

/-- A header that is not accepted leaves EPOCH_SEEN and what waits for a boundary. -/
theorem Node.takeHeader_refused {x : Node} {ring : Nat} {h : WaleHdr} (n : Nat) (hok : ¬ x.hdrOk (16 * ring) h = true) :
    (x.takeHeader n ring h).nc.epochSeen = x.nc.epochSeen ∧ (x.takeHeader n ring h).nc.nenPend = x.nc.nenPend ∧
      (x.takeHeader n ring h).nx.pendBoundary = x.nx.pendBoundary ∧ x.Discards (x.takeHeader n ring h) := by
  unfold Node.takeHeader
  rw [if_neg hok]
  split
  · exact ⟨rfl, rfl, rfl, rfl, rfl, rfl, rfl, rfl, rfl⟩
  · refine ⟨x.epochSeen_rxErr, ?_, ?_, x.rxErr_discards⟩
    all_goals
      obtain ⟨c, o, h⟩ := x.rxErr_frame
      rw [h]

/-! ## The record of a regular Wale that is unusable, or of lower epoch (R94) -/

/-- What a node takes from a regular record. -/
def Node.takeRegular (x : Node) (n : Nat) (h : WaleHdr) (r : NodeRec) (arrival : BitVec 40) : Node :=
  if !x.hdrOk n h || h.supp || decide (r.pos ≠ n % 16) then x
  else
    let x := x.seeEpoch h
    if !r.rcrcOk then x.rxErr
    else if !x.recOk r || !x.seqOk h || !x.tickOk h || x.dup h then x
    else if x.lateRec h (x.tb0At arrival) then x.cnt x.nc.late (fun y v => { y with nc.late := v })
    else (x.accept n h r).cmdBits r

theorem exec_nodeRegularRecord (s : State) (n : Fin 768) (h : WaleHdr) (r : NodeRec) (arrival : BitVec 40)
    (hp : (s.node n).powered = true) :
    ∃ t w, exec (.nodeRegularRecord n h r arrival) s = .next t ∧ t.node n = ((s.node n).takeRegular n h r arrival).withFwd w ∧
      TouchesNode n s t := by
  obtain ⟨w, hw⟩ := s.node_hears n h.endB (.record h r) (fun x => x.takeRegular n h r arrival) hp
  exact ⟨_, w, rfl, hw, s.hears_touches n _ _ _⟩

theorem Node.takeRegular_unusable {x : Node} {n : Nat} {h : WaleHdr} {r : NodeRec} (arrival : BitVec 40) (hok : x.hdrOk n h = true)
    (hsupp : h.supp = false) (hpos : r.pos = n % 16) (hcrc : r.rcrcOk = false) :
    x.takeRegular n h r arrival = (x.seeEpoch h).rxErr := by
  simp [Node.takeRegular, hok, hsupp, hpos, hcrc]

theorem Node.takeRegular_lowerEpoch {x : Node} {h : WaleHdr} (n : Nat) (r : NodeRec) (arrival : BitVec 40)
    (hlow : h.epoch < x.nc.epochSeen) : x.takeRegular n h r arrival = x := by
  have hno : x.hdrOk n h = false := by
    rw [Bool.eq_false_iff, ne_eq, Node.hdrOk_iff]
    exact fun hok => absurd hok.epochSeen_le (Nat.not_le.mpr hlow)
  simp [Node.takeRegular, hno]

/-! ## The merge of a supplementary record (R99) -/

/-- The merge of one leg. -/
def Node.mergeLeg (es : List Edge) (l : Nat) (x : Node) : Node :=
  match suppFirst l es with
  | none => x
  | some f =>
    if x.legDead l then x
    else x.setLeg l { x.leg l with
      edges := (x.leg l).merged l es, suppFrom := some (Nat.min ((x.leg l).suppFrom.getD f) f) }

theorem Node.leg_setLeg (x : Node) (j l : Nat) (g : NodeLeg) : (x.setLeg l g).leg j = if j = l then g else x.leg j :=
  Tab.get_set _ _ _ _ _

section
variable (es : List Edge)

theorem Node.mergeLeg_frame (l : Nat) (x : Node) : ∃ m, Node.mergeLeg es l x = { x with legs := m } := by
  unfold Node.mergeLeg
  split
  · exact ⟨_, rfl⟩
  · split
    · exact ⟨_, rfl⟩
    · exact ⟨_, rfl⟩

theorem Node.leg_mergeLeg_ne {j l : Nat} (hne : j ≠ l) (x : Node) : (Node.mergeLeg es l x).leg j = x.leg j := by
  unfold Node.mergeLeg
  split
  · rfl
  · split
    · rfl
    · rw [Node.leg_setLeg, if_neg hne]

theorem Node.edges_mergeLeg {l : Nat} {x : Node} (halive : x.legDead l = false) :
    ((Node.mergeLeg es l x).leg l).edges = (x.leg l).merged l es := by
  unfold Node.mergeLeg
  split
  next hnone => simp [NodeLeg.merged, hnone]
  next => simp [halive, Node.leg_setLeg]

/-- The merge of the legs below `k` changes the legs only. -/
theorem Node.mergeUpTo_frame (k : Nat) (x : Node) : ∃ m, forUpTo (Node.mergeLeg es) k x = { x with legs := m } := by
  induction k with
  | zero => exact ⟨_, rfl⟩
  | succ k ih =>
    obtain ⟨m, hm⟩ := ih
    obtain ⟨m', hm'⟩ := Node.mergeLeg_frame es k (forUpTo (Node.mergeLeg es) k x)
    exact ⟨m', by rw [forUpTo, hm', hm]⟩

theorem Node.leg_mergeUpTo_of_le {k l : Nat} (hle : k ≤ l) (x : Node) : (forUpTo (Node.mergeLeg es) k x).leg l = x.leg l := by
  induction k with
  | zero => rfl
  | succ k ih => rw [forUpTo, Node.leg_mergeLeg_ne es (by omega), ih (by omega)]

/-- Whether a leg takes edges does not depend on the legs' edges. -/
theorem Node.legDead_mergeUpTo (k l : Nat) (x : Node) : (forUpTo (Node.mergeLeg es) k x).legDead l = x.legDead l := by
  obtain ⟨m, hm⟩ := Node.mergeUpTo_frame es k x
  rw [hm]
  rfl

theorem Node.edges_mergeUpTo {k l : Nat} {x : Node} (hlt : l < k) (halive : x.legDead l = false) :
    ((forUpTo (Node.mergeLeg es) k x).leg l).edges = (x.leg l).merged l es := by
  induction k with
  | zero => omega
  | succ k ih =>
    rw [forUpTo]
    obtain rfl | hne := eq_or_ne l k
    · rw [Node.edges_mergeLeg es (by rw [Node.legDead_mergeUpTo, halive]), Node.leg_mergeUpTo_of_le es le_rfl]
    · rw [Node.leg_mergeLeg_ne es hne, ih (by omega)]

end

/-- The merge of a record changes the legs only. -/
theorem Node.merge_frame (x : Node) (es : List Edge) : ∃ m, x.merge es = { x with legs := m } := Node.mergeUpTo_frame es 8 x

theorem Node.edges_merge {x : Node} {l : Nat} (es : List Edge) (hl : l < 8) (halive : x.legDead l = false) :
    ((x.merge es).leg l).edges = (x.leg l).merged l es := Node.edges_mergeUpTo es hl halive

/-! ## The record of a supplementary Wale (R98) -/

/-- The node counts a discarded record in SUPREJ, or at its limit sets CNT_OVF. -/
def Node.reject (x : Node) : Node := x.cnt x.nc.suprej (fun y v => { y with nc.suprej := v })

/-- What a node takes from a supplementary record. -/
def Node.takeSupp (x : Node) (n : Nat) (h : WaleHdr) (r : NodeRec) (arrival : BitVec 40) : Node :=
  if !h.supp || decide (r.pos ≠ n % 16) then x
  else
    let y := if x.hdrOk n h then x.seeEpoch h else x
    if y.suppOk n h r (y.tb0At arrival) then (y.mandated h).merge r.edges
    else if h.hcrcOk && r.rcrcOk then y.reject
    else y.reject.rxErr

theorem exec_nodeSupplementaryRecord (s : State) (n : Fin 768) (h : WaleHdr) (r : NodeRec) (arrival : BitVec 40)
    (hp : (s.node n).powered = true) :
    ∃ t w, exec (.nodeSupplementaryRecord n h r arrival) s = .next t ∧ t.node n = ((s.node n).takeSupp n h r arrival).withFwd w ∧
      TouchesNode n s t := by
  obtain ⟨w, hw⟩ := s.node_hears n h.endB (.record h r) (fun x => x.takeSupp n h r arrival) hp
  exact ⟨_, w, rfl, hw, s.hears_touches n _ _ _⟩

theorem Node.reject_discards (x : Node) : x.Discards x.reject := by
  unfold Node.reject Node.cnt
  split
  · exact ⟨rfl, rfl, rfl, rfl, rfl, rfl⟩
  · exact ⟨rfl, rfl, rfl, rfl, rfl, rfl⟩

theorem Node.suprej_reject {x : Node} (hlim : x.nc.suprej + 1 < 2 ^ 32) : x.reject.nc.suprej = x.nc.suprej + 1 := by
  rw [Node.reject, Node.cnt, if_pos hlim]

/-- `y` has discarded a supplementary record that `x` heard, whole, and counted it. -/
def Node.Rejects (x y : Node) : Prop :=
  x.Discards y ∧ (x.nc.suprej + 1 < 2 ^ 32 → y.nc.suprej = x.nc.suprej + 1)

theorem Node.Discards.trans {x y z : Node} (h : x.Discards y) (k : y.Discards z) : x.Discards z := by
  obtain ⟨hlegs, hwseq, hepoch, hmandate, hpend, hns⟩ := h
  obtain ⟨klegs, kwseq, kepoch, kmandate, kpend, kns⟩ := k
  exact ⟨klegs.trans hlegs, kwseq.trans hwseq, kepoch.trans hepoch, kmandate.trans hmandate, kpend.trans hpend, kns.trans hns⟩

theorem Node.rejects_reject (x : Node) : x.Rejects x.reject := ⟨x.reject_discards, Node.suprej_reject⟩

theorem Node.rejects_reject_rxErr (x : Node) : x.Rejects x.reject.rxErr :=
  ⟨x.reject_discards.trans x.reject.rxErr_discards, fun hlim => x.reject.suprej_rxErr.trans (Node.suprej_reject hlim)⟩

section
variable {x : Node} {n : Nat} {h : WaleHdr} {r : NodeRec} {arrival : BitVec 40} (hsupp : h.supp = true) (hpos : r.pos = n % 16)
include hsupp hpos

/-- A record that passes R98 is merged whole, under the sender's mandate. -/
theorem Node.takeSupp_accepted (hok : x.suppOk n h r (x.tb0At arrival) = true) :
    x.takeSupp n h r arrival = ((x.seeEpoch h).mandated h).merge r.edges := by
  have hhdr : x.hdrOk n h = true := (x.hdrOk_iff n h).mpr ((x.suppOk_iff n h r _).mp hok).left
  have hseen : (x.seeEpoch h).suppOk n h r ((x.seeEpoch h).tb0At arrival) = true := (Node.suppOk_seeEpoch hhdr r _).trans hok
  simp [Node.takeSupp, hsupp, hpos, hhdr, hseen]

/-- A record that fails R98 is discarded whole and counted. -/
theorem Node.takeSupp_rejected (hno : ¬ x.suppOk n h r (x.tb0At arrival) = true) : x.Rejects (x.takeSupp n h r arrival) := by
  by_cases hhdr : x.hdrOk n h = true
  · have hseen : ¬ (x.seeEpoch h).suppOk n h r ((x.seeEpoch h).tb0At arrival) = true := by
      rw [← Node.suppOk_seeEpoch hhdr] at hno
      exact hno
    have htake : x.takeSupp n h r arrival =
        if h.hcrcOk && r.rcrcOk then (x.seeEpoch h).reject else (x.seeEpoch h).reject.rxErr := by
      simp [Node.takeSupp, hsupp, hpos, hhdr, hseen]
    rw [htake]
    split
    · exact (x.seeEpoch h).rejects_reject
    · exact (x.seeEpoch h).rejects_reject_rxErr
  · have htake : x.takeSupp n h r arrival = if h.hcrcOk && r.rcrcOk then x.reject else x.reject.rxErr := by
      simp [Node.takeSupp, hsupp, hpos, hhdr, hno]
    rw [htake]
    split
    · exact x.rejects_reject
    · exact x.rejects_reject_rxErr

end

/-- A record whose SEQ and EPOCH the node has taken fails check 3, whenever it comes again (R98). -/
theorem Node.suppOk_again {x : Node} {h : WaleHdr} (n : Nat) (r : NodeRec) (a : BitVec 40) (hseq : x.nc.wseq = h.seq)
    (hepoch : x.nc.wseqEpoch = some h.epoch) : ¬ x.suppOk n h r a = true := by
  rw [Node.suppOk_iff]
  rintro ⟨-, -, hlater, -⟩
  obtain hlt | ⟨-, hpos⟩ := hlater h.epoch hepoch
  · exact lt_irrefl _ hlt
  · simp [hseq] at hpos

/-! ## The settled statement -/

section
variable {s : State} {n : Fin 768} {h : WaleHdr} {r : NodeRec} (hp : (s.node n).powered = true)
include hp

/-- R94 and R96: an accepted header raises EPOCH_SEEN, and a regular one for the next tick leaves its NEN bit. -/
theorem nodeWaleHeader_accepted {ring : Nat} (hok : (s.node n).Accepts ring h) :
    ∃ t, exec (.nodeWaleHeader n ring h) s = .next t ∧ (t.node n).nc.epochSeen = h.epoch ∧ TouchesNode n s t ∧
      (h.supp = false → h.tick = (s.node n).nx.tick + 1 →
        (t.node n).nc.nenPend = some (h.tick, h.nen.getLsbD (n % 16), h.state)) := by
  obtain ⟨t, v, w, hexec, hnode, htouch⟩ := exec_nodeWaleHeader s n ring h hp
  replace hok : ((s.node n).withFwd v).Accepts ring h := hok
  have hhdr := (Node.hdrOk_ring_iff _ ring h).mpr hok
  rw [Node.takeHeader_accepted n hhdr] at hnode
  refine ⟨t, hexec, ?_, htouch, fun hsupp htick => ?_⟩ <;> rw [hnode]
  · exact (Node.epochSeen_takeNen _ n h).trans (Node.epochSeen_seeEpoch hok)
  · exact Node.nenPend_takeNen n hsupp htick

theorem nodeWaleHeader_refused {ring : Nat} (hno : ¬ (s.node n).Accepts ring h) :
    ∃ t, exec (.nodeWaleHeader n ring h) s = .next t ∧ (t.node n).nc.epochSeen = (s.node n).nc.epochSeen ∧
      (t.node n).nc.nenPend = (s.node n).nc.nenPend ∧ (t.node n).nx.pendBoundary = (s.node n).nx.pendBoundary ∧
      (s.node n).Discards (t.node n) ∧ TouchesNode n s t := by
  obtain ⟨t, v, w, hexec, hnode, htouch⟩ := exec_nodeWaleHeader s n ring h hp
  have hhdr : ¬ ((s.node n).withFwd v).hdrOk (16 * ring) h = true := fun hok => hno ((Node.hdrOk_ring_iff _ ring h).mp hok)
  obtain ⟨hepoch, hnen, hboundary, hdiscards⟩ := Node.takeHeader_refused n hhdr
  refine ⟨t, hexec, ?_, ?_, ?_, ?_, htouch⟩ <;> rw [hnode]
  · exact hepoch
  · exact hnen
  · exact hboundary
  · exact hdiscards

/-- R94: EPOCH_SEEN rises with a record that is unusable too. -/
theorem nodeRegularRecord_unusable (arrival : BitVec 40) (hok : (s.node n).Accepts (n / 16) h)
    (hsupp : h.supp = false) (hpos : r.pos = n % 16) (hcrc : r.rcrcOk = false) :
    ∃ t, exec (.nodeRegularRecord n h r arrival) s = .next t ∧ (t.node n).nc.epochSeen = h.epoch ∧
      (s.node n).Discards (t.node n) ∧ TouchesNode n s t := by
  obtain ⟨t, w, hexec, hnode, htouch⟩ := exec_nodeRegularRecord s n h r arrival hp
  rw [Node.takeRegular_unusable arrival ((Node.hdrOk_iff _ _ h).mpr hok) hsupp hpos hcrc] at hnode
  refine ⟨t, hexec, ?_, ?_, htouch⟩ <;> rw [hnode]
  · exact (Node.epochSeen_rxErr _).trans (Node.epochSeen_seeEpoch hok)
  · exact Node.rxErr_discards ((s.node n).seeEpoch h)

/-- R94: a Wale of lower epoch leaves the node but for what waits at its ports. -/
theorem nodeRegularRecord_lowerEpoch (arrival : BitVec 40) (hlow : h.epoch < (s.node n).nc.epochSeen) :
    ∃ t, exec (.nodeRegularRecord n h r arrival) s = .next t ∧ t.node n = (s.node n).withFwd (t.node n).np.fwd ∧
      TouchesNode n s t := by
  obtain ⟨t, w, hexec, hnode, htouch⟩ := exec_nodeRegularRecord s n h r arrival hp
  rw [Node.takeRegular_lowerEpoch n r arrival hlow] at hnode
  exact ⟨t, hexec, by rw [hnode]; rfl, htouch⟩

section
variable {arrival : BitVec 40} (hsupp : h.supp = true) (hpos : r.pos = n % 16)
include hsupp hpos

/-- R98: a supplementary record that fails a check is discarded whole and counted. -/
theorem nodeSupplementaryRecord_rejected (hno : ¬ (s.node n).suppOk n h r ((s.node n).tb0At arrival) = true) :
    ∃ t, exec (.nodeSupplementaryRecord n h r arrival) s = .next t ∧ (s.node n).Rejects (t.node n) ∧ TouchesNode n s t := by
  obtain ⟨t, w, hexec, hnode, htouch⟩ := exec_nodeSupplementaryRecord s n h r arrival hp
  have hrejects := Node.takeSupp_rejected hsupp hpos hno
  exact ⟨t, hexec, by rw [hnode]; exact hrejects, htouch⟩

/-- R98 and R99: one that passes is merged whole, makes its sender the mandate holder, and leaves the node as the merge gives it. -/
theorem nodeSupplementaryRecord_accepted (hok : (s.node n).suppOk n h r ((s.node n).tb0At arrival) = true) :
    ∃ t w, exec (.nodeSupplementaryRecord n h r arrival) s = .next t ∧
      t.node n = ((((s.node n).seeEpoch h).mandated h).merge r.edges).withFwd w ∧ TouchesNode n s t := by
  obtain ⟨t, w, hexec, hnode, htouch⟩ := exec_nodeSupplementaryRecord s n h r arrival hp
  rw [Node.takeSupp_accepted hsupp hpos hok] at hnode
  exact ⟨t, w, hexec, hnode, htouch⟩

/-- R98: a resent copy fails check 3, and the legs stand. -/
theorem nodeSupplementaryRecord_again (hseq : (s.node n).nc.wseq = h.seq) (hepoch : (s.node n).nc.wseqEpoch = some h.epoch) :
    ∃ u, exec (.nodeSupplementaryRecord n h r arrival) s = .next u ∧ (u.node n).legs = (s.node n).legs := by
  obtain ⟨u, hexec, ⟨⟨hlegs, -⟩, -⟩, -⟩ :=
    nodeSupplementaryRecord_rejected hp hsupp hpos (Node.suppOk_again n r ((s.node n).tb0At arrival) hseq hepoch)
  exact ⟨u, hexec, hlegs⟩

end

end

/-- Settles O56: the header clauses and the two discards of a regular record by what the node takes from each, the supplementary record
by the two outcomes of R98's checks. -/
theorem headersAndSupplementaryRecords : Obligations.HeadersAndSupplementaryRecords := by
  intro s n ring h r arrival hp
  refine ⟨nodeWaleHeader_accepted hp, nodeWaleHeader_refused hp, nodeRegularRecord_unusable hp arrival,
    nodeRegularRecord_lowerEpoch hp arrival, fun hsupp hpos => ⟨fun hok => ?_, fun hno => ?_⟩⟩
  · have hpass := ((s.node n).suppOk_iff n h r ((s.node n).tb0At arrival)).mpr hok
    obtain ⟨t, w, hexec, hnode, htouch⟩ := nodeSupplementaryRecord_accepted hp hsupp hpos hpass
    obtain ⟨m, hmerge⟩ := (((s.node n).seeEpoch h).mandated h).merge_frame r.edges
    have hframe : t.node n = { ((s.node n).seeEpoch h).mandated h with legs := m, np.fwd := w } := by rw [hnode, hmerge]; rfl
    have hlegs : (t.node n).legs = ((((s.node n).seeEpoch h).mandated h).merge r.edges).legs := by rw [hnode]; rfl
    refine ⟨t, hexec, ?_, ?_, ?_, htouch, fun l hl halive => ?_, fun again => ?_⟩
    · rw [hframe]
      exact Node.epochSeen_seeEpoch hok.left
    · rw [hframe]; rfl
    · rw [hframe]; rfl
    · rw [Node.leg, hlegs]
      exact Node.edges_merge r.edges hl halive
    · exact nodeSupplementaryRecord_again (by rw [hframe]; exact hp) hsupp hpos (by rw [hframe]; rfl) (by rw [hframe]; rfl)
  · have hfail : ¬ (s.node n).suppOk n h r ((s.node n).tb0At arrival) = true := fun hpass =>
      hno (((s.node n).suppOk_iff n h r _).mp hpass)
    obtain ⟨t, hexec, ⟨hdiscards, hcount⟩, htouch⟩ := nodeSupplementaryRecord_rejected hp hsupp hpos hfail
    exact ⟨t, hexec, hdiscards, htouch, hcount⟩

end Sys2Proof.Machine
end
